-- ==== Sys2Proof/Word.lean ====
section
/-! DEFINITION. The words of the part: a byte of a frame (ch. 11) and a path position (R111). -/

namespace Sys2Proof

/-- One byte on a port or on the head line. -/
abbrev Byte := BitVec 8

/-- A path position: a 32-bit count that wraps around (R111; overview, Arithmetic). -/
abbrev Pos := BitVec 32

end Sys2Proof
end

