-- ==== Sys2Proof/Syntax.lean ====
section
/-! DEFINITION. The commands of the part: one constructor per row of spec/opcode_table.json. -/

namespace Sys2Proof

/-- The three ports (R165). -/
inductive Port where
  | job
  | engine
  | desk
  deriving DecidableEq, Repr

/-- The direction FEED_DIR gives at an edge of FEED_STEP (R111). -/
inductive Direction where
  | forward
  | reverse
  deriving DecidableEq, Repr

/-- A command: one row of the table of operations and events, each whole and indivisible
(95_what_each_step_holds.md). A request carries the port its frame ends on, the tag byte and the
payload bytes; the frame's kind is the constructor and its check is good (log 6). -/
inductive Instr where
  | submitJob (p : Port) (tag : Byte) (payload : List Byte)
  | queryJob (p : Port) (tag : Byte) (payload : List Byte)
  | holdJob (p : Port) (tag : Byte) (payload : List Byte)
  | releaseJob (p : Port) (tag : Byte) (payload : List Byte)
  | cancelJob (p : Port) (tag : Byte) (payload : List Byte)
  | collectJob (p : Port) (tag : Byte) (payload : List Byte)
  | declareDrops (p : Port) (tag : Byte) (payload : List Byte)
  | swathReport (p : Port) (tag : Byte) (payload : List Byte)
  | maintReport (p : Port) (tag : Byte) (payload : List Byte)
  | panelRequest (p : Port) (tag : Byte) (payload : List Byte)
  | panelDone (p : Port) (tag : Byte) (payload : List Byte)
  | panelAbort (p : Port) (tag : Byte) (payload : List Byte)
  | engineStatus (p : Port) (tag : Byte) (payload : List Byte)
  | holdTaken (p : Port) (tag : Byte) (payload : List Byte)
  | declareCartridge (p : Port) (tag : Byte) (payload : List Byte)
  | setChannel (p : Port) (tag : Byte) (payload : List Byte)
  | readInk (p : Port) (tag : Byte) (payload : List Byte)
  | setBayCal (p : Port) (tag : Byte) (payload : List Byte)
  | setScan (p : Port) (tag : Byte) (payload : List Byte)
  | startScan (p : Port) (tag : Byte) (payload : List Byte)
  | setPower (p : Port) (tag : Byte) (payload : List Byte)
  | writePhases (p : Port) (tag : Byte) (payload : List Byte)
  | loadPhases (p : Port) (tag : Byte) (payload : List Byte)
  | setClassMap (p : Port) (tag : Byte) (payload : List Byte)
  | mountRoll (p : Port) (tag : Byte) (payload : List Byte)
  | unmountRoll (p : Port) (tag : Byte) (payload : List Byte)
  | setMediaType (p : Port) (tag : Byte) (payload : List Byte)
  | setPath (p : Port) (tag : Byte) (payload : List Byte)
  | clearCutter (p : Port) (tag : Byte) (payload : List Byte)
  | setReference (p : Port) (tag : Byte) (payload : List Byte)
  | setHistorySize (p : Port) (tag : Byte) (payload : List Byte)
  | readHistory (p : Port) (tag : Byte) (payload : List Byte)
  | setPrices (p : Port) (tag : Byte) (payload : List Byte)
  | setAccount (p : Port) (tag : Byte) (payload : List Byte)
  | readAccount (p : Port) (tag : Byte) (payload : List Byte)
  | setTime (p : Port) (tag : Byte) (payload : List Byte)
  | setFaultPolicy (p : Port) (tag : Byte) (payload : List Byte)
  | fetchNotices (p : Port) (tag : Byte) (payload : List Byte)
  | setNoticeLevels (p : Port) (tag : Byte) (payload : List Byte)
  | readFaults (p : Port) (tag : Byte) (payload : List Byte)
  | clearFaults (p : Port) (tag : Byte) (payload : List Byte)
  /-- A request transfer of these bytes ends, and the frame fails a check of R167. -/
  | badFrame (p : Port) (bytes : List Byte)
  /-- A request transfer of these bytes ends while the port is IN_SERVICE (R169). -/
  | overlap (p : Port) (bytes : List Byte)
  /-- A read transfer in which the master clocks this many bytes (R166). -/
  | readTransfer (p : Port) (count : Nat)
  | portReset (p : Port)
  | portResetRelease (p : Port)
  | deviceReset
  | resetRelease
  | cartridgePresentRise (bay : Fin 24)
  | cartridgePresentFall (bay : Fin 24)
  | feedStep (d : Direction)
  | cutHomeFall
  | cutHomeRise
  /-- Bytes on the head line that complete a message of kind PATCH (R186). -/
  | patch (bytes : List Byte)
  /-- Bytes on the head line that complete a message of kind END (R186). -/
  | headEnd (bytes : List Byte)
  /-- Bytes on the head line that complete a message of another kind (R138, R186). -/
  | headOther (bytes : List Byte)
  /-- A byte that comes more than 10 ms after the byte before it (R186). -/
  | headByteGap (b : Byte)
  | scanIntervalExpiry
  /-- The conversion of the running scan's next input completes with this raw count (R70). -/
  | sampleConversion (raw : BitVec 12)
  | scanComplete
  | holdAckExpiry
  | pauseExpiry
  | cutterTimerExpiry
  | dryWaitExpiry
  | headTimerExpiry
  | powerApplied
  deriving DecidableEq, Repr

end Sys2Proof
end

