-- ==== Sys2Proof/Config.lean ====
section
/-! DEFINITION. The constants of the part, and the values the spec leaves free. A free value is an
opaque constant with no body: a statement about it holds whatever it is. -/

namespace Sys2Proof.Config

/-- Entries of the copy pool (R2). -/
def poolSize : Nat := 1024

/-- Entries a notice queue holds (R172). -/
def queueSize : Nat := 32

/-- Entries the mark list holds (R113). -/
def markLimit : Nat := 64

/-- Greatest payload of a request frame (R166, 9.2). -/
def maxPayload : Nat := 1020

/-- Milliseconds of a day (R181). -/
def msPerDay : Nat := 86400000

/-- FREE VALUE (log 9): a figure held in 48 bits whose exact sum does not fit. The argument is the
exact sum. DESIGN CHOICE, safe: the spec states no result there. -/
opaque sumBeyond48 : Nat → BitVec 48

/-- FREE VALUE (log 9): a figure held in 64 bits whose exact sum does not fit. -/
opaque sumBeyond64 : Nat → BitVec 64

/-- FREE VALUE (log 11): what the valid flag of a PATCH message says when its byte is neither 0
nor 1. DESIGN CHOICE, safe: R184 and R186 state no meaning for such a byte on the head line. -/
opaque oddValidFlag : Byte → Bool

end Sys2Proof.Config
end

