-- ==== Sys2Proof/Machine/Tables.lean ====
section
/-! DEFINITION. Collections of fixed count: building one, changing one entry, changing all, summing.
They go through lists, so that the kernel evaluates them. -/

namespace Sys2Proof.Machine

/-- The collection whose entry `i` is `f i`. -/
def tabulate {α : Type} (n : Nat) (f : Fin n → α) : Vector α n :=
  ⟨⟨(List.finRange n).map f⟩, by simp⟩

/-- `v` with entry `i` changed by `f`. -/
def modifyAt {α : Type} {n : Nat} (v : Vector α n) (i : Fin n) (f : α → α) : Vector α n :=
  v.set i.val (f v[i]) i.isLt

/-- `v` with every entry changed by `f`. -/
def mapTable {α β : Type} {n : Nat} (f : α → β) (v : Vector α n) : Vector β n :=
  ⟨⟨v.toList.map f⟩, by simp⟩

/-- The sum over the entries of `f`. -/
def sumOver (n : Nat) (f : Fin n → Nat) : Nat := ((List.finRange n).map f).sum

/-- Some entry satisfies `f`. -/
def anyOf (n : Nat) (f : Fin n → Bool) : Bool := (List.finRange n).any f

/-- Every entry satisfies `f`. -/
def allOf (n : Nat) (f : Fin n → Bool) : Bool := (List.finRange n).all f

/-- The entry `i` of a list, changed by `f`; an index beyond the end changes nothing. -/
def modifyList {α : Type} (l : List α) (i : Nat) (f : α → α) : List α :=
  match l, i with
  | [], _ => []
  | x :: xs, 0 => f x :: xs
  | x :: xs, i + 1 => x :: modifyList xs i f

end Sys2Proof.Machine
end

