-- ==== Sys2Proof/Machine/State.lean ====
section
/-! DEFINITION. The state of the part: every record of every block, as plain data, with its reset
value. Blocks own their records as 00_scope.md, The blocks, lists them. A timer is the value of the
monotonic count at which it is due, or none while it is stopped. -/

namespace Sys2Proof.Machine

/-! ### Jobs, copies and attempts (ch. 1) -/

/-- A job, copy and attempt reference (11.1). Copies and attempts are counted from 1. -/
structure CopyRef where
  handle : Nat
  copy : Nat
  attempt : Nat
  deriving DecidableEq, Repr

/-- Job states (1.4). -/
inductive JobState where
  | waitInk | queued | closing | closed
  deriving DecidableEq, Repr

/-- Copy states (1.5). -/
inductive CopyState where
  | pending | printing | finishing | accepted | rejected | cancelled
  deriving DecidableEq, Repr

/-- End causes of an attempt (1.5, R12). -/
inductive EndCause where
  | done | pauseExpired | mediaOut | engineFault | engineRequest | engineLost | cancelled
  deriving DecidableEq, Repr

/-- Reasons of UNMEASURED (1.5). -/
inductive UnmeasuredReason where
  | missed | wet | head | patches
  deriving DecidableEq, Repr

/-- The measure outcome of an attempt (R13). -/
inductive MeasureOutcome where
  | none | pending | pass | fail
  | unmeasured (r : UnmeasuredReason)
  deriving DecidableEq, Repr

inductive WastePolicy where
  | client | house | shared
  deriving DecidableEq, Repr

inductive UnmeasuredPolicy where
  | accept | reprint
  deriving DecidableEq, Repr

/-- The class of a closed attempt (R15). -/
inductive AttemptClass where
  | accepted | cancelled | waste
  deriving DecidableEq, Repr

/-- A job's check policy, with the strip offset and length that are present with it (R5). -/
structure CheckPolicy where
  refSet : Fin 16
  absMax : Nat
  absMean : Nat
  editionCheck : Bool
  editionMax : Nat
  unmeasured : UnmeasuredPolicy
  stripOffset : Nat
  stripLength : Nat
  deriving DecidableEq, Repr

/-- A time and a path position (started and ended marks, R11, R12). -/
structure Stamp where
  time : Nat
  pos : Pos
  deriving DecidableEq, Repr

/-- What a booking writes into the attempt record (R159). -/
structure Booking where
  total : Nat
  client : Nat
  house : Nat
  deriving DecidableEq, Repr

/-- An attempt record (1.5), with the pause limit taken at the grant (R122) and the priced width
noted at the grant (R157). -/
structure Attempt where
  started : Option Stamp
  ended : Option Stamp
  accruedPause : Nat
  consumption : Vector Nat 12
  endCause : Option EndCause
  measure : MeasureOutcome
  measureDropped : Bool
  outstandingCuts : Nat
  cutsCharged : Nat
  uncut : Bool
  offset : Bool
  booked : Option Booking
  pauseLimit : Nat
  pricedWidth : Nat
  deriving DecidableEq, Repr

/-- A fresh attempt record (R11). -/
def Attempt.fresh : Attempt where
  started := none
  ended := none
  accruedPause := 0
  consumption := Vector.replicate 12 0
  endCause := none
  measure := .none
  measureDropped := false
  outstandingCuts := 0
  cutsCharged := 0
  uncut := false
  offset := false
  booked := none
  pauseLimit := 0
  pricedWidth := 0

/-- A copy record (1.5). Its copy number is its place in the job's copy list, counted from 1 (R2). -/
structure CopyRecord where
  state : CopyState
  attempt : Nat
  record : Attempt
  deriving DecidableEq, Repr

/-- A colour in hundredths (R129). -/
structure Colour where
  l : Int
  a : Int
  b : Int
  deriving DecidableEq, Repr

/-- A job record (1.2). -/
structure Job where
  state : JobState
  seq : BitVec 32
  account : Fin 32
  cls : Fin 8
  lane : Fin 4
  priceSet : Fin 4
  mediaType : Fin 16
  reprintLimit : Nat
  waste : WastePolicy
  check : Option CheckPolicy
  copyLength : Nat
  leadCut : Bool
  trailCut : Bool
  estimate : Vector Nat 12
  margin : Nat
  reservation : Vector Nat 12
  reservationHeld : Bool
  estimateCost : Nat
  held : Bool
  cancelled : Bool
  clientBooked : Nat
  houseBooked : Nat
  acceptedCount : Nat
  rejectedCount : Nat
  cancelledCount : Nat
  editionMatch : Option (List (Option Colour))
  copies : List CopyRecord
  deriving DecidableEq, Repr

/-- The Job store (1.1). The copy pool is held as the number of its free records (R2, log 21). -/
structure JobStore where
  jobs : Vector (Option Job) 32
  freeCopies : Nat
  nextSeq : BitVec 32
  waitList : List (Fin 32)
  deriving DecidableEq, Repr

def JobStore.atReset : JobStore where
  jobs := Vector.replicate 32 none
  freeCopies := Config.poolSize
  nextSeq := 0
  waitList := []

/-! ### Ink channels and cartridges (ch. 2) -/

/-- The side of a bay: bay number = 2 x channel + side (2.2). -/
inductive Side where
  | a | b
  deriving DecidableEq, Repr

/-- The channel record (R25). -/
structure Channel where
  active : Option Side
  lastActive : Option Side
  reserved : Nat
  overdraw : Nat
  short : Bool
  dry : Bool
  low : Bool
  dead : Nat
  tolerance : Nat
  density : Nat
  lowThreshold : Nat
  deriving DecidableEq, Repr

/-- The reset values of R25's table. -/
def Channel.atReset : Channel where
  active := none
  lastActive := none
  reserved := 0
  overdraw := 0
  short := false
  dry := true
  low := true
  dead := 3000000
  tolerance := 2000000
  density := 1050
  lowThreshold := 50000000

inductive BayState where
  | empty | inserted | ready | active | spent | expired
  deriving DecidableEq, Repr

/-- The cartridge data of a bay (R26). -/
structure Cartridge where
  declared : Nat
  level : Nat
  drawn : Nat
  writtenOff : Nat
  lot : BitVec 32
  expiry : Nat
  declaredAt : Nat
  deriving DecidableEq, Repr

/-- The removal record of a bay (R45). -/
structure Removal where
  state : BayState
  figures : Option Cartridge
  time : Nat
  deriving DecidableEq, Repr

/-- The load-cell calibration of a bay (R73). -/
structure Calibration where
  zero : Nat
  scale : Nat
  tare : Nat
  calibrated : Bool
  deriving DecidableEq, Repr

/-- The calibration when power is first applied (R73). -/
def Calibration.atPower : Calibration := { zero := 0, scale := 1000, tare := 0, calibrated := false }

/-- The bay record (R26). -/
structure Bay where
  state : BayState
  uncertain : Bool
  cart : Option Cartridge
  removal : Option Removal
  cal : Calibration
  deriving DecidableEq, Repr

/-- A bay after device reset: INSERTED or EMPTY by its present input, its calibration kept (R26,
R182). -/
def Bay.atReset (present : Bool) (cal : Calibration) : Bay where
  state := if present then .inserted else .empty
  uncertain := false
  cart := none
  removal := none
  cal := cal

structure InkUnit where
  channels : Vector Channel 12
  bays : Vector Bay 24
  deriving DecidableEq, Repr

/-! ### Metering (ch. 3) -/

structure DropVolumes where
  small : Nat
  medium : Nat
  large : Nat
  deriving DecidableEq, Repr

/-- Every entry is 5 when power is first applied (R49). -/
def DropVolumes.atPower : DropVolumes := { small := 5, medium := 5, large := 5 }

structure Metering where
  drops : Vector DropVolumes 12
  residue : Vector Nat 12
  confirmed : Bool
  deriving DecidableEq, Repr

/-! ### Sensor scan (ch. 4) -/

inductive TriggerKind where
  | desk | interval | copyEnd
  deriving DecidableEq, Repr

/-- The scan configuration (R66): the range, the trigger set as three flags, the interval in s. -/
structure ScanConfig where
  first : Fin 25
  last : Fin 25
  onDesk : Bool
  onInterval : Bool
  onCopyEnd : Bool
  seconds : Nat
  deriving DecidableEq, Repr

def ScanConfig.atReset : ScanConfig where
  first := 0
  last := 24
  onDesk := true
  onInterval := true
  onCopyEnd := true
  seconds := 60

/-- An entry of the sample table (R70). -/
structure Sample where
  raw : Nat
  time : Nat
  valid : Bool
  deriving DecidableEq, Repr

def Sample.atReset : Sample := { raw := 0, time := 0, valid := false }

/-- The running scan (R69, R72). `next` is the input whose conversion is under way; it passes `last`
when every input of the range has been converted. -/
structure RunningScan where
  kind : TriggerKind
  first : Fin 25
  last : Fin 25
  start : Nat
  qualifying : Bool
  next : Nat
  deriving DecidableEq, Repr

/-- The record of the last completed scan (R82). -/
structure ScanRecord where
  kind : TriggerKind
  first : Fin 25
  last : Fin 25
  start : Nat
  completed : Nat
  qualified : Bool
  compared : Nat
  writtenOff : Nat
  levelHigh : Nat
  deriving DecidableEq, Repr

/-- The Scan unit: RUNNING while `running` is present, IDLE otherwise. -/
structure ScanUnit where
  config : ScanConfig
  running : Option RunningScan
  last : Option ScanRecord
  overlap : Bool
  samples : Vector Sample 25
  timer : Option Nat
  deriving DecidableEq, Repr

/-- After device reset; the interval timer starts at the full interval (R66). -/
def ScanUnit.atReset : ScanUnit where
  config := ScanConfig.atReset
  running := none
  last := none
  overlap := false
  samples := Vector.replicate 25 Sample.atReset
  timer := some 60000

/-! ### Grants and the print schedule (ch. 5) -/

inductive Power where
  | run | capped
  deriving DecidableEq, Repr

/-- The current grant (R95), with the roll its descriptor carried. -/
structure Grant where
  ref : CopyRef
  printing : Bool
  roll : Fin 2
  deriving DecidableEq, Repr

structure Schedule where
  power : Power
  pendingCap : Bool
  classMap : Vector (Fin 4) 8
  live : Vector (Fin 4) 32
  staged : Vector (Fin 4) 32
  pointer : Fin 32
  loadPending : Bool
  grant : Option Grant
  abort : Option CopyRef
  deriving DecidableEq, Repr

/-- Phase i names lane i modulo 4 (R87). -/
def defaultPhases : Vector (Fin 4) 32 :=
  tabulate 32 fun i => ⟨i.val % 4, Nat.mod_lt _ (by decide)⟩

def Schedule.atReset : Schedule where
  power := .run
  pendingCap := false
  classMap := #v[0, 0, 1, 1, 2, 2, 3, 3]
  live := defaultPhases
  staged := defaultPhases
  pointer := 0
  loadPending := false
  grant := none
  abort := none

/-! ### The media path (ch. 6) -/

/-- A media type record (R106): width in steps, dry base and pause limit in s. -/
structure MediaType where
  defined : Bool
  width : Nat
  dryBase : Nat
  pauseLimit : Nat
  deriving DecidableEq, Repr

def MediaType.atReset : MediaType :=
  { defined := false, width := 1000, dryBase := 0, pauseLimit := 120 }

/-- The figures of a roll in MOUNTED and EXHAUSTED (R107). -/
structure RollFigures where
  mediaType : Fin 16
  width : Nat
  declared : Nat
  remaining : Nat
  netFed : Nat
  lowNoticed : Bool
  deriving DecidableEq, Repr

/-- A roll record (R107). -/
inductive Roll where
  | empty
  | mounted (f : RollFigures)
  | exhausted (f : RollFigures)
  deriving DecidableEq, Repr

/-- The path settings (R110): steps and ms. -/
structure PathSettings where
  dHead : Nat
  dCut : Nat
  cutTolerance : Nat
  ackLimit : Nat
  cutterTimeout : Nat
  headTimeout : Nat
  deriving DecidableEq, Repr

def PathSettings.atReset : PathSettings where
  dHead := 3500
  dCut := 6000
  cutTolerance := 20
  ackLimit := 1500
  cutterTimeout := 4000
  headTimeout := 25000

inductive MarkKind where
  | measure | cut
  deriving DecidableEq, Repr

inductive ServiceState where
  | notBegun | inService
  deriving DecidableEq, Repr

/-- A mark of the mark list (R113); the first-listed owner is the earlier one. -/
structure Mark where
  pos : Pos
  kind : MarkKind
  owners : List CopyRef
  fired : Bool
  service : ServiceState
  captured : Option Pos
  deriving DecidableEq, Repr

inductive HoldState where
  | free | requested | taken
  deriving DecidableEq, Repr

/-- The hold's reason set (R117). -/
structure Reasons where
  measure : Bool
  cut : Bool
  ink : Bool
  deriving DecidableEq, Repr

/-- The feed hold (R117, R118) with its acknowledge timer (R119). -/
structure Hold where
  reasons : Reasons
  state : HoldState
  captured : Option Pos
  ackTimer : Option Nat
  deriving DecidableEq, Repr

def Hold.atReset : Hold where
  reasons := { measure := false, cut := false, ink := false }
  state := .free
  captured := none
  ackTimer := none

/-- A pause period of the printing attempt (R122) and the time its pause timer is due (R123). -/
structure PausePeriod where
  start : Nat
  due : Nat
  deriving DecidableEq, Repr

inductive CutterState where
  | ready | starting | returning | fault
  deriving DecidableEq, Repr

structure Media where
  types : Vector MediaType 16
  rolls : Vector Roll 2
  rollInPath : Option (Fin 2)
  settings : PathSettings
  pos : Pos
  marks : List Mark
  hold : Hold
  pause : Option PausePeriod
  lastNone : Bool
  cutter : CutterState
  cutterTimer : Option Nat
  deriving DecidableEq, Repr

/-- After device reset; the cutter is READY or FAULT by CUT_HOME (R125). -/
def Media.atReset (cutHome : Bool) : Media where
  types := Vector.replicate 16 MediaType.atReset
  rolls := Vector.replicate 2 .empty
  rollInPath := none
  settings := PathSettings.atReset
  pos := 0
  marks := []
  hold := Hold.atReset
  pause := none
  lastNone := false
  cutter := if cutHome then .ready else .fault
  cutterTimer := none

/-! ### Colour verification (ch. 7) -/

/-- A reference set (R129). -/
structure RefSet where
  patches : List Colour
  inUse : Nat
  deriving DecidableEq, Repr

/-- The dry clock of a strip (R131, R132): the factor in percent, the required time in ms. -/
structure DryClock where
  start : Nat
  factor : Nat
  required : Nat
  deriving DecidableEq, Repr

/-- An entry of the strip table (R131). -/
structure StripEntry where
  ref : CopyRef
  mediaType : Fin 16
  clock : Option DryClock
  deriving DecidableEq, Repr

/-- A patch record received from the head (R138). -/
structure PatchRecord where
  colour : Colour
  valid : Bool
  deriving DecidableEq, Repr

/-- The phase of the measurement in progress (R133). -/
inductive MeasurePhase where
  | drying
  | exchanging (number : BitVec 8) (records : List PatchRecord)
  deriving DecidableEq, Repr

/-- The measurement in progress (R133). -/
structure Measurement where
  owner : CopyRef
  markPos : Pos
  captured : Pos
  overshoot : Int
  phase : MeasurePhase
  discard : Bool
  deriving DecidableEq, Repr

/-- A result of a service (R144). -/
inductive MeasureResult where
  | pass | fail
  | unmeasured (r : UnmeasuredReason)
  deriving DecidableEq, Repr

/-- An entry of the history ring (R147). -/
structure HistoryEntry where
  seq : BitVec 32
  day : Nat
  ms : Nat
  ref : CopyRef
  result : MeasureResult
  absMean : Option Nat
  absMax : Option Nat
  editionMax : Option Nat
  validRecords : Option Nat
  deriving DecidableEq, Repr

/-- The Colour unit. `history` is newest first. `gathered` holds the bytes of the message partly
gathered (R186). `sent` is the model's own: the bytes last sent on the head line (log 23). -/
structure ColourUnit where
  refs : Vector RefSet 16
  strips : List StripEntry
  measurement : Option Measurement
  exchange : BitVec 8
  dryTimer : Option Nat
  headTimer : Option Nat
  gathered : List Byte
  sent : List Byte
  histSize : Nat
  history : List HistoryEntry
  histSeq : BitVec 32
  deriving DecidableEq, Repr

def ColourUnit.atReset : ColourUnit where
  refs := Vector.replicate 16 { patches := [], inUse := 0 }
  strips := []
  measurement := none
  exchange := 0
  dryTimer := none
  headTimer := none
  gathered := []
  sent := []
  histSize := 128
  history := []
  histSeq := 0

/-! ### Costing and accounts (ch. 8) -/

/-- A price set (R149). -/
structure PriceSet where
  ink : Vector Nat 12
  media : Vector Nat 16
  cut : Nat
  measurement : Nat
  inUse : Nat
  deriving DecidableEq, Repr

def PriceSet.atReset : PriceSet where
  ink := Vector.replicate 12 0
  media := Vector.replicate 16 0
  cut := 0
  measurement := 0
  inUse := 0

/-- An account (R151). -/
structure Account where
  enabled : Bool
  limit : Nat
  committed : Nat
  charged : Nat
  openJobs : Nat
  overrun : Bool
  deriving DecidableEq, Repr

/-- Account 0 is enabled after device reset, the others are disabled (R151). -/
def Account.atReset (enabled : Bool) : Account where
  enabled := enabled
  limit := 0
  committed := 0
  charged := 0
  openJobs := 0
  overrun := false

structure CostUnit where
  prices : Vector PriceSet 4
  accounts : Vector Account 32
  strayTotal : Nat
  maintTotal : Nat
  deriving DecidableEq, Repr

def CostUnit.atReset : CostUnit where
  prices := Vector.replicate 4 PriceSet.atReset
  accounts := tabulate 32 fun i => Account.atReset (i.val == 0)
  strayTotal := 0
  maintTotal := 0

/-! ### Ports, notices and faults (ch. 9) -/

/-- The notice kinds, in the order of R171's table. -/
inductive NoticeKind where
  | jobWaiting | jobReady | measureResult | copyDone | jobClosed | baySwitch | cartridgeRemoved
  | channelDry | inkLow | short | writeOff | levelHigh | scanOverlap | rollLow | rollEnd
  | cutterFault | accountOverrun | portFault
  deriving DecidableEq, Repr

/-- The place of a notice kind in R171's table, counted from 0. -/
def NoticeKind.index : NoticeKind → Fin 18
  | .jobWaiting => 0
  | .jobReady => 1
  | .measureResult => 2
  | .copyDone => 3
  | .jobClosed => 4
  | .baySwitch => 5
  | .cartridgeRemoved => 6
  | .channelDry => 7
  | .inkLow => 8
  | .short => 9
  | .writeOff => 10
  | .levelHigh => 11
  | .scanOverlap => 12
  | .rollLow => 13
  | .rollEnd => 14
  | .cutterFault => 15
  | .accountOverrun => 16
  | .portFault => 17

/-- The default levels of R171's table. -/
def defaultLevels : Port → Vector Nat 18
  | .job => #v[3, 3, 2, 3, 4, 0, 0, 0, 0, 1, 0, 0, 0, 0, 0, 0, 2, 0]
  | .engine => #v[0, 0, 0, 0, 0, 0, 0, 0, 0, 0, 0, 0, 0, 0, 2, 2, 0, 0]
  | .desk => #v[2, 2, 2, 2, 5, 2, 4, 6, 5, 5, 4, 3, 1, 5, 6, 6, 6, 7]

/-- The subject of a notice (R171). -/
inductive Subject where
  | none
  | job (handle : Nat)
  | attempt (ref : CopyRef)
  | channel (n : Nat)
  | bay (n : Nat)
  | roll (n : Nat)
  | account (n : Nat)
  | port (p : Port)
  deriving DecidableEq, Repr

/-- A notice as it is raised (R171). -/
structure Notice where
  kind : NoticeKind
  subject : Subject
  detail : Nat
  deriving DecidableEq, Repr

/-- An entry of a notice queue (R171). -/
structure Entry where
  notice : Notice
  level : Nat
  time : Nat
  deriving DecidableEq, Repr

/-- The fault kinds, in the order of R174's table. -/
inductive FaultKind where
  | malformed | badCheck | unknownKind | consecutiveBad | overlap | replyDropped | staleRef
  | holdIgnored | unexpectedHold | swathWhileHeld | feedWhileHeld
  deriving DecidableEq, Repr

/-- The place of a fault kind in R174's table, counted from 0. -/
def FaultKind.index : FaultKind → Fin 11
  | .malformed => 0
  | .badCheck => 1
  | .unknownKind => 2
  | .consecutiveBad => 3
  | .overlap => 4
  | .replyDropped => 5
  | .staleRef => 6
  | .holdIgnored => 7
  | .unexpectedHold => 8
  | .swathWhileHeld => 9
  | .feedWhileHeld => 10

inductive Severity where
  | advisory | blocking
  deriving DecidableEq, Repr

/-- The mask and severity a port holds for a fault kind (R175, R178). -/
structure Policy where
  masked : Bool
  severity : Severity
  deriving DecidableEq, Repr

/-- The default policy of R174 and R178: unmasked; CONSECUTIVE_BAD and HOLD_IGNORED blocking. -/
def defaultPolicy : Vector Policy 11 :=
  tabulate 11 fun i =>
    { masked := false, severity := if i.val = 3 ∨ i.val = 7 then .blocking else .advisory }

/-- The status entry of a fault kind (R174). -/
structure FaultStatus where
  recorded : Bool
  count : Nat
  deriving DecidableEq, Repr

/-- The header of a request frame: kind, tag and payload length (9.2, R174). -/
structure Header where
  kind : Byte
  tag : Byte
  length : BitVec 16
  deriving DecidableEq, Repr

/-- The capture of a fault record (R174); the header is present where a frame is concerned. -/
structure Capture where
  kind : FaultKind
  header : Option Header
  time : Nat
  deriving DecidableEq, Repr

/-- The result codes (9.2). -/
inductive ResultCode where
  | ok | badFrame | badValue | noRoom | credit | inUse | wrongState | notPresent | unknownHandle
  | staleRef | portFaulted | notThisPort
  deriving DecidableEq, Repr

/-- A response in the response slot. On the Engine port the standing order word follows the payload
when the frame is sent (R170, 11.2). -/
structure Response where
  kind : Byte
  tag : Byte
  code : ResultCode
  payload : List Byte
  deriving DecidableEq, Repr

/-- The transaction state (R165), with the request slot filled in IN_SERVICE and the response slot
filled in RESPONSE_READY. -/
inductive Transaction where
  | idle
  | inService (header : Header) (payload : List Byte)
  | responseReady (r : Response)
  deriving DecidableEq, Repr

inductive PortState where
  | normal | faulted
  deriving DecidableEq, Repr

/-- A port unit. `sent` is the model's own: the bytes the port sent in its last transfer (R165, R166;
log 23). -/
structure PortUnit where
  txn : Transaction
  queue : List Entry
  wrapped : Bool
  levels : Vector Nat 18
  threshold : Nat
  status : Vector FaultStatus 11
  capture : Option Capture
  multiple : Bool
  state : PortState
  badCount : Nat
  policy : Vector Policy 11
  sent : List Byte
  deriving DecidableEq, Repr

def noFaults : Vector FaultStatus 11 := Vector.replicate 11 { recorded := false, count := 0 }

def PortUnit.atReset (p : Port) : PortUnit where
  txn := .idle
  queue := []
  wrapped := false
  levels := defaultLevels p
  threshold := 3
  status := noFaults
  capture := none
  multiple := false
  state := .normal
  badCount := 0
  policy := defaultPolicy
  sent := []

/-- The device summary while its port is present (R177). -/
structure Summary where
  port : Port
  kind : FaultKind
  time : Nat
  deriving DecidableEq, Repr

structure Ports where
  job : PortUnit
  engine : PortUnit
  desk : PortUnit
  orderChange : Bool
  summary : Option Summary
  summaryMultiple : Bool
  deriving DecidableEq, Repr

def Ports.atReset : Ports where
  job := PortUnit.atReset .job
  engine := PortUnit.atReset .engine
  desk := PortUnit.atReset .desk
  orderChange := false
  summary := none
  summaryMultiple := false

/-- The time base (R180, R181): the monotonic count and the calendar. -/
structure TimeBase where
  mono : Nat
  day : Nat
  ms : Nat
  deriving DecidableEq, Repr

def TimeBase.atReset : TimeBase := { mono := 0, day := 0, ms := 0 }

/-- The input lines whose level matters (00_scope.md, Lines of the part); true is asserted. -/
structure Pins where
  reset : Bool
  jobReset : Bool
  engineReset : Bool
  deskReset : Bool
  present : Vector Bool 24
  cutHome : Bool
  deriving DecidableEq, Repr

/-- DESIGN CHOICE, unsafe (log 1): at `State.reset` no reset line is asserted, no cartridge is seated
and the cutter stands at home. The spec gives an input line no reset value. -/
def Pins.atReset : Pins where
  reset := false
  jobReset := false
  engineReset := false
  deskReset := false
  present := Vector.replicate 24 false
  cutHome := true

/-- The state of the part, and the queue of commands not yet taken. -/
structure State where
  store : JobStore
  ink : InkUnit
  meter : Metering
  scan : ScanUnit
  sched : Schedule
  media : Media
  colour : ColourUnit
  cost : CostUnit
  ports : Ports
  clock : TimeBase
  pins : Pins
  pending : List Instr
  deriving DecidableEq, Repr

/-- The records as they stand at a release of RESET (R182): every record at its reset value, with
the present inputs and CUT_HOME sampled, and the drop volumes and load-cell calibrations kept. -/
def State.atRelease (drops : Vector DropVolumes 12) (cals : Fin 24 → Calibration) (pins : Pins)
    (pending : List Instr) : State where
  store := JobStore.atReset
  ink :=
    { channels := Vector.replicate 12 Channel.atReset
      bays := tabulate 24 fun b => Bay.atReset pins.present[b] (cals b) }
  meter := { drops := drops, residue := Vector.replicate 12 0, confirmed := false }
  scan := ScanUnit.atReset
  sched := Schedule.atReset
  media := Media.atReset pins.cutHome
  colour := ColourUnit.atReset
  cost := CostUnit.atReset
  ports := Ports.atReset
  clock := TimeBase.atReset
  pins := pins
  pending := pending

/-- The part right after device reset: power has been applied (R49, R73), RESET has been released
(R182), the input lines are as `Pins.atReset` says (log 1, log 25), and no command waits. -/
def State.reset : State :=
  State.atRelease (Vector.replicate 12 DropVolumes.atPower) (fun _ => Calibration.atPower)
    Pins.atReset []

/-- The part never stops: its port faults (R174) are records, and no command of the table ends the
machine. So there is no constructor. -/
inductive Fault : Type
  deriving DecidableEq, Repr

/-- Why a step refuses. -/
inductive Refusal where
  /-- Raised by an arm of `exec` whose command has no meaning yet; safe. No arm raises it. -/
  | notModelled (mnemonic : String)
  deriving DecidableEq, Repr

end Sys2Proof.Machine
end

