-- ==== Sys2Proof/Machine/Bytes.lean ====
section
/-! DEFINITION. Bytes of frames and messages: byte order, optional fields, lists, the check
(R167, R184, R185). -/

namespace Sys2Proof.Machine

/-- The low `n` bytes of `v`, least significant byte first (R184). -/
def leBytes : Nat → Nat → List Byte
  | 0, _ => []
  | n + 1, v => BitVec.ofNat 8 v :: leBytes n (v / 256)

/-- The number that bytes hold, least significant byte first (R184). -/
def leNat : List Byte → Nat
  | [] => 0
  | b :: bs => b.toNat + 256 * leNat bs

/-- The field of `n` bytes at offset `off` of a payload. -/
def field (pl : List Byte) (off n : Nat) : Nat := leNat ((pl.drop off).take n)

/-- Two's complement of 16 bits (R184). -/
def signed16 (n : Nat) : Int := if n < 32768 then (n : Int) else (n : Int) - 65536

/-- The two bytes of a signed field (R184). -/
def signedBytes (i : Int) : List Byte := leBytes 2 (i % 65536).toNat

/-- A flag is 0 for clear and 1 for set (R184). -/
def flagByte (b : Bool) : List Byte := [if b then 1 else 0]

/-- A flag of a request: a byte other than 0 or 1 is out of range (R184). -/
def flag? : Nat → Option Bool
  | 0 => some false
  | 1 => some true
  | _ => none

/-- A number of a request that must lie below `n`. -/
def fin? (n x : Nat) : Option (Fin n) := if h : x < n then some ⟨x, h⟩ else none

/-- An optional field: its presence byte, then its bytes, or as many bytes 0 (R184, R185). -/
def optBytes (size : Nat) : Option (List Byte) → List Byte
  | none => List.replicate (size + 1) 0
  | some bs => 1 :: bs

/-- A list whose length varies: one byte holding its number of entries, then the entries (R185). -/
def listBytes (entries : List (List Byte)) : List Byte :=
  leBytes 1 entries.length ++ entries.flatten

/-- The entries of a collection of fixed count, in numbered order (R185). -/
def tableBytes {α : Type} {n : Nat} (enc : α → List Byte) (v : Vector α n) : List Byte :=
  (v.toList.map enc).flatten

/-- One bit of the check: generator polynomial 0x1021, most significant bit first (R167). -/
def crcShift (c : BitVec 16) : BitVec 16 := if c.msb then (c <<< 1) ^^^ 0x1021 else c <<< 1

/-- One byte of the check (R167). -/
def crcByte (c : BitVec 16) (b : Byte) : BitVec 16 :=
  let x := c ^^^ (b.setWidth 16 <<< 8)
  crcShift (crcShift (crcShift (crcShift (crcShift (crcShift (crcShift (crcShift x)))))))

/-- The check of R167: initial value 0xFFFF, not inverted. -/
def crc16 (bs : List Byte) : BitVec 16 := bs.foldl crcByte 0xFFFF

/-- Bytes followed by their check, least significant byte first (R167). -/
def withCheck (bs : List Byte) : List Byte := bs ++ leBytes 2 (crc16 bs).toNat

/-- The header of a frame as received; missing bytes are 0 (R174). -/
def headerOf (bs : List Byte) : Header where
  kind := bs.getD 0 0
  tag := bs.getD 1 0
  length := BitVec.ofNat 16 ((bs.getD 2 0).toNat + 256 * (bs.getD 3 0).toNat)

/-- The four bytes of a header (9.2). -/
def headerBytes (h : Header) : List Byte := h.kind :: h.tag :: leBytes 2 h.length.toNat

/-- An attempt reference is three bytes (R184). -/
def refBytes (r : CopyRef) : List Byte := leBytes 1 r.handle ++ leBytes 1 r.copy ++ leBytes 1 r.attempt

/-- The attempt reference at an offset of a payload (R184). -/
def refAt (pl : List Byte) (off : Nat) : CopyRef :=
  { handle := field pl off 1, copy := field pl (off + 1) 1, attempt := field pl (off + 2) 1 }

end Sys2Proof.Machine
end

