-- ==== Sys2Proof/Machine/Event.lean ====
section
/-! DEFINITION. An event under way, and the reading and writing of the records it touches. Every
command is one event (95_what_each_step_holds.md): `start` is the state it found, `st` the state it
has reached, `raised` the notices raised so far, `due` the attempts whose close it must examine, `lost`
that the engine was lost in it and its consequences are still to be settled, `freed` that the release of
a reservation in it raised a free volume (R41). -/

namespace Sys2Proof.Machine

structure Ev where
  start : State
  st : State
  raised : List Notice
  due : List CopyRef
  lost : Bool
  freed : Bool

def Ev.begin (s : State) : Ev :=
  { start := s, st := s, raised := [], due := [], lost := false, freed := false }

/-- The monotonic count (R180). -/
def State.now (s : State) : Nat := s.clock.mono

/-- A notice is raised (R171). It is offered to the ports at the end of the event. -/
def Ev.raise (k : NoticeKind) (subject : Subject) (detail : Nat) (e : Ev) : Ev :=
  { e with raised := e.raised ++ [{ kind := k, subject := subject, detail := detail }] }

/-- These attempts are examined for their close in this event (R15). -/
def Ev.mayClose (rs : List CopyRef) (e : Ev) : Ev := { e with due := e.due ++ rs }

def Ev.mapStore (f : JobStore → JobStore) (e : Ev) : Ev :=
  { e with st := { e.st with store := f e.st.store } }
def Ev.mapInk (f : InkUnit → InkUnit) (e : Ev) : Ev :=
  { e with st := { e.st with ink := f e.st.ink } }
def Ev.mapMeter (f : Metering → Metering) (e : Ev) : Ev :=
  { e with st := { e.st with meter := f e.st.meter } }
def Ev.mapScan (f : ScanUnit → ScanUnit) (e : Ev) : Ev :=
  { e with st := { e.st with scan := f e.st.scan } }
def Ev.mapSched (f : Schedule → Schedule) (e : Ev) : Ev :=
  { e with st := { e.st with sched := f e.st.sched } }
def Ev.mapMedia (f : Media → Media) (e : Ev) : Ev :=
  { e with st := { e.st with media := f e.st.media } }
def Ev.mapColour (f : ColourUnit → ColourUnit) (e : Ev) : Ev :=
  { e with st := { e.st with colour := f e.st.colour } }
def Ev.mapCost (f : CostUnit → CostUnit) (e : Ev) : Ev :=
  { e with st := { e.st with cost := f e.st.cost } }
def Ev.mapPorts (f : Ports → Ports) (e : Ev) : Ev :=
  { e with st := { e.st with ports := f e.st.ports } }
def Ev.mapClock (f : TimeBase → TimeBase) (e : Ev) : Ev :=
  { e with st := { e.st with clock := f e.st.clock } }

/-! ### Job and copy records -/

/-- The open job of a handle (R1). -/
def State.job? (s : State) (h : Nat) : Option Job :=
  if lt : h < 32 then s.store.jobs[h] else none

/-- Copy `n` of a job, counted from 1. -/
def Job.copy? (j : Job) (n : Nat) : Option CopyRecord :=
  match n with
  | 0 => none
  | k + 1 => j.copies[k]?

/-- The job and the copy record that a reference names, where its attempt number is the copy's. -/
def State.attempt? (s : State) (r : CopyRef) : Option (Job × CopyRecord) :=
  match s.job? r.handle with
  | none => none
  | some j =>
    match j.copy? r.copy with
    | none => none
    | some c => if c.attempt = r.attempt then some (j, c) else none

def JobStore.modifyJob (h : Nat) (f : Job → Job) (st : JobStore) : JobStore :=
  if lt : h < 32 then { st with jobs := modifyAt st.jobs ⟨h, lt⟩ (Option.map f) } else st

def Ev.modifyJob (h : Nat) (f : Job → Job) (e : Ev) : Ev := e.mapStore (JobStore.modifyJob h f)

/-- The copy list with the copy a reference names changed by `f`. -/
def modifyCopies (r : CopyRef) (f : CopyRecord → CopyRecord) (cs : List CopyRecord) :
    List CopyRecord :=
  match r.copy with
  | 0 => cs
  | k + 1 => modifyList cs k fun c => if c.attempt = r.attempt then f c else c

def Ev.modifyCopy (r : CopyRef) (f : CopyRecord → CopyRecord) (e : Ev) : Ev :=
  e.modifyJob r.handle fun j => { j with copies := modifyCopies r f j.copies }

def Ev.modifyAttempt (r : CopyRef) (f : Attempt → Attempt) (e : Ev) : Ev :=
  e.modifyCopy r fun c => { c with record := f c.record }

/-! ### Channel, bay, account and port records -/

def Ev.modifyChannel (c : Fin 12) (f : Channel → Channel) (e : Ev) : Ev :=
  e.mapInk fun i => { i with channels := modifyAt i.channels c f }

def Ev.modifyBay (b : Fin 24) (f : Bay → Bay) (e : Ev) : Ev :=
  e.mapInk fun i => { i with bays := modifyAt i.bays b f }

def Ev.modifyAccount (a : Fin 32) (f : Account → Account) (e : Ev) : Ev :=
  e.mapCost fun c => { c with accounts := modifyAt c.accounts a f }

def Ports.unit (ps : Ports) : Port → PortUnit
  | .job => ps.job
  | .engine => ps.engine
  | .desk => ps.desk

def Ports.modifyUnit (p : Port) (f : PortUnit → PortUnit) (ps : Ports) : Ports :=
  match p with
  | .job => { ps with job := f ps.job }
  | .engine => { ps with engine := f ps.engine }
  | .desk => { ps with desk := f ps.desk }

def Ev.modifyPort (p : Port) (f : PortUnit → PortUnit) (e : Ev) : Ev :=
  e.mapPorts (Ports.modifyUnit p f)

/-- The reset line of a port (R179). -/
def Pins.portReset (pins : Pins) : Port → Bool
  | .job => pins.jobReset
  | .engine => pins.engineReset
  | .desk => pins.deskReset

def Pins.setPortReset (p : Port) (level : Bool) (pins : Pins) : Pins :=
  match p with
  | .job => { pins with jobReset := level }
  | .engine => { pins with engineReset := level }
  | .desk => { pins with deskReset := level }

/-- The port is held by its reset line: it ignores transfers, queues no notice and records no fault
(R179). -/
def State.portHeld (s : State) (p : Port) : Bool := s.pins.portReset p

/-! ### The grant -/

/-- The reference of the copy that is PRINTING: the current grant while its printing flag is set
(R95). -/
def State.printing (s : State) : Option CopyRef :=
  match s.sched.grant with
  | some g => if g.printing then some g.ref else none
  | none => none

/-! ### Time -/

/-- The time base moves on by `d` milliseconds; the calendar advances with the count (R180, R181). -/
def TimeBase.advance (d : Nat) (t : TimeBase) : TimeBase where
  mono := t.mono + d
  day := (t.day + (t.ms + d) / Config.msPerDay) % 65536
  ms := (t.ms + d) % Config.msPerDay

/-- An expiry happens when its timer is due: the time base stands at the due time, or later where it
has already passed it (log 3). -/
def TimeBase.reach (due : Nat) (t : TimeBase) : TimeBase := t.advance (due - t.mono)

end Sys2Proof.Machine
end

