-- ==== Sys2Proof/Machine/Flags.lean ====
section
/-! DEFINITION. Figures the spec derives from the records: positions, volumes, the dry, low and
overrun conditions, the orders and the output lines. -/

namespace Sys2Proof.Machine

/-! ### Path positions -/

/-- The signed difference of two positions (overview, Arithmetic; R111). -/
def posDiff (a b : Pos) : Int := (a - b).toInt

/-- The path position has reached a mark's position (R111). -/
def reached (path mark : Pos) : Bool := 0 ≤ posDiff path mark

/-- Admission order (R3): the difference of the sequence numbers, read as signed, is negative. -/
def admittedBefore (a b : BitVec 32) : Bool := (a - b).toInt < 0

/-- Saturation of a notice detail (R34, R43, R161). -/
def saturate32 (n : Nat) : Nat := min n 4294967295

/-! ### Ink -/

/-- The bay of a channel's side: bay number = 2 x channel + side (2.2). -/
def bayOf (c : Fin 12) (sd : Side) : Fin 24 :=
  match sd with
  | .a => ⟨2 * c.val, by omega⟩
  | .b => ⟨2 * c.val + 1, by omega⟩

/-- Bay number b belongs to channel floor(b / 2) (2.2). -/
def channelOf (b : Fin 24) : Fin 12 := ⟨b.val / 2, by omega⟩

/-- Side A where the bay number is even (2.2). -/
def sideOf (b : Fin 24) : Side := if b.val % 2 = 0 then .a else .b

def Side.other : Side → Side
  | .a => .b
  | .b => .a

/-- The level of a bay's cartridge, 0 where it holds no cartridge data. -/
def Bay.level (b : Bay) : Nat :=
  match b.cart with
  | some k => k.level
  | none => 0

/-- A bay's contribution to the usable volume: READY and ACTIVE bays above the dead volume (R33). -/
def Bay.usable (dead : Nat) (b : Bay) : Nat :=
  match b.state with
  | .ready | .active => b.level - dead
  | _ => 0

/-- The usable volume of a channel (R33). -/
def InkUnit.usable (i : InkUnit) (c : Fin 12) : Nat :=
  i.bays[bayOf c .a].usable i.channels[c].dead + i.bays[bayOf c .b].usable i.channels[c].dead

/-- The free volume of a channel (R33). -/
def InkUnit.free (i : InkUnit) (c : Fin 12) : Nat := i.usable c - i.channels[c].reserved

/-- The bound of a channel fails: its reserved total exceeds its usable volume (R42). -/
def InkUnit.boundFails (i : InkUnit) (c : Fin 12) : Bool := i.usable c < i.channels[c].reserved

/-- The INK reason (R36): a copy is PRINTING and a channel with a non-zero estimate of its job is
dry. -/
def State.inkReason (s : State) : Bool :=
  match s.printing with
  | none => false
  | some r =>
    match s.job? r.handle with
    | none => false
    | some j => anyOf 12 fun c => 0 < j.estimate[c] && s.ink.channels[c].dry

/-! ### Accounts -/

/-- The overrun condition (R161): for account 0 only while its limit is above 0. -/
def overrunNow (i : Fin 32) (a : Account) : Bool :=
  a.limit < a.charged + a.committed && (i.val != 0 || 0 < a.limit)

/-- A job's commitment (R156). -/
def Job.commitment (j : Job) : Nat :=
  match j.state with
  | .closed => 0
  | _ => j.estimateCost - j.clientBooked

/-! ### Jobs -/

def CopyState.terminal : CopyState → Bool
  | .accepted | .rejected | .cancelled => true
  | _ => false

def Job.countIn (j : Job) (st : CopyState) : Nat := (j.copies.filter fun c => c.state == st).length

def Job.allTerminal (j : Job) : Bool := j.copies.all fun c => c.state.terminal

/-- An attempt whose measure is not pending is resolved (R13). -/
def MeasureOutcome.resolved : MeasureOutcome → Bool
  | .pending => false
  | _ => true

/-! ### Standing orders and output lines -/

/-- The FEED_TO order (R124): the position of the last mark while no copy is PRINTING, the mark list
is not empty and the last-answer flag is set. -/
def State.feedTo (s : State) : Option Pos :=
  if s.printing.isNone && s.media.lastNone then s.media.marks.getLast?.map (·.pos) else none

/-- The HOLD order is on while the hold is REQUESTED or TAKEN (R117). -/
def State.holdOrder (s : State) : Bool := s.media.hold.state != .free

/-- The hold stands TAKEN (R118). -/
def State.held (s : State) : Bool := s.media.hold.state == .taken

/-- The CAP order is on while the power state is CAPPED (R85). -/
def State.capOrder (s : State) : Bool := s.sched.power == .capped

/-- The four orders differ (R170). -/
def ordersDiffer (s t : State) : Bool :=
  s.holdOrder != t.holdOrder || s.sched.abort != t.sched.abort || s.feedTo != t.feedTo ||
    s.capOrder != t.capOrder

/-- The standing order word (11.3). -/
def State.orderWord (s : State) : List Byte :=
  let bit (b : Bool) (w : Nat) : Nat := if b then w else 0
  leBytes 1 (bit s.holdOrder 1 + bit s.capOrder 2 + bit s.sched.abort.isSome 4 +
      bit s.feedTo.isSome 8) ++
    (match s.sched.abort with
      | none => leBytes 3 0
      | some r => refBytes r) ++
    (match s.feedTo with
      | none => leBytes 4 0
      | some q => leBytes 4 q.toNat)

/-- REPLY is asserted in RESPONSE_READY (R165), and not while RESET is asserted (R182). -/
def State.reply (s : State) (p : Port) : Bool :=
  !s.pins.reset &&
    match (s.ports.unit p).txn with
    | .responseReady _ => true
    | _ => false

/-- ATTN (R173): an entry stands at or above the threshold, or on the Engine port the order change
flag is set. A held port keeps it deasserted (R179), and so does RESET (R182). -/
def State.attn (s : State) (p : Port) : Bool :=
  !s.pins.reset && !s.portHeld p &&
    ((s.ports.unit p).queue.any (fun x => (s.ports.unit p).threshold ≤ x.level) ||
      (p == .engine && s.ports.orderChange))

/-- CUT_GO is asserted in STARTING (R125), and not while RESET is asserted (R182). -/
def State.cutGo (s : State) : Bool := !s.pins.reset && s.media.cutter == .starting

/-! ### Pause and drying -/

/-- The pause allowance of the printing attempt at this moment (R122). -/
def State.allowance (s : State) : Nat :=
  match s.printing with
  | none => 0
  | some r =>
    match s.attempt? r with
    | none => 0
    | some (_, c) =>
      c.record.pauseLimit - c.record.accruedPause -
        (match s.media.pause with
          | none => 0
          | some q => s.now - q.start)

/-- The dry remaining of a dry clock at this moment (R132). -/
def dryRemaining (now : Nat) (k : DryClock) : Nat := k.required - (now - k.start)

/-- The relative humidity in tenths of a percent (R80). -/
def humidity (raw : Nat) : Nat := raw * 1000 / 4095

/-- The dry factor that the entry of input 24 gives at this moment (R81). -/
def dryFactor (now : Nat) (x : Sample) : Nat :=
  if x.valid && now - x.time < 300000 then
    if humidity x.raw < 400 then 100 else if humidity x.raw < 600 then 125 else 150
  else 150

end Sys2Proof.Machine
end

