-- ==== Sys2Proof/Machine/CostOps.lean ====
section
/-! DEFINITION. The Cost unit: prices, charges, bookings, the overrun flag (ch. 8). -/

namespace Sys2Proof.Machine

/-- A figure of 48 bits: the sum, or a free value where it does not fit (log 9). -/
def add48 (a b : Nat) : Nat :=
  if a + b < 281474976710656 then a + b else (Config.sumBeyond48 (a + b)).toNat

/-- A figure of 64 bits: the sum, or a free value where it does not fit (log 9). -/
def add64 (a b : Nat) : Nat :=
  if a + b < 18446744073709551616 then a + b else (Config.sumBeyond64 (a + b)).toNat

/-- The ink component, rounded once over the twelve channels, half up (R154, R158, R162). -/
def inkCost (ps : PriceSet) (v : Vector Nat 12) : Nat :=
  (sumOver 12 (fun c => v[c] * ps.ink[c]) + 500000) / 1000000

/-- The media component (R154, R158). -/
def mediaCost (len width price : Nat) : Nat := (len * width * price + 50000000) / 100000000

/-- The per-copy estimate (R154): ink, media, cuts, measurement. -/
def perCopyEstimate (ps : PriceSet) (estimate : Vector Nat 12) (len width : Nat) (media : Fin 16)
    (cuts : Nat) (checked : Bool) : Nat :=
  inkCost ps estimate + mediaCost len width ps.media[media] + ps.cut * cuts +
    (if checked then ps.measurement else 0)

/-- The priced length (R157): the signed difference of the end and the start, within
0..1,000,000. -/
def pricedLength (a : Attempt) : Nat :=
  match a.started, a.ended with
  | some x, some y => min (posDiff y.pos x.pos).toNat 1000000
  | _, _ => 0

/-- The head read the strip: PASS, FAIL and UNMEASURED(PATCHES) are charged (R144, R158). -/
def measurementCharged : MeasureOutcome → Bool
  | .pass | .fail | .unmeasured .patches => true
  | _ => false

/-- The total of an attempt (R158). -/
def attemptTotal (ps : PriceSet) (media : Fin 16) (a : Attempt) : Nat :=
  inkCost ps a.consumption + mediaCost (pricedLength a) a.pricedWidth ps.media[media] +
    a.cutsCharged * ps.cut + (if measurementCharged a.measure then ps.measurement else 0)

/-- The client part of a total (R159). -/
def clientPart (cls : AttemptClass) (w : WastePolicy) (total : Nat) : Nat :=
  match cls, w with
  | .accepted, _ => total
  | .cancelled, _ => total
  | .waste, .client => total
  | .waste, .house => 0
  | .waste, .shared => total / 2

def Account.charge (n : Nat) (a : Account) : Account := { a with charged := add64 a.charged n }

/-- The booking of a closed attempt (R159), with the committed figure kept equal to the commitments
(R156). -/
def bookAttempt (r : CopyRef) (cls : AttemptClass) (e : Ev) : Ev :=
  match e.st.attempt? r with
  | none => e
  | some (j, c) =>
    let total := attemptTotal e.st.cost.prices[j.priceSet] j.mediaType c.record
    let client := clientPart cls j.waste total
    let house := total - client
    let j' := { j with clientBooked := j.clientBooked + client }
    let lowered := j.commitment - j'.commitment
    (((e.modifyAttempt r fun a =>
            { a with booked := some { total := total, client := client, house := house } }).modifyJob
          r.handle fun k =>
            { k with
              clientBooked := k.clientBooked + client
              houseBooked := k.houseBooked + house }).modifyAccount
        j.account fun a => { a.charge client with committed := a.committed - lowered }).modifyAccount
      0 fun a => a.charge house

/-- A stray charge: a STRAY report's ink at the prices of set 0, to the house account (R162). -/
def strayCharge (v : Vector Nat 12) (e : Ev) : Ev :=
  let n := inkCost e.st.cost.prices[0] v
  (e.modifyAccount 0 fun a => a.charge n).mapCost fun c =>
    { c with strayTotal := add64 c.strayTotal n }

/-- A maintenance charge (R162). -/
def maintenanceCharge (v : Vector Nat 12) (e : Ev) : Ev :=
  let n := inkCost e.st.cost.prices[0] v
  (e.modifyAccount 0 fun a => a.charge n).mapCost fun c =>
    { c with maintTotal := add64 c.maintTotal n }

/-- The overrun flag of an account whose charged, committed or limit figure the event changed is
evaluated at its end; ACCOUNT_OVERRUN on the passage to set (R161). -/
def evalOverrun (i : Fin 32) (e : Ev) : Ev :=
  let was := e.start.cost.accounts[i]
  let a := e.st.cost.accounts[i]
  if a.charged = was.charged ∧ a.committed = was.committed ∧ a.limit = was.limit then e
  else
    let e' := e.modifyAccount i fun x => { x with overrun := overrunNow i a }
    if overrunNow i a && !a.overrun then
      e'.raise .accountOverrun (.account i.val) (saturate32 (a.charged + a.committed - a.limit))
    else e'

def settleAccounts (e : Ev) : Ev := (List.finRange 32).foldl (fun e i => evalOverrun i e) e

end Sys2Proof.Machine
end

