-- ==== Sys2Proof/Machine/InkOps.lean ====
section
/-! DEFINITION. The Ink and Metering units: switchover, draws, removals, reservations, the wait list,
trimming and the flags of a channel (ch. 2, ch. 3). -/

namespace Sys2Proof.Machine

/-! ### Switchover -/

/-- The bay becomes ACTIVE, the channel's active bay and its last active bay. -/
def becomeActive (c : Fin 12) (sd : Side) (e : Ev) : Ev :=
  (e.modifyBay (bayOf c sd) fun b => { b with state := .active }).modifyChannel c fun ch =>
    { ch with active := some sd, lastActive := some sd }

/-- The bay becomes SPENT and the channel's active bay none; the last active bay stays (R31). -/
def becomeSpent (c : Fin 12) (sd : Side) (e : Ev) : Ev :=
  (e.modifyBay (bayOf c sd) fun b => { b with state := .spent }).modifyChannel c fun ch =>
    { ch with active := none }

/-- A READY bay takes over its channel: ACTIVE, with BAY_SWITCH; at or below the dead volume it
becomes SPENT in turn, without a second notice (R31, R44). -/
def switchTo (c : Fin 12) (sd : Side) (e : Ev) : Ev :=
  let level := e.st.ink.bays[bayOf c sd].level
  let e' := (becomeActive c sd e).raise .baySwitch (.bay (bayOf c sd).val) level
  if level ≤ e.st.ink.channels[c].dead then becomeSpent c sd e' else e'

/-- The other bay takes over where it is READY (R31, R44). -/
def switchIfReady (c : Fin 12) (sd : Side) (e : Ev) : Ev :=
  if e.st.ink.bays[bayOf c sd].state = .ready then switchTo c sd e else e

/-- An ACTIVE bay at or below the dead volume is given up (R31). -/
def giveUp (c : Fin 12) (e : Ev) : Ev :=
  match e.st.ink.channels[c].active with
  | none => e
  | some sd =>
    if e.st.ink.bays[bayOf c sd].level ≤ e.st.ink.channels[c].dead then
      switchIfReady c sd.other (becomeSpent c sd e)
    else e

/-! ### Conversion and draw -/

/-- The sum S of a channel's counts at its drop volumes (R54). -/
def dropSum (d : DropVolumes) (small medium large : Nat) : Nat :=
  small * d.small + medium * d.medium + large * d.large

/-- Ink taken from a bay lowers the level and raises the drawn figure by the same amount (R57). -/
def Cartridge.draw (n : Nat) (k : Cartridge) : Cartridge :=
  { k with level := k.level - n, drawn := k.drawn + min n k.level }

def drawFrom (b : Fin 24) (n : Nat) (e : Ev) : Ev :=
  e.modifyBay b fun x => { x with cart := x.cart.map (Cartridge.draw n) }

/-- Steps 1 and 2 of R56, repeated at most as often as the channel has bays; with what remains. -/
def drawActive (c : Fin 12) : Nat → Nat → Ev → Nat × Ev
  | 0, v, e => (v, e)
  | n + 1, v, e =>
    match e.st.ink.channels[c].active with
    | none => (v, e)
    | some sd =>
      let most := e.st.ink.bays[bayOf c sd].level - e.st.ink.channels[c].dead
      drawActive c n (v - min v most) (giveUp c (drawFrom (bayOf c sd) (min v most) e))

/-- One bay of step 3 of R56: down to a level of 0, if it is SPENT. -/
def drawSpent (c : Fin 12) (sd : Side) (v : Nat) (e : Ev) : Nat × Ev :=
  let b := e.st.ink.bays[bayOf c sd]
  if b.state = .spent then (v - min v b.level, drawFrom (bayOf c sd) (min v b.level) e) else (v, e)

/-- The side that step 3 of R56 draws from first: the last active bay, if it is SPENT. -/
def spentFirst (c : Fin 12) (s : State) : Side :=
  match s.ink.channels[c].lastActive with
  | none => .a
  | some sd => if s.ink.bays[bayOf c sd].state = .spent then sd else sd.other

/-- The draw of V nL of a channel (R56). A V of 0 draws nothing (R54). -/
def drawChannel (c : Fin 12) (v : Nat) (e : Ev) : Ev :=
  if v = 0 then e
  else
    let r1 := drawActive c 2 v e
    let first := spentFirst c r1.2.st
    let r2 := drawSpent c first r1.1 r1.2
    let r3 := drawSpent c first.other r2.1 r2.2
    if r3.1 = 0 then r3.2
    else r3.2.modifyChannel c fun ch => { ch with overdraw := add48 ch.overdraw r3.1 }

/-- The whole volumes V of a report (R54), from the table and the residues that stand. -/
def wholeVolumes (m : Metering) (counts : Fin 12 → Nat × Nat × Nat) : Vector Nat 12 :=
  tabulate 12 fun c =>
    (dropSum m.drops[c] (counts c).1 (counts c).2.1 (counts c).2.2 + m.residue[c]) / 10000

/-- The new residues (R54). -/
def newResidues (m : Metering) (counts : Fin 12 → Nat × Nat × Nat) : Vector Nat 12 :=
  tabulate 12 fun c =>
    (dropSum m.drops[c] (counts c).1 (counts c).2.1 (counts c).2.2 + m.residue[c]) % 10000

/-- The conversion and draw of a report on its twelve channels (R54, R56). -/
def drawReport (counts : Fin 12 → Nat × Nat × Nat) (e : Ev) : Ev :=
  let v := wholeVolumes e.st.meter counts
  let e' := e.mapMeter fun m => { m with residue := newResidues m counts }
  (List.finRange 12).foldl (fun e c => drawChannel c v[c] e) e'

/-! ### Seating, declaring, removing -/

/-- What a removal writes into the removal record (R45). -/
def removalOf (now : Nat) (b : Bay) : Removal := { state := b.state, figures := b.cart, time := now }

/-- The drawn figure of a bay's cartridge, or 0 (R44). -/
def Bay.drawn (b : Bay) : Nat :=
  match b.cart with
  | some k => k.drawn
  | none => 0

/-- The channel forgets a removed bay that was its active or its last active bay (R44). -/
def Channel.forget (sd : Side) (ch : Channel) : Channel :=
  { ch with
    active := if ch.active = some sd then none else ch.active
    lastActive := if ch.lastActive = some sd then none else ch.lastActive }

/-- The removal of whatever the bay held, with its effect on the channel (R44). -/
def removeCartridge (b : Fin 24) (e : Ev) : Ev :=
  let bay := e.st.ink.bays[b]
  let e' :=
    ((e.raise .cartridgeRemoved (.bay b.val) bay.drawn).modifyBay b fun x =>
          { x with
            state := .empty
            uncertain := false
            cart := none
            removal := some (removalOf e.st.now x) }).modifyChannel
      (channelOf b) (Channel.forget (sideOf b))
  if bay.state = .active then switchIfReady (channelOf b) (sideOf b).other e' else e'

/-- The cartridge data a declaration writes (R29). -/
def declared (now volume lot expiry : Nat) : Cartridge where
  declared := volume
  level := volume
  drawn := 0
  writtenOff := 0
  lot := BitVec.ofNat 32 lot
  expiry := expiry
  declaredAt := now

/-- A declaration on an INSERTED bay (R29). -/
def declareCartridge (b : Fin 24) (volume lot expiry : Nat) (e : Ev) : Ev :=
  let expired := expiry < e.st.clock.day
  let e' := e.modifyBay b fun x =>
    { x with
      state := if expired then .expired else .ready
      uncertain := false
      cart := some (declared e.st.now volume lot expiry) }
  if !expired && e.st.ink.channels[channelOf b].active.isNone then
    giveUp (channelOf b) (becomeActive (channelOf b) (sideOf b) e')
  else e'

/-! ### The dry and low flags -/

/-- The dry flag, where the event changed the usable volume (R34). -/
def evalDry (c : Fin 12) (e : Ev) : Ev :=
  if e.start.ink.usable c = e.st.ink.usable c then e
  else
    let now := e.st.ink.usable c == 0
    let ch := e.st.ink.channels[c]
    let e' := e.modifyChannel c fun x => { x with dry := now }
    if now && !ch.dry then e'.raise .channelDry (.channel c.val) (saturate32 ch.reserved) else e'

/-- The low flag, where the event changed the usable volume or the low threshold (R35). -/
def evalLow (c : Fin 12) (e : Ev) : Ev :=
  let ch := e.st.ink.channels[c]
  if e.start.ink.usable c = e.st.ink.usable c ∧
      e.start.ink.channels[c].lowThreshold = ch.lowThreshold then e
  else
    let now := e.st.ink.usable c < ch.lowThreshold
    let e' := e.modifyChannel c fun x => { x with low := now }
    if now && !ch.low then e'.raise .inkLow (.channel c.val) (e.st.ink.usable c) else e'

/-- The dry and low flags of every channel (log 30). -/
def evalFlags (e : Ev) : Ev := (List.finRange 12).foldl (fun e c => evalLow c (evalDry c e)) e

/-! ### Reservations and the wait list -/

/-- The ask of a job on a channel (R37). -/
def Job.ask (j : Job) (c : Fin 12) : Nat :=
  let n := j.countIn .pending
  n * j.estimate[c] + (n * j.estimate[c] * j.margin + 99) / 100

/-- The ask fits when it is within the free volume of every channel (R37). -/
def InkUnit.fits (i : InkUnit) (j : Job) : Bool := allOf 12 fun c => j.ask c ≤ i.free c

/-- Every channel's reserved total changed by `f`. -/
def InkUnit.mapReserved (f : Fin 12 → Nat → Nat) (i : InkUnit) : InkUnit :=
  { i with
    channels := tabulate 12 fun c =>
      { i.channels[c] with reserved := f c i.channels[c].reserved } }

/-- The job takes its ask on all twelve channels (R37) and becomes QUEUED (R8). -/
def takeReservation (h : Nat) (j : Job) (e : Ev) : Ev :=
  (e.mapInk (InkUnit.mapReserved fun c n => n + j.ask c)).modifyJob h fun k =>
    { k with reservation := tabulate 12 fun c => j.ask c, reservationHeld := true, state := .queued }

/-- Some channel's free volume is higher than it was (R39). -/
def InkUnit.freeRose (was now : InkUnit) : Bool := anyOf 12 fun c => was.free c < now.free c

/-- A release since `was` that raised a free volume is noted, so that the walk follows at the end of the
event, whatever else the event does to that volume (R10, R39, R41). -/
def Ev.noteFreed (was : InkUnit) (e : Ev) : Ev :=
  { e with freed := e.freed || was.freeRose e.st.ink }

/-- The job's reservation is released whole (R41). -/
def releaseReservation (h : Nat) (e : Ev) : Ev :=
  match e.st.job? h with
  | none => e
  | some j =>
    ((e.mapInk (InkUnit.mapReserved fun c n => n - j.reservation[c])).modifyJob h fun k =>
          { k with reservation := Vector.replicate 12 0, reservationHeld := false }).noteFreed
      e.st.ink

/-- The drawdown of V nL from the reservation of the printing job (R40). -/
def drawdown (h : Nat) (v : Vector Nat 12) (e : Ev) : Ev :=
  match e.st.job? h with
  | none => e
  | some j =>
    (e.mapInk (InkUnit.mapReserved fun c n => n - min v[c] j.reservation[c])).modifyJob h fun k =>
      { k with reservation := tabulate 12 fun c => k.reservation[c] - v[c] }

/-- The admission sequence number of an open job. -/
def State.seqOf (s : State) (h : Nat) : BitVec 32 :=
  match s.job? h with
  | some j => j.seq
  | none => 0

/-- A handle enters a list of handles in its admission-order place (R39). -/
def insertAdmitted (s : State) (h : Fin 32) : List (Fin 32) → List (Fin 32)
  | [] => [h]
  | x :: xs =>
    if admittedBefore (s.seqOf h.val) (s.seqOf x.val) then h :: x :: xs
    else x :: insertAdmitted s h xs

/-- The job joins the wait list, WAIT_INK (R8, R39). -/
def joinWaitList (h : Fin 32) (e : Ev) : Ev :=
  (e.modifyJob h.val fun j => { j with state := .waitInk }).mapStore fun st =>
    { st with waitList := insertAdmitted e.st h st.waitList }

def leaveWaitList (h : Nat) (e : Ev) : Ev :=
  e.mapStore fun st => { st with waitList := st.waitList.filter fun x => x.val != h }

/-- One listed job of the walk of the wait list (R39). -/
def walkOne (h : Fin 32) (e : Ev) : Ev :=
  match e.st.job? h.val with
  | none => e
  | some j =>
    if e.st.ink.fits j then
      (leaveWaitList h.val (takeReservation h.val j e)).raise .jobReady (.job h.val) j.seq.toNat
    else e

/-- The walk of the wait list, oldest first (R39). -/
def walk (e : Ev) : Ev := e.st.store.waitList.foldl (fun e h => walkOne h e) e

/-! ### Trimming and SHORT -/

/-- A channel that trimming must mend: its bound fails, and it is not SHORT, or no copy is PRINTING
any longer (R42, R43). -/
def State.mustTrim (s : State) (c : Fin 12) : Bool :=
  s.ink.boundFails c && (!s.ink.channels[c].short || s.printing.isNone)

/-- A job that trimming may choose (R42). -/
def State.trimmable (s : State) (h : Fin 32) : Bool :=
  match s.job? h.val with
  | none => false
  | some j =>
    (s.printing.map (·.handle) != some h.val) &&
      anyOf 12 fun c => s.mustTrim c && 0 < j.reservation[c]

/-- The newest by admission order of the jobs that trimming may choose (R42). -/
def State.trimChoice (s : State) : Option (Fin 32) :=
  (List.finRange 32).foldl
    (fun best h =>
      if s.trimmable h then
        match best with
        | none => some h
        | some b => if admittedBefore (s.seqOf b.val) (s.seqOf h.val) then some h else best
      else best)
    none

/-- Trimming releases a job (R42), and its state follows R8. -/
def trimJob (h : Fin 32) (e : Ev) : Ev :=
  let e' := releaseReservation h.val e
  match e.st.job? h.val with
  | none => e'
  | some j =>
    if j.state = .queued then
      (joinWaitList h e').raise .jobWaiting (.job h.val) j.seq.toNat
    else e'

/-- Trimming, at most once for each job; with whether it released one (R42). -/
def trim : Nat → Bool → Ev → Bool × Ev
  | 0, any, e => (any, e)
  | n + 1, any, e =>
    match e.st.trimChoice with
    | none => (any, e)
    | some h => trim n true (trimJob h e)

/-- A channel whose bound still fails while a copy is PRINTING becomes SHORT (R43). -/
def markShort (c : Fin 12) (e : Ev) : Ev :=
  if e.st.ink.boundFails c && !e.st.ink.channels[c].short && e.st.printing.isSome then
    (e.modifyChannel c fun ch => { ch with short := true }).raise .short (.channel c.val)
      (saturate32 (e.st.ink.channels[c].reserved - e.st.ink.usable c))
  else e

/-- SHORT is cleared where the reserved total is at or below the usable volume (R43). -/
def clearShort (c : Fin 12) (e : Ev) : Ev :=
  if e.st.ink.channels[c].short && !e.st.ink.boundFails c then
    e.modifyChannel c fun ch => { ch with short := false }
  else e

/-- The free volume of some channel rose in the event: at a release in it, or from its start to here
(R10, R39, R41, R64; log 15). -/
def Ev.freeRose (e : Ev) : Bool := e.freed || e.start.ink.freeRose e.st.ink

/-- The Ink unit's consequences at the end of an event: flags, trimming, SHORT, and the walk of the
wait list (R34, R35, R39, R42, R43, R64, R79; log 14, log 15). -/
def settleInk (e : Ev) : Ev :=
  let t := trim 32 false (evalFlags e)
  let e' := (List.finRange 12).foldl (fun e c => clearShort c (markShort c e)) t.2
  if t.1 || e'.freeRose then walk e' else e'

end Sys2Proof.Machine
end

