-- ==== Sys2Proof/Machine/JobOps.lean ====
section
/-! DEFINITION. The Job store: the close of an attempt, the next state of its copy, the close of a
job (ch. 1). -/

namespace Sys2Proof.Machine

/-- The class of a closing attempt (R15). -/
def classOf (j : Job) (a : Attempt) : AttemptClass :=
  if a.endCause = some .cancelled ∨ a.measureDropped then .cancelled
  else if a.endCause = some .done then
    match j.check with
    | none => .accepted
    | some p =>
      match a.measure with
      | .pass => .accepted
      | .unmeasured _ =>
        match p.unmeasured with
        | .accept => .accepted
        | .reprint => .waste
      | _ => .waste
  else .waste

/-- The copy's next state after booking (R16). -/
def nextCopyState (j : Job) (attempt : Nat) : AttemptClass → CopyState
  | .accepted => .accepted
  | .cancelled => .cancelled
  | .waste =>
    if attempt < j.reprintLimit + 1 then if j.cancelled then .cancelled else .pending
    else .rejected

def AttemptClass.code : AttemptClass → Nat
  | .accepted => 0
  | .cancelled => 1
  | .waste => 2

def CopyState.code : CopyState → Nat
  | .pending => 0
  | .printing => 1
  | .finishing => 2
  | .accepted => 3
  | .rejected => 4
  | .cancelled => 5

/-- The count of a job that a terminal copy state raises (R16, R19). -/
def Job.countTerminal (cs : CopyState) (j : Job) : Job :=
  match cs with
  | .accepted => { j with acceptedCount := j.acceptedCount + 1 }
  | .rejected => { j with rejectedCount := j.rejectedCount + 1 }
  | .cancelled => { j with cancelledCount := j.cancelledCount + 1 }
  | _ => j

/-- The copy enters its next state: a return to PENDING raises the attempt number and takes a fresh
record (R16). -/
def CopyRecord.advance (cs : CopyState) (c : CopyRecord) : CopyRecord :=
  match cs with
  | .pending => { state := .pending, attempt := c.attempt + 1, record := Attempt.fresh }
  | _ => { c with state := cs }

/-- The job becomes CLOSED (R10). -/
def closeJob (h : Nat) (e : Ev) : Ev :=
  match e.st.job? h with
  | none => e
  | some j =>
    ((((releaseReservation h e |> leaveWaitList h).modifyAccount j.account fun a =>
            { a with committed := a.committed - j.commitment }).modifyJob
        h fun k => { k with state := .closed }).raise
      .jobClosed (.job h) j.acceptedCount)

/-- The job becomes CLOSED if every copy is terminal (R10). -/
def closeJobIfDone (h : Nat) (e : Ev) : Ev :=
  match e.st.job? h with
  | none => e
  | some j => if j.state ≠ .closed ∧ j.allTerminal then closeJob h e else e

/-- A copy of a CLOSING job has returned to PENDING (R9). -/
def rejoin (h : Nat) (e : Ev) : Ev :=
  if lt : h < 32 then
    match e.st.job? h with
    | none => e
    | some j =>
      if j.state ≠ .closing then e
      else if j.reservationHeld then e.modifyJob h fun k => { k with state := .queued }
      else if e.st.ink.fits j then
        (takeReservation h j e).raise .jobReady (.job h) j.seq.toNat
      else (joinWaitList ⟨h, lt⟩ e).raise .jobWaiting (.job h) j.seq.toNat
  else e

/-- The close of an attempt: booked, its copy moved on, COPY_DONE raised, and the job's state
following (R15, R16). -/
def closeAttempt (r : CopyRef) (j : Job) (c : CopyRecord) (e : Ev) : Ev :=
  let cls := classOf j c.record
  let cs := nextCopyState j c.attempt cls
  let e' :=
    (((bookAttempt r cls e).modifyCopy r (CopyRecord.advance cs)).modifyJob r.handle
          (Job.countTerminal cs)).raise
      .copyDone (.attempt r) (cls.code + 256 * cs.code)
  match cs with
  | .pending => rejoin r.handle e'
  | _ => closeJobIfDone r.handle e'

/-- The three conditions of an attempt's close (R15). -/
def readyToClose (c : CopyRecord) : Bool :=
  c.state == .finishing && c.record.endCause.isSome && c.record.measure.resolved &&
    c.record.outstandingCuts == 0

/-- The attempt closes if its three conditions hold (R15). -/
def closeIfReady (r : CopyRef) (e : Ev) : Ev :=
  match e.st.attempt? r with
  | none => e
  | some (j, c) => if readyToClose c then closeAttempt r j c e else e

/-- The attempts whose conditions the event touched are examined for their close (R15). DESIGN CHOICE,
unsafe (log 35): where one event completes the close of two attempts, as a CUT with two owners does,
they close in the order in which the event came to them, the earlier owner of the CUT first. -/
def settleCloses (e : Ev) : Ev :=
  e.due.foldl (fun e r => closeIfReady r e) { e with due := [] }

end Sys2Proof.Machine
end

