-- ==== Sys2Proof/Machine/ColourOps.lean ====
section
/-! DEFINITION. The Colour unit: judging a strip, the service of a MEASURE mark, the end of a service
(ch. 7). -/

namespace Sys2Proof.Machine

/-! ### The arithmetic -/

/-- floor of the square root: the greatest whole number whose square does not exceed `n`, found bit
by bit from `2 ^ k` downwards. -/
def sqrtFrom : Nat → Nat → Nat → Nat
  | 0, _, r => r
  | k + 1, n, r =>
    let r' := r + 2 ^ k
    sqrtFrom k n (if r' * r' ≤ n then r' else r)

/-- floor(√n), for n below 2^32 (R140). -/
def floorSqrt (n : Nat) : Nat := sqrtFrom 16 n 0

/-- d² of two colours (R140). -/
def distSq (x y : Colour) : Nat :=
  ((x.l - y.l) * (x.l - y.l) + (x.a - y.a) * (x.a - y.a) + (x.b - y.b) * (x.b - y.b)).toNat

/-- The rounded root (R140). -/
def roundSqrt (d : Nat) : Nat :=
  let n := floorSqrt d
  if d - n * n ≤ n then n else n + 1

/-- ΔE of two colours (R140). -/
def deltaE (x y : Colour) : Nat := roundSqrt (distSq x y)

/-- A patch value in range (R129, R139). -/
def Colour.inRange (x : Colour) : Bool :=
  (0 ≤ x.l && x.l ≤ 10000) && (-20000 ≤ x.a && x.a ≤ 20000) && (-20000 ≤ x.b && x.b ≤ 20000)

/-- A record is valid when its flag is set and its values lie in range (R139). -/
def PatchRecord.ok (p : PatchRecord) : Bool := p.valid && p.colour.inRange

/-- The ΔE of the valid records against the targets, patch by patch (R141). -/
def targetDiffs (records : List PatchRecord) (targets : List Colour) : List Nat :=
  (records.zip targets).filterMap fun x => if x.1.ok then some (deltaE x.1.colour x.2) else none

/-- The ΔE of the patches valid in the strip and present in the match (R141). -/
def matchDiffs (records : List PatchRecord) (m : List (Option Colour)) : List Nat :=
  (records.zip m).filterMap fun x =>
    match x.2 with
    | none => none
    | some k => if x.1.ok then some (deltaE x.1.colour k) else none

def maxOf (l : List Nat) : Nat := l.foldl max 0

/-- The figures of a strip (R141); a figure is absent where it is not computed. -/
structure Figures where
  absMean : Option Nat
  absMax : Option Nat
  editionMax : Option Nat
  valid : Option Nat
  deriving DecidableEq, Repr

def Figures.none : Figures :=
  { absMean := Option.none, absMax := Option.none, editionMax := Option.none, valid := Option.none }

/-- The absolute mean, rounded half up (R141). -/
def absMean (diffs : List Nat) : Nat := (diffs.sum + diffs.length / 2) / diffs.length

/-- The edition maximum: with the check on and a match present (R141). -/
def editionMax (p : CheckPolicy) (m : Option (List (Option Colour))) (records : List PatchRecord) :
    Option Nat :=
  if p.editionCheck then m.map fun k => maxOf (matchDiffs records k) else none

/-- The judgement of the records at a well-formed END (R139, R141, R142). -/
def judge (p : CheckPolicy) (m : Option (List (Option Colour))) (targets : List Colour)
    (records : List PatchRecord) : MeasureResult × Figures :=
  let v := (records.filter PatchRecord.ok).length
  if v * 4 < targets.length * 3 then (.unmeasured .patches, { Figures.none with valid := some v })
  else
    let diffs := targetDiffs records targets
    let ed := editionMax p m records
    let passes := maxOf diffs ≤ p.absMax ∧ absMean diffs ≤ p.absMean ∧ ed.getD 0 ≤ p.editionMax
    (if passes then .pass else .fail,
      { absMean := some (absMean diffs)
        absMax := some (maxOf diffs)
        editionMax := ed
        valid := some v })

/-- The match that a first PASS forms (R143). -/
def matchOf (records : List PatchRecord) : List (Option Colour) :=
  records.map fun p => if p.ok then some p.colour else none

/-! ### Results -/

def MeasureResult.outcome : MeasureResult → MeasureOutcome
  | .pass => .pass
  | .fail => .fail
  | .unmeasured r => .unmeasured r

/-- The result byte of MEASURE_RESULT (11.4). -/
def MeasureResult.code : MeasureResult → Nat
  | .pass => 0
  | .fail => 1
  | .unmeasured .missed => 2
  | .unmeasured .wet => 3
  | .unmeasured .head => 4
  | .unmeasured .patches => 5

def ColourUnit.dropStrip (r : CopyRef) (u : ColourUnit) : ColourUnit :=
  { u with strips := u.strips.filter fun x => x.ref != r }

/-- An entry enters the history ring, newest first; a full ring loses its oldest (R147). -/
def ColourUnit.writeHistory (day ms : Nat) (r : CopyRef) (res : MeasureResult) (f : Figures)
    (u : ColourUnit) : ColourUnit :=
  { u with
    history :=
      ({ seq := u.histSeq, day := day, ms := ms, ref := r, result := res, absMean := f.absMean,
          absMax := f.absMax, editionMax := f.editionMax, validRecords := f.valid } ::
        u.history).take u.histSize
    histSeq := u.histSeq + 1 }

/-- The measurement in progress becomes absent and its timers stop (R144, R145). -/
def ColourUnit.clearService (u : ColourUnit) : ColourUnit :=
  { u with measurement := none, dryTimer := none, headTimer := none }

/-- The MEASURE mark of an attempt leaves the list (R115). -/
def dropMeasureMark (r : CopyRef) (e : Ev) : Ev :=
  e.mapMedia fun m =>
    { m with marks := m.marks.filter fun k => !(k.kind == .measure && k.owners.contains r) }

/-- Steps 2 to 6 of the end of a service with a result; the edition match is already formed (R144). -/
def reportResult (r : CopyRef) (res : MeasureResult) (f : Figures) (e : Ev) : Ev :=
  ((((e.modifyAttempt r fun a => { a with measure := res.outcome }).mapColour fun u =>
            ((u.dropStrip r).writeHistory e.st.clock.day e.st.clock.ms r res f).clearService).raise
          .measureResult (.attempt r) (res.code + 65536 * f.absMax.getD 0)) |>
      dropMeasureMark r).mayClose
    [r]

/-- A service ended without a result: the outcome is none, dropped by cancel (R13, R145). -/
def endDropped (r : CopyRef) (e : Ev) : Ev :=
  (((e.modifyAttempt r fun a => { a with measure := .none, measureDropped := true }).mapColour
          fun u => (u.dropStrip r).clearService) |>
      dropMeasureMark r).mayClose
    [r]

/-- The check policy of the job of an attempt. -/
def State.policyOf (s : State) (r : CopyRef) : Option CheckPolicy :=
  match s.job? r.handle with
  | none => none
  | some j => j.check

/-- The targets of an attempt's strip. -/
def State.targetsOf (s : State) (r : CopyRef) : List Colour :=
  match s.policyOf r with
  | none => []
  | some p => s.colour.refs[p.refSet].patches

/-- An exchange ends with a result that no records were judged for, or is discarded (R138, R145). -/
def endExchange (m : Measurement) (res : MeasureResult) (f : Figures) (e : Ev) : Ev :=
  if m.discard then endDropped m.owner e else reportResult m.owner res f e

/-- The records of a completed exchange are judged, the edition match formed where R143 requires it,
and the result reported; a discarded exchange draws no figure (R139 to R145). -/
def judgeExchange (m : Measurement) (records : List PatchRecord) (e : Ev) : Ev :=
  if m.discard then endDropped m.owner e
  else
    match e.st.job? m.owner.handle with
    | none => endDropped m.owner e
    | some j =>
      match j.check with
      | none => endDropped m.owner e
      | some p =>
        let x := judge p j.editionMatch (e.st.targetsOf m.owner) records
        let e' :=
          if x.1 = .pass ∧ p.editionCheck ∧ j.editionMatch = none then
            e.modifyJob m.owner.handle fun k => { k with editionMatch := some (matchOf records) }
          else e
        reportResult m.owner x.1 x.2 e'

/-! ### The service -/

/-- MEASURE, as it is sent on the head line (R137, R186). -/
def measureMessage (number : BitVec 8) (patches : Nat) : List Byte :=
  withCheck ([1, number, BitVec.ofNat 8 patches] ++ List.replicate 7 0)

/-- An exchange begins (R137). -/
def beginExchange (m : Measurement) (e : Ev) : Ev :=
  let n := e.st.colour.exchange + 1
  e.mapColour fun u =>
    { u with
      exchange := n
      measurement := some { m with phase := .exchanging n [] }
      dryTimer := none
      headTimer := some (e.st.now + e.st.media.settings.headTimeout)
      sent := measureMessage n (e.st.targetsOf m.owner).length }

/-- The strip waits for dry (R136). -/
def waitForDry (m : Measurement) (remaining : Nat) (e : Ev) : Ev :=
  e.mapColour fun u =>
    { u with
      measurement := some { m with phase := .drying }
      dryTimer := some (e.st.now + remaining) }

/-- The dry clock of an attempt's strip (R131). -/
def State.dryClock (s : State) (r : CopyRef) : Option DryClock :=
  match s.colour.strips.find? fun x => x.ref == r with
  | none => none
  | some x => x.clock

/-- The dry base, as it stands, of the media type of an attempt's job. -/
def State.dryBase (s : State) (r : CopyRef) : Nat :=
  match s.job? r.handle with
  | none => 0
  | some j => s.media.types[j.mediaType].dryBase

/-- The strip length of an attempt's job, as far as an overshoot may reach (R134). -/
def State.overshootLimit (s : State) (r : CopyRef) : Int :=
  match s.policyOf r with
  | none => -1
  | some p => (p.stripLength : Int) - 60

/-- The Colour unit takes a MEASURE mark handed to it (R134, R135). -/
def beginMeasure (owner : CopyRef) (mark captured : Pos) (e : Ev) : Ev :=
  let overshoot := posDiff captured mark
  let m : Measurement :=
    { owner := owner, markPos := mark, captured := captured, overshoot := overshoot, phase := .drying,
      discard := false }
  if overshoot < 0 ∨ e.st.overshootLimit owner < overshoot then
    reportResult owner (.unmeasured .missed) Figures.none e
  else
    match e.st.dryClock owner with
    | none =>
      if e.st.dryBase owner = 0 then beginExchange m e
      else reportResult owner (.unmeasured .wet) Figures.none e
    | some k =>
      let left := dryRemaining e.st.now k
      if left = 0 then beginExchange m e
      else if e.st.printing.isNone || left ≤ e.st.allowance then waitForDry m left e
      else reportResult owner (.unmeasured .wet) Figures.none e

/-- A grant is judged against a strip that waits for dry (R136, log 17). -/
def judgeGrant (e : Ev) : Ev :=
  match e.st.colour.measurement with
  | none => e
  | some m =>
    match m.phase, e.st.dryClock m.owner with
    | .drying, some k =>
      if e.st.allowance < dryRemaining e.st.now k then
        reportResult m.owner (.unmeasured .wet) Figures.none e
      else e
    | _, _ => e

/-- The mark of a pending measure was not in service: the outcome, the strip entry and the mark go
(R19, R115, R145). -/
def dropNotBegun (r : CopyRef) (e : Ev) : Ev :=
  (((e.modifyAttempt r fun a => { a with measure := .none, measureDropped := true }).mapColour
          (ColourUnit.dropStrip r)) |>
      dropMeasureMark r).mayClose
    [r]

/-- The attempt's measure is dropped by a cancel (R19, R115, R145): a service in exchange goes on
under its discard flag; otherwise it ends, or its mark is removed, at once. -/
def dropMeasure (r : CopyRef) (e : Ev) : Ev :=
  match e.st.attempt? r with
  | none => e
  | some (_, c) =>
    if c.record.measure ≠ .pending then e
    else
      match e.st.colour.measurement with
      | none => dropNotBegun r e
      | some m =>
        if m.owner ≠ r then dropNotBegun r e
        else
          match m.phase with
          | .drying => endDropped r e
          | .exchanging _ _ =>
            e.mapColour fun u => { u with measurement := some { m with discard := true } }

end Sys2Proof.Machine
end

