-- ==== Sys2Proof/Machine/MediaOps.lean ====
section
/-! DEFINITION. The Media unit: marks and their service, the feed hold, the pause, the cutter, the
count of the feed (ch. 6). -/

namespace Sys2Proof.Machine

/-! ### The mark list -/

/-- An unfired mark of one owner. -/
def Mark.fresh (pos : Pos) (kind : MarkKind) (r : CopyRef) : Mark :=
  { pos := pos, kind := kind, owners := [r], fired := false, service := .notBegun,
    captured := none }

/-- The listed mark stands before the new one: a fired head stays the head; otherwise by position,
a MEASURE before a CUT at one position (R113, R114, log 27). -/
def Mark.standsBefore (x m : Mark) : Bool :=
  x.fired || 0 < posDiff m.pos x.pos || (x.pos == m.pos && x.kind == .measure)

/-- A mark enters the list in its place (R113). -/
def insertMark (m : Mark) : List Mark → List Mark
  | [] => [m]
  | x :: xs => if x.standsBefore m then x :: insertMark m xs else m :: x :: xs

/-- The first position from `p` on that holds no MEASURE (R114). -/
def measurePosition (ms : List Mark) : Nat → Pos → Pos
  | 0, p => p
  | n + 1, p =>
    if ms.any fun m => m.kind == .measure && m.pos == p then measurePosition ms n (p + 1) else p

/-- The first position from `p` on that holds no CUT, or a CUT with one owner (R100, R114). -/
def cutPosition (ms : List Mark) : Nat → Pos → Pos
  | 0, p => p
  | n + 1, p =>
    if ms.any fun m => m.kind == .cut && m.pos == p && 2 ≤ m.owners.length then
      cutPosition ms n (p + 1)
    else p

/-- A MEASURE of the attempt placed at `p` (R114). -/
def placeMeasure (r : CopyRef) (p : Pos) (ms : List Mark) : List Mark :=
  insertMark (.fresh (measurePosition ms ms.length p) .measure r) ms

/-- The attempt owns a CUT of the list at `p`. -/
def ownsCutAt (r : CopyRef) (p : Pos) (ms : List Mark) : Bool :=
  ms.any fun m => m.kind == .cut && m.pos == p && m.owners.contains r

/-- Where a CUT of the attempt placed at `p` lands: at `p` itself where a CUT already owned by the
attempt stands there, however many owners it has, and otherwise past every CUT with two owners (R100,
R114). -/
def cutLanding (r : CopyRef) (p : Pos) (ms : List Mark) : Pos :=
  if ownsCutAt r p ms then p else cutPosition ms ms.length p

/-- A CUT of the attempt placed at `p`, or merged where it lands; none is placed where the attempt owns
the CUT it lands on (R100, R114; log 32 for a landing past a CUT with two owners). -/
def placeCut (r : CopyRef) (p : Pos) (ms : List Mark) : List Mark :=
  let q := cutLanding r p ms
  if ownsCutAt r q ms then ms
  else if ms.any fun m => m.kind == .cut && m.pos == q then
    ms.map fun m => if m.kind == .cut && m.pos == q then { m with owners := m.owners ++ [r] } else m
  else insertMark (.fresh q .cut r) ms

/-- A distance along the path as a count of positions. -/
def steps (n : Nat) : Pos := BitVec.ofNat 32 n

/-- The marks of a granted attempt (R114). -/
def grantMarks (r : CopyRef) (j : Job) (ps : PathSettings) (s : Pos) (ms : List Mark) : List Mark :=
  let ms1 := if j.leadCut then placeCut r (s + steps ps.dCut) ms else ms
  let ms2 :=
    match j.check with
    | none => ms1
    | some p => placeMeasure r (s + steps p.stripOffset + steps ps.dHead) ms1
  if j.trailCut then placeCut r (s + steps j.copyLength + steps ps.dCut) ms2 else ms2

/-- The number of CUT marks that name an attempt (R11, R114). -/
def cutsOwned (r : CopyRef) (ms : List Mark) : Nat :=
  (ms.filter fun m => m.kind == .cut && m.owners.contains r).length

/-- The marks a copy will insert, counted before any merge (R91). -/
def Job.marksNeeded (j : Job) : Nat :=
  (if j.leadCut then 1 else 0) + (if j.check.isSome then 1 else 0) + (if j.trailCut then 1 else 0)

/-- The attempt's trailing CUT: the last CUT that names it, of a job that asks for a trail cut
(R100). -/
def trailingCut (r : CopyRef) (j : Job) (ms : List Mark) : Option Mark :=
  if j.trailCut then (ms.filter fun m => m.kind == .cut && m.owners.contains r).getLast? else none

/-- The attempt is removed as an owner of a CUT, and the mark with its one owner (R100). -/
def disownCut (r : CopyRef) (p : Pos) (ms : List Mark) : List Mark :=
  ms.filterMap fun m =>
    if m.kind == .cut && m.pos == p && m.owners.contains r then
      match m.owners.filter fun o => o != r with
      | [] => none
      | os => some { m with owners := os }
    else some m

/-! ### The cutter -/

inductive CutOutcome where
  | done | skipped | failed
  deriving DecidableEq, Repr

/-- The overshoot of a service: captured position less the mark's position (R116). -/
def Mark.overshoot (m : Mark) : Int :=
  match m.captured with
  | none => 0
  | some q => posDiff q m.pos

/-- What a resolved cut writes into an owner's attempt (R14, R126, R127). -/
def Attempt.cutResolved (o : CutOutcome) (overshoot tolerance : Int) (earlier : Bool) (a : Attempt) :
    Attempt :=
  match o with
  | .done =>
    { a with
      outstandingCuts := a.outstandingCuts - 1
      cutsCharged := if earlier then a.cutsCharged + 1 else a.cutsCharged
      offset := a.offset || tolerance < overshoot }
  | _ => { a with outstandingCuts := a.outstandingCuts - 1, uncut := true }

/-- The CUT at the head is resolved and removed (R115, R126, R127). -/
def resolveCut (o : CutOutcome) (m : Mark) (e : Ev) : Ev :=
  let write (r : CopyRef) (e : Ev) : Ev :=
    e.modifyAttempt r
      (Attempt.cutResolved o m.overshoot e.st.media.settings.cutTolerance
        (m.owners.head? == some r))
  ((m.owners.foldl (fun e r => write r e) e).mapMedia fun x =>
        { x with marks := x.marks.tail }).mayClose
    m.owners

/-- The service of the head mark begins, with its captured position. -/
def Mark.serve (q : Pos) (m : Mark) : Mark := { m with service := .inService, captured := some q }

def modifyHead {α : Type} (f : α → α) : List α → List α
  | [] => []
  | x :: xs => f x :: xs

/-- A stroke of the cutter is ordered (R126). -/
def startCut (q : Pos) (e : Ev) : Ev :=
  e.mapMedia fun x =>
    { x with
      marks := modifyHead (Mark.serve q) x.marks
      cutter := .starting
      cutterTimer := some (e.st.now + x.settings.cutterTimeout) }

/-! ### Firing and serving the head mark -/

/-- The service of the fired head mark `m` begins at the captured position (R116, R118, R126). -/
def beginService (m : Mark) (q : Pos) (e : Ev) : Ev :=
  match m.kind with
  | .cut =>
    match e.st.media.cutter with
    | .fault => resolveCut .skipped m e
    | .ready => startCut q e
    | _ => e
  | .measure =>
    match m.owners with
    | [] => e
    | r :: _ =>
      beginMeasure r m.pos q
        (e.mapMedia fun x => { x with marks := modifyHead (Mark.serve q) x.marks })

/-- The head mark fires (R116). -/
def fireHead (e : Ev) : Ev :=
  e.mapMedia fun x => { x with marks := modifyHead (fun m => { m with fired := true }) x.marks }

/-- The head mark fires when it is unfired and the path has reached it; under a TAKEN hold its
service begins at once, and a head resolved so gives way to the next (R115, R116). -/
def runHeadFrom : Nat → Ev → Ev
  | 0, e => e
  | n + 1, e =>
    match e.st.media.marks with
    | [] => e
    | m :: _ =>
      if m.fired || !reached e.st.media.pos m.pos then e
      else if e.st.media.hold.state = .taken then
        runHeadFrom n (beginService { m with fired := true } e.st.media.pos (fireHead e))
      else fireHead e

def runHead (e : Ev) : Ev := runHeadFrom (e.st.media.marks.length + 1) e

/-- The service of a fired head mark that has waited for the hold begins (R118). -/
def serveWaiting (q : Pos) (e : Ev) : Ev :=
  match e.st.media.marks with
  | [] => e
  | m :: _ => if m.fired && m.service == .notBegun then beginService m q e else e

/-! ### The feed hold and the pause -/

/-- The reason set that the head mark and the Ink unit give (R117). -/
def State.holdReasons (s : State) : Reasons :=
  let fired (k : MarkKind) : Bool :=
    match s.media.marks with
    | [] => false
    | m :: _ => m.fired && m.kind == k
  { measure := fired .measure, cut := fired .cut, ink := s.inkReason }

def Reasons.any (r : Reasons) : Bool := r.measure || r.cut || r.ink

/-- The hold's state follows its reason set (R117). -/
def Hold.follow (now ackLimit : Nat) (r : Reasons) (h : Hold) : Hold :=
  if r.any then
    match h.state with
    | .free => { reasons := r, state := .requested, captured := none, ackTimer := some (now + ackLimit) }
    | _ => { h with reasons := r }
  else { reasons := r, state := .free, captured := none, ackTimer := none }

def syncHold (e : Ev) : Ev :=
  e.mapMedia fun m =>
    { m with hold := m.hold.follow e.st.now m.settings.ackLimit e.st.holdReasons }

/-- A pause period ends and its length is added to the attempt's accrued pause (R122). -/
def endPause (e : Ev) : Ev :=
  match e.st.media.pause, e.st.printing with
  | some q, some r =>
    (e.modifyAttempt r fun a => { a with accruedPause := a.accruedPause + (e.st.now - q.start) }).mapMedia
      fun m => { m with pause := none }
  | _, _ => e.mapMedia fun m => { m with pause := none }

/-- A pause period begins, its timer set to the allowance (R122, R123). -/
def beginPause (e : Ev) : Ev :=
  e.mapMedia fun m =>
    { m with pause := some { start := e.st.now, due := e.st.now + e.st.allowance } }

/-- A pause period runs while the hold is TAKEN and a copy is PRINTING (R122). -/
def syncPause (e : Ev) : Ev :=
  if e.st.media.hold.state == .taken && e.st.printing.isSome then
    if e.st.media.pause.isSome then e else beginPause e
  else if e.st.media.pause.isSome then endPause e
  else e

/-! ### Counting the feed -/

/-- A forward step of the paper of a MOUNTED roll (R111). -/
def RollFigures.forward (f : RollFigures) : RollFigures :=
  { f with remaining := f.remaining - 1, netFed := f.netFed + 1 }

/-- A reverse step, clamped at the declared length (R111). -/
def RollFigures.reverse (f : RollFigures) : RollFigures :=
  if f.remaining < f.declared then { f with remaining := f.remaining + 1, netFed := f.netFed - 1 }
  else f

/-- The forward step brings the remaining length below 20,000 with the flag clear (R112). -/
def RollFigures.crossesLow (f : RollFigures) : Bool :=
  20000 ≤ f.remaining && f.remaining - 1 < 20000 && !f.lowNoticed

/-- The roll after a forward step: low-noticed on the crossing, EXHAUSTED at 0 (R111, R112). -/
def RollFigures.stepped (f : RollFigures) : Roll :=
  let g := { f.forward with lowNoticed := f.lowNoticed || f.crossesLow }
  if g.remaining = 0 then .exhausted g else .mounted g

def Ev.setRoll (n : Fin 2) (r : Roll) (e : Ev) : Ev :=
  e.mapMedia fun m => { m with rolls := m.rolls.set n.val r n.isLt }

/-- The roll in path and its figures, while it is MOUNTED. -/
def Media.feeding (m : Media) : Option (Fin 2 × RollFigures) :=
  match m.rollInPath with
  | none => none
  | some n =>
    match m.rolls[n] with
    | .mounted f => some (n, f)
    | _ => none

/-- The path position and the roll figures after one step (R111), with the notices of R112. -/
def countStep (d : Direction) (e : Ev) : Ev :=
  match d with
  | .forward =>
    let e1 := e.mapMedia fun m => { m with pos := m.pos + 1 }
    match e.st.media.feeding with
    | none => e1
    | some (n, f) =>
      let e2 := e1.setRoll n f.stepped
      let e3 := if f.crossesLow then e2.raise .rollLow (.roll n.val) (f.remaining - 1) else e2
      if f.remaining - 1 = 0 then e3.raise .rollEnd (.roll n.val) f.declared else e3
  | .reverse =>
    let e1 := e.mapMedia fun m => { m with pos := m.pos - 1 }
    match e.st.media.feeding with
    | none => e1
    | some (n, f) => e1.setRoll n (.mounted f.reverse)

/-- The step that this direction takes exhausts the roll in path (R112). -/
def Media.exhausts (d : Direction) (m : Media) : Bool :=
  match d, m.feeding with
  | .forward, some (_, f) => f.remaining - 1 == 0
  | _, _ => false

end Sys2Proof.Machine
end

