-- ==== Sys2Proof/Machine/Ops.lean ====
section
/-! DEFINITION. The operations that several commands share: scan triggers, the end of printing, the
end of an event, faults, the loss of the engine, and the service of a request frame. -/

namespace Sys2Proof.Machine

/-! ### Scan triggers -/

def TriggerKind.code : TriggerKind → Nat
  | .desk => 0
  | .interval => 1
  | .copyEnd => 2

/-- A trigger starts a scan in IDLE (R69, R72). -/
def startScan (k : TriggerKind) (e : Ev) : Ev :=
  e.mapScan fun u =>
    { u with
      running := some
        { kind := k, first := u.config.first, last := u.config.last, start := e.st.now,
          qualifying := e.st.printing.isNone, next := u.config.first.val } }

/-- A trigger is dropped in RUNNING: the overlap flag is set, with SCAN_OVERLAP on its passage
(R71). -/
def dropTrigger (k : TriggerKind) (e : Ev) : Ev :=
  let e' := e.mapScan fun u => { u with overlap := true }
  if e.st.scan.overlap then e' else e'.raise .scanOverlap .none k.code

/-- A trigger that arises (R69, R71). -/
def triggerScan (k : TriggerKind) (e : Ev) : Ev :=
  if e.st.scan.running.isNone then startScan k e else dropTrigger k e

/-! ### The end of an event -/

/-- The consequences at the end of an event, in order: closes and bookings, the ink, the accounts,
the hold, the pause (log 14). They are those of an engine loss in the event as well. -/
def settle (e : Ev) : Ev :=
  syncPause (syncHold (settleAccounts (settleInk (settleCloses { e with lost := false }))))

/-- The consequences of an engine loss, where the event has not settled them with its own. -/
def Ev.close (e : Ev) : Ev := if e.lost then settle e else e

/-- The same, after the head mark has been examined (R115, R116). -/
def settleMarks (e : Ev) : Ev := settle (runHead e)

/-! ### The end of printing -/

/-- The dry clock of an attempt that ended DONE starts, where it has a strip (R81, R132). -/
def startDryClock (r : CopyRef) (e : Ev) : Ev :=
  let factor := dryFactor e.st.now e.st.scan.samples[(24 : Fin 25)]
  e.mapColour fun u =>
    { u with
      strips := u.strips.map fun x =>
        if x.ref = r then
          { x with
            clock := some
              { start := e.st.now
                factor := factor
                required := (e.st.media.types[x.mediaType].dryBase * 1000 * factor + 99) / 100 } }
        else x }

/-- The attempt's MEASURE mark stands on the list, unfired. -/
def measureUnfired (r : CopyRef) (ms : List Mark) : Bool :=
  ms.any fun m => m.kind == .measure && m.owners.contains r && !m.fired

/-- The unfired MEASURE mark of an ended attempt is removed, with its outcome and strip entry
(R13, R100, R131). -/
def withdrawMeasure (r : CopyRef) (e : Ev) : Ev :=
  if measureUnfired r e.st.media.marks then
    dropMeasureMark r
      ((e.modifyAttempt r fun a => { a with measure := .none }).mapColour (ColourUnit.dropStrip r))
  else e

/-- The unfired trailing cut of an ended attempt is moved to the end position plus D_cut (R100). -/
def moveTrailingCut (r : CopyRef) (j : Job) (e : Ev) : Ev :=
  match trailingCut r j e.st.media.marks with
  | none => e
  | some m =>
    if m.fired then e
    else
      let p := e.st.media.pos + steps e.st.media.settings.dCut
      let ms := disownCut r m.pos e.st.media.marks
      let e' := e.mapMedia fun x => { x with marks := placeCut r p ms }
      if ownsCutAt r (cutLanding r p ms) ms then
        e'.modifyAttempt r fun a => { a with outstandingCuts := a.outstandingCuts - 1 }
      else e'

/-- The marks of an attempt that ends by a cause other than DONE (R100). -/
def endMarks (r : CopyRef) (e : Ev) : Ev :=
  match e.st.job? r.handle with
  | none => e
  | some j => moveTrailingCut r j (withdrawMeasure r e)

/-- The part ends printing of its own accord, so the ABORT order is set (R101). -/
def EndCause.ordersAbort : EndCause → Bool
  | .cancelled | .pauseExpired | .mediaOut => true
  | _ => false

/-- The Schedule unit at the end of printing: the printing flag clears, a pending cap takes effect,
and the ABORT order is set where the part ends the printing (R85, R95, R101). -/
def Schedule.endPrinting (cause : EndCause) (r : CopyRef) (u : Schedule) : Schedule :=
  { u with
    grant := u.grant.map fun g => { g with printing := false }
    power := if u.pendingCap then .capped else u.power
    pendingCap := false
    abort := if cause.ordersAbort then some r else u.abort }

/-- The copy record at the end of printing (R12). -/
def CopyRecord.endPrinting (cause : EndCause) (now : Nat) (pos : Pos) (c : CopyRecord) :
    CopyRecord :=
  { c with
    state := .finishing
    record :=
      { c.record with ended := some { time := now, pos := pos }, endCause := some cause } }

/-- Printing of the attempt of the current grant ends (R12, R97, R98, R100, R102). -/
def endPrinting (cause : EndCause) (e : Ev) : Ev :=
  match e.st.printing with
  | none => e
  | some r =>
    let e1 :=
      ((endPause e).modifyCopy r (CopyRecord.endPrinting cause e.st.now e.st.media.pos)).mapSched
        (Schedule.endPrinting cause r)
    let e2 := if cause = .done then startDryClock r e1 else endMarks r e1
    e2.mayClose [r]

/-! ### The loss of the engine -/

/-- Every READY, ACTIVE and SPENT bay is marked uncertain (R27). -/
def Bay.distrust (b : Bay) : Bay :=
  match b.state with
  | .ready | .active | .spent => { b with uncertain := true }
  | _ => b

/-- The hold falls back to REQUESTED, its acknowledge timer restarted, unless it is FREE (R120). -/
def holdFallback (e : Ev) : Ev :=
  if e.st.media.hold.state = .free then e
  else
    e.mapMedia fun m =>
      { m with
        hold :=
          { m.hold with
            state := .requested
            captured := none
            ackTimer := some (e.st.now + m.settings.ackLimit) } }

/-- The engine is lost (R27, R50, R68, R101, R102, R120): the head mark is examined here, and the
consequences follow at the end of the event, with those of whatever else it did (R161, log 14). -/
def engineLost (e : Ev) : Ev :=
  let e1 := (endPrinting .engineLost e).mapSched fun u => { u with abort := none }
  let e2 :=
    (e1.mapMeter fun m => { m with confirmed := false }).mapInk fun i =>
      { i with bays := mapTable Bay.distrust i.bays }
  { holdFallback (runHead (triggerScan .desk e2)) with lost := true }

/-! ### Faults -/

/-- A status entry after one more fault (R174, R175). -/
def FaultStatus.note (x : FaultStatus) : FaultStatus :=
  { recorded := true, count := min 255 (x.count + 1) }

/-- The fault record of a port after a fault of this kind (R175). -/
def PortUnit.note (k : FaultKind) (h : Option Header) (now : Nat) (u : PortUnit) : PortUnit :=
  let u' := { u with status := modifyAt u.status k.index FaultStatus.note }
  if u.policy[k.index].masked then u'
  else
    match u.capture with
    | none => { u' with capture := some { kind := k, header := h, time := now } }
    | some _ => { u' with multiple := true }

/-- The device summary at an entry into FAULTED (R177). -/
def Ports.summarise (p : Port) (k : FaultKind) (now : Nat) (ps : Ports) : Ports :=
  match ps.summary with
  | none => { ps with summary := some { port := p, kind := k, time := now } }
  | some _ => { ps with summaryMultiple := true }

/-- The port enters FAULTED (R175). -/
def enterFaulted (p : Port) (k : FaultKind) (e : Ev) : Ev :=
  let e' :=
    ((e.modifyPort p fun u => { u with state := .faulted }).mapPorts
          (Ports.summarise p k e.st.now)).raise
      .portFault (.port p) k.index.val
  if p = .engine then engineLost e' else e'

/-- An unmasked fault of blocking severity stops a NORMAL port (R175). -/
def PortUnit.stops (k : FaultKind) (u : PortUnit) : Bool :=
  !u.policy[k.index].masked && u.policy[k.index].severity == .blocking && u.state == .normal

/-- The port unit records a fault (R174, R175); a port held by its reset line records none (R179). -/
def recordFault (p : Port) (k : FaultKind) (h : Option Header) (e : Ev) : Ev :=
  if e.st.portHeld p then e
  else
    let e' := e.modifyPort p (PortUnit.note k h e.st.now)
    if (e.st.ports.unit p).stops k then enterFaulted p k e' else e'

/-! ### Notices -/

/-- The number by which subjects of one kind are ordered (R171). -/
def Subject.number : Subject → Nat
  | .none => 0
  | .job h => h
  | .attempt r => (r.handle * 65536) + r.copy * 256 + r.attempt
  | .channel n => n
  | .bay n => n
  | .roll n => n
  | .account n => n
  | .port .job => 0
  | .port .engine => 1
  | .port .desk => 2

/-- The notice comes before another raised in the same event (R171). -/
def Notice.before (x y : Notice) : Bool :=
  x.kind.index < y.kind.index ||
    (x.kind.index == y.kind.index && x.subject.number < y.subject.number)

def insertNotice (n : Notice) : List Notice → List Notice
  | [] => [n]
  | x :: xs => if n.before x then n :: x :: xs else x :: insertNotice n xs

/-- The notices of an event, in the order in which they enter the queues (R171). -/
def orderNotices (l : List Notice) : List Notice := l.foldl (fun acc n => insertNotice n acc) []

/-- A notice is offered to a port: queued where the port's level for the kind is above 0, the oldest
entry giving way on a full queue (R171, R172). -/
def PortUnit.offer (now : Nat) (n : Notice) (u : PortUnit) : PortUnit :=
  let level := u.levels[n.kind.index]
  if level = 0 then u
  else
    let x : Entry := { notice := n, level := level, time := now % 4294967296 }
    if u.queue.length < Config.queueSize then { u with queue := u.queue ++ [x] }
    else { u with queue := u.queue.tail ++ [x], wrapped := true }

/-- The notices of an event are offered to a port that is not held (R171, R179). -/
def offerAll (now : Nat) (ns : List Notice) (held : Bool) (u : PortUnit) : PortUnit :=
  if held then u else ns.foldl (fun u n => u.offer now n) u

/-- The end of an event: the notices raised enter the queues, and a change of any order sets the
order change flag (R170, R171). -/
def Ev.finish (e : Ev) : State :=
  let ns := orderNotices e.raised
  let offer (p : Port) : Ports → Ports :=
    Ports.modifyUnit p (offerAll e.st.now ns (e.st.portHeld p))
  let ps := offer .desk (offer .engine (offer .job e.st.ports))
  { e.st with
    ports := { ps with orderChange := ps.orderChange || ordersDiffer e.start e.st } }

/-- One event. While RESET is asserted the part takes none (R182). -/
def event (f : Ev → Ev) (s : State) : State :=
  if s.pins.reset then s else (f (Ev.begin s)).close.finish

/-! ### Request frames -/

/-- The request kinds, in the order of the catalogue (9.3, R184). -/
inductive ReqKind where
  | submitJob | queryJob | holdJob | releaseJob | cancelJob
  | declareDrops | swathReport | maintReport
  | panelRequest | panelDone | panelAbort | engineStatus | holdTaken
  | collectJob
  | declareCartridge | setChannel | readInk | setBayCal | setScan | startScan
  | setPower | writePhases | loadPhases | setClassMap
  | mountRoll | unmountRoll | setMediaType | setPath | clearCutter
  | setReference | setHistorySize | readHistory
  | setPrices | setAccount | readAccount
  | setTime | setFaultPolicy
  | fetchNotices | setNoticeLevels | readFaults | clearFaults
  deriving DecidableEq, Repr

/-- Every request kind, in the order of its number (R184). -/
def ReqKind.catalogue : List ReqKind :=
  [.submitJob, .queryJob, .holdJob, .releaseJob, .cancelJob, .declareDrops, .swathReport,
    .maintReport, .panelRequest, .panelDone, .panelAbort, .engineStatus, .holdTaken, .collectJob,
    .declareCartridge, .setChannel, .readInk, .setBayCal, .setScan, .startScan, .setPower,
    .writePhases, .loadPhases, .setClassMap, .mountRoll, .unmountRoll, .setMediaType, .setPath,
    .clearCutter, .setReference, .setHistorySize, .readHistory, .setPrices, .setAccount,
    .readAccount, .setTime, .setFaultPolicy, .fetchNotices, .setNoticeLevels, .readFaults,
    .clearFaults]

/-- The kind byte of a request: its place in the catalogue, counted from 1 (R184). -/
def ReqKind.code (k : ReqKind) : Byte := BitVec.ofNat 8 (ReqKind.catalogue.idxOf k + 1)

/-- The request kind of a byte; none for 0 and 42..255, which are UNKNOWN_KIND (R167, R184). -/
def ReqKind.ofByte (b : Byte) : Option ReqKind :=
  match b.toNat with
  | 0 => none
  | n + 1 => ReqKind.catalogue[n]?

/-- The kinds that the catalogue lists for a port (9.3). -/
def ReqKind.servedOn : ReqKind → Port → Bool
  | .submitJob, p | .holdJob, p | .releaseJob, p => p == .job
  | .queryJob, p | .cancelJob, p => p == .job || p == .desk
  | .declareDrops, p | .swathReport, p | .maintReport, p | .panelRequest, p | .panelDone, p
  | .panelAbort, p | .engineStatus, p | .holdTaken, p => p == .engine
  | .fetchNotices, _ | .setNoticeLevels, _ | .readFaults, _ | .clearFaults, _ => true
  | _, p => p == .desk

/-- The kinds that a FAULTED port serves (R168, R176). -/
def ReqKind.servedFaulted : ReqKind → Bool
  | .readFaults | .clearFaults => true
  | _ => false

/-- A frame that passed the checks of R167. -/
structure Request where
  port : Port
  header : Header
  payload : List Byte
  deriving DecidableEq, Repr

/-- What the block that takes a request forms: the result code and the payload (R168). -/
structure Reply where
  code : ResultCode
  payload : List Byte
  deriving DecidableEq, Repr

/-- OK with a payload. -/
def Reply.ok (payload : List Byte) : Reply := { code := .ok, payload := payload }

/-- A refusal, whose payload is empty where the rule names none (R168). -/
def Reply.refuse (c : ResultCode) : Reply := { code := c, payload := [] }

/-- How a block takes a request: its effect in one event, and its reply (R168). -/
abbrev Take := Request → Ev → Ev × Reply

/-- A request that is refused with no effect. -/
def refuse (c : ResultCode) (e : Ev) : Ev × Reply := (e, Reply.refuse c)

/-- The response is placed in the slot, and the port is RESPONSE_READY (R168). -/
def respond (p : Port) (h : Header) (x : Ev × Reply) : Ev :=
  x.1.modifyPort p fun u =>
    { u with
      txn := .responseReady
        { kind := h.kind, tag := h.tag, code := x.2.code, payload := x.2.payload } }

/-- The refusals of the port itself (R168). -/
def portRefusal (k : ReqKind) (p : Port) (u : PortUnit) : Option ResultCode :=
  if !k.servedOn p then some .notThisPort
  else if u.state == .faulted && !k.servedFaulted then some .portFaulted
  else none

/-- An unread response is dropped, with REPLY_DROPPED for the new frame (R169). -/
def dropReply (p : Port) (h : Header) (e : Ev) : Ev :=
  match (e.st.ports.unit p).txn with
  | .responseReady _ =>
    recordFault p .replyDropped (some h) (e.modifyPort p fun u => { u with txn := .idle })
  | _ => e

/-- A frame that passed its checks: an unread response is dropped, the counter returns to 0, and the
request is refused by the port or taken at its block (R167 to R169). -/
def takeFrame (k : ReqKind) (take : Take) (q : Request) (e : Ev) : Ev :=
  let e' := (dropReply q.port q.header e).modifyPort q.port fun u => { u with badCount := 0 }
  match portRefusal k q.port (e'.st.ports.unit q.port) with
  | some c => respond q.port q.header (refuse c e')
  | none => respond q.port q.header (take q e')

/-- A frame that fails a check is answered BAD_FRAME with its fault; the eighth in a row records
CONSECUTIVE_BAD as well, and an unread response is dropped (R167, R169). The faults are recorded in the
order of R174's table (log 33). -/
def answerBad (p : Port) (k : FaultKind) (h : Header) (e : Ev) : Ev :=
  let n := (e.st.ports.unit p).badCount + 1
  let e1 := recordFault p k (some h) e
  let e2 := if 8 ≤ n then recordFault p .consecutiveBad (some h) e1 else e1
  respond p h
    (refuse .badFrame
      ((dropReply p h e2).modifyPort p fun u => { u with badCount := if 8 ≤ n then 0 else n }))

/-- A request transfer of `n` bytes: the part sends as many bytes of value 0 (R165). -/
def PortUnit.receive (n : Nat) (u : PortUnit) : PortUnit := { u with sent := List.replicate n 0 }

/-- A request transfer of `n` bytes, of a frame of this header, ends on a port: ignored while the port
is held, discarded with OVERLAP where `discard` says so or a request is in service, and otherwise
handled (R165, R169, R179). -/
def arrive (p : Port) (h : Header) (n : Nat) (discard : Bool) (go : Ev → Ev) (e : Ev) : Ev :=
  if e.st.portHeld p then e
  else
    let e' := e.modifyPort p (PortUnit.receive n)
    match (e.st.ports.unit p).txn with
    | .inService _ _ => recordFault p .overlap (some h) e'
    | _ => if discard then recordFault p .overlap (some h) e' else go e'

/-- The header of a request command (log 6). -/
def requestHeader (k : ReqKind) (tag : Byte) (payload : List Byte) : Header :=
  { kind := k.code, tag := tag, length := BitVec.ofNat 16 payload.length }

/-- A request command: its frame, of the payload and six bytes more (11.2), arrives with a good check.
A payload beyond the length field is MALFORMED (R167, log 6). -/
def request (k : ReqKind) (take : Take) (p : Port) (tag : Byte) (payload : List Byte) (s : State) :
    State :=
  let h := requestHeader k tag payload
  event
    (arrive p h (payload.length + 6) false fun e =>
      if Config.maxPayload < payload.length then answerBad p .malformed h e
      else takeFrame k take { port := p, header := h, payload := payload } e)
    s

end Sys2Proof.Machine
end

