-- ==== Sys2Proof/Machine/HeadLine.lean ====
section
/-! DEFINITION. The head line: bytes gathered into messages of 12, and their examination (R138,
R186). -/

namespace Sys2Proof.Machine

/-- The record that a PATCH message carries (R186); the meaning of an odd valid flag byte is free
(log 11). -/
def patchRecord (g : List Byte) : PatchRecord where
  colour := { l := (field g 3 2 : Nat), a := signed16 (field g 5 2), b := signed16 (field g 7 2) }
  valid :=
    match flag? (field g 9 1) with
    | some b => b
    | none => Config.oddValidFlag (g.getD 9 0)

/-- A message that bears the current exchange number is malformed, with `n` records received of `c`
patches (R138). -/
def malformed (c n : Nat) (g : List Byte) : Bool :=
  (crc16 (g.take 10)).toNat != field g 10 2 ||
    match field g 0 1 with
    | 2 => field g 2 1 != n || c ≤ n
    | 3 => field g 2 1 != c || n < c
    | _ => true

/-- A complete message is examined against the exchange in progress (R138). -/
def examineMessage (g : List Byte) (e : Ev) : Ev :=
  match e.st.colour.measurement with
  | none => e
  | some m =>
    match m.phase with
    | .drying => e
    | .exchanging x records =>
      if g.getD 1 0 ≠ x then e
      else if malformed (e.st.targetsOf m.owner).length records.length g then
        settleMarks
          (endExchange m (.unmeasured .head) { Figures.none with valid := some records.length } e)
      else if field g 0 1 = 2 then
        e.mapColour fun u =>
          { u with
            measurement := some { m with phase := .exchanging x (records ++ [patchRecord g]) } }
      else settleMarks (judgeExchange m records e)

/-- A byte is received: the twelfth completes the message (R186). -/
def headByte (b : Byte) (e : Ev) : Ev :=
  let g := e.st.colour.gathered ++ [b]
  if g.length < 12 then e.mapColour fun u => { u with gathered := g }
  else examineMessage g (e.mapColour fun u => { u with gathered := [] })

def headBytes (bytes : List Byte) (e : Ev) : Ev := bytes.foldl (fun e b => headByte b e) e

/-- The bytes that complete a PATCH message are received (R138, R186). -/
def execPatch (bytes : List Byte) (s : State) : Host.Outcome State Fault Refusal :=
  .next (event (headBytes bytes) s)

/-- The bytes that complete an END message are received (R138, R186). -/
def execHeadEnd (bytes : List Byte) (s : State) : Host.Outcome State Fault Refusal :=
  .next (event (headBytes bytes) s)

/-- The bytes that complete a message of another kind are received (R138, R186). -/
def execHeadOther (bytes : List Byte) (s : State) : Host.Outcome State Fault Refusal :=
  .next (event (headBytes bytes) s)

/-- A byte received more than 10 ms after the byte before it begins a new message; a partial message
is discarded (R186). -/
def execHeadByteGap (b : Byte) (s : State) : Host.Outcome State Fault Refusal :=
  .next (event (fun e => headByte b (e.mapColour fun u => { u with gathered := [] })) s)

end Sys2Proof.Machine
end

