-- ==== Sys2Proof/Machine/Lines.lean ====
section
/-! DEFINITION. The edges of the input lines, and power: resets, cartridge-present inputs, the feed
encoder, CUT_HOME (ch. 2, ch. 6, ch. 9). -/

namespace Sys2Proof.Machine

/-- An edge moves an input line. Out of RESET it is an event as well; while RESET is asserted only
the level moves, and it is sampled at the release (R182). -/
def edge (move : Pins → Pins) (f : Ev → Ev) (s : State) : State :=
  if s.pins.reset then { s with pins := move s.pins }
  else event (fun e => f { e with st := { e.st with pins := move e.st.pins } }) s

/-! ### Port reset -/

/-- A port unit after its port reset: everything but the fault policy at its reset value (R179). -/
def PortUnit.portReset (p : Port) (u : PortUnit) : PortUnit :=
  { PortUnit.atReset p with policy := u.policy, sent := u.sent }

/-- The event of a port reset (R179). -/
def resetPort (p : Port) (e : Ev) : Ev :=
  let e1 := e.modifyPort p (PortUnit.portReset p)
  if p = .engine then (engineLost e1).mapPorts fun ps => { ps with orderChange := true } else e1

def execPortReset (p : Port) (s : State) : Host.Outcome State Fault Refusal :=
  .next (edge (Pins.setPortReset p true) (resetPort p) s)

def execPortResetRelease (p : Port) (s : State) : Host.Outcome State Fault Refusal :=
  .next (edge (Pins.setPortReset p false) (fun e => e) s)

/-! ### Device reset -/

/-- A request in service is abandoned, and REPLY deasserted (R182). -/
def PortUnit.abandon (u : PortUnit) : PortUnit := { u with txn := .idle }

/-- The assertion of RESET: the count stands at 0 and what was under way is abandoned (R182, log 19,
log 20). The records take their reset values at the release. -/
def State.enterReset (s : State) : State :=
  { s with
    pins := { s.pins with reset := true }
    clock := TimeBase.atReset
    scan := { s.scan with running := none, timer := none }
    media :=
      { s.media with
        hold := { s.media.hold with ackTimer := none }
        pause := none
        cutterTimer := none }
    colour := { s.colour with measurement := none, dryTimer := none, headTimer := none, gathered := [] }
    ports :=
      { s.ports with
        job := s.ports.job.abandon
        engine := s.ports.engine.abandon
        desk := s.ports.desk.abandon } }

def execDeviceReset (s : State) : Host.Outcome State Fault Refusal := .next s.enterReset

/-- The release of RESET: every record at its reset value, the present inputs and CUT_HOME sampled,
the drop volumes and the load-cell calibrations as they stood (R26, R49, R73, R125, R182; log 34). -/
def State.releaseReset (s : State) : State :=
  State.atRelease s.meter.drops (fun b => s.ink.bays[b].cal) { s.pins with reset := false } s.pending

def execResetRelease (s : State) : Host.Outcome State Fault Refusal := .next s.releaseReset

/-- Power is first applied: the drop volumes and the calibrations take their first values (R49,
R73). -/
def State.applyPower (s : State) : State :=
  { s with
    meter := { s.meter with drops := Vector.replicate 12 DropVolumes.atPower }
    ink :=
      { s.ink with bays := mapTable (fun b : Bay => { b with cal := Calibration.atPower }) s.ink.bays } }

def execPowerApplied (s : State) : Host.Outcome State Fault Refusal := .next s.applyPower

/-! ### Cartridge-present inputs -/

def Pins.setPresent (b : Fin 24) (level : Bool) (pins : Pins) : Pins :=
  { pins with present := pins.present.set b.val level b.isLt }

/-- A cartridge is seated: EMPTY becomes INSERTED (R28, log 4). -/
def seat (b : Fin 24) (e : Ev) : Ev :=
  e.modifyBay b fun x => if x.state = .empty then { x with state := .inserted } else x

def execCartridgePresentRise (b : Fin 24) (s : State) : Host.Outcome State Fault Refusal :=
  .next (edge (Pins.setPresent b true) (seat b) s)

/-- A cartridge is removed from a bay that is not EMPTY (R44, log 4). -/
def unseat (b : Fin 24) (e : Ev) : Ev :=
  if e.st.ink.bays[b].state = .empty then e else settle (removeCartridge b e)

def execCartridgePresentFall (b : Fin 24) (s : State) : Host.Outcome State Fault Refusal :=
  .next (edge (Pins.setPresent b false) (unseat b) s)

/-! ### The feed encoder -/

/-- The fault of a step taken while the hold is TAKEN (R121). -/
def feedFault (held : Bool) (e : Ev) : Ev :=
  if held then recordFault .engine .feedWhileHeld none e else e

/-- One step: counted, the roll examined, the head mark examined after a forward step (R111, R112,
R116, R121). DESIGN CHOICE, unsafe (log 38): FEED_WHILE_HELD is recorded after these, since R121 gives no
order: an attempt that the step exhausts the roll under ends MEDIA_OUT, and a mark that the step reaches
fires and begins its service, before a fault made blocking loses the engine. -/
def feed (d : Direction) (e : Ev) : Ev :=
  let e1 := countStep d e
  let e2 := if e.st.media.exhausts d then endPrinting .mediaOut e1 else e1
  match d with
  | .forward => settle (feedFault e.st.held (runHead e2))
  | .reverse => feedFault e.st.held e2

def execFeedStep (d : Direction) (s : State) : Host.Outcome State Fault Refusal :=
  .next (event (feed d) s)

/-! ### CUT_HOME -/

def Pins.setHome (level : Bool) (pins : Pins) : Pins := { pins with cutHome := level }

/-- CUT_HOME falls: STARTING becomes RETURNING, READY becomes FAULT as UNBIDDEN (R125). -/
def homeFalls (e : Ev) : Ev :=
  match e.st.media.cutter with
  | .starting => e.mapMedia fun m => { m with cutter := .returning }
  | .ready => (e.mapMedia fun m => { m with cutter := .fault }).raise .cutterFault .none 0
  | _ => e

def execCutHomeFall (s : State) : Host.Outcome State Fault Refusal :=
  .next (edge (Pins.setHome false) homeFalls s)

/-- The CUT at the head, in service, is resolved; nothing where the head is no CUT in service. -/
def resolveHead (o : CutOutcome) (e : Ev) : Ev :=
  match e.st.media.marks with
  | [] => e
  | m :: _ => if m.kind = .cut ∧ m.service = .inService then resolveCut o m e else e

/-- CUT_HOME rises in RETURNING: the stroke is complete (R125, R126). -/
def homeRises (e : Ev) : Ev :=
  match e.st.media.cutter with
  | .returning =>
    settleMarks
      (resolveHead .done (e.mapMedia fun m => { m with cutter := .ready, cutterTimer := none }))
  | _ => e

def execCutHomeRise (s : State) : Host.Outcome State Fault Refusal :=
  .next (edge (Pins.setHome true) homeRises s)

end Sys2Proof.Machine
end

