-- ==== Sys2Proof/Machine/Timers.lean ====
section
/-! DEFINITION. The completions and expiries: the scan with its level checks (ch. 4), and the six
timers (R180). -/

namespace Sys2Proof.Machine

/-- The expiry of a timer: the time base stands where it is due; a stopped timer does not expire
(log 3, log 4). -/
def expire (due : State → Option Nat) (f : Ev → Ev) (s : State) : State :=
  event
    (fun e =>
      match due e.st with
      | none => e
      | some d => f (e.mapClock (TimeBase.reach d)))
    s

/-- One millisecond passes while no command waits; RESET holds the count at 0 (R180, R181, R182,
log 2). -/
def State.tick (s : State) : State :=
  if s.pins.reset then s else { s with clock := s.clock.advance 1 }

/-! ### The scan -/

/-- The interval timer restarts at the full interval, and its trigger arises while INTERVAL is in the
trigger set (R66, R68). -/
def intervalExpires (e : Ev) : Ev :=
  let e' := e.mapScan fun u => { u with timer := some (e.st.now + u.config.seconds * 1000) }
  if e.st.scan.config.onInterval then triggerScan .interval e' else e'

def execScanIntervalExpiry (s : State) : Host.Outcome State Fault Refusal :=
  .next (expire (fun s => s.scan.timer) intervalExpires s)

/-- The entry that a conversion writes (R70). -/
def sampleOf (raw : BitVec 12) (now : Nat) : Sample :=
  { raw := raw.toNat, time := now, valid := raw != 0 && raw != 4095 }

/-- The conversion of the running scan's next input completes (R70, log 19). -/
def convert (raw : BitVec 12) (e : Ev) : Ev :=
  match e.st.scan.running with
  | none => e
  | some r =>
    if h : r.next < 25 then
      if r.next ≤ r.last.val then
        e.mapScan fun u =>
          { u with
            samples := u.samples.set r.next (sampleOf raw e.st.now) h
            running := some { r with next := r.next + 1 } }
      else e
    else e

def execSampleConversion (raw : BitVec 12) (s : State) : Host.Outcome State Fault Refusal :=
  .next (event (convert raw) s)

/-- The measured volume M of a bay (R74). -/
def measuredVolume (raw : Nat) (k : Calibration) (density declared : Nat) : Nat :=
  let weight := (raw - k.zero) * k.scale / 1000
  min ((weight - k.tare) * 1000000 / density) declared

/-- The input that weighs a bay (4.1). -/
def weighInput (b : Fin 24) : Fin 25 := ⟨b.val, by omega⟩

/-- A bay is compared, with its cartridge, when all the conditions of R75 hold. -/
def State.compares (s : State) (r : RunningScan) (b : Fin 24) : Option Cartridge :=
  let x := s.ink.bays[b]
  let smp := s.scan.samples[weighInput b]
  match x.cart with
  | none => none
  | some k =>
    if r.first.val ≤ b.val ∧ b.val ≤ r.last.val ∧ smp.valid ∧ x.cal.calibrated ∧
        (x.state = .ready ∨ x.state = .active ∨ x.state = .spent) ∧ k.declaredAt < smp.time then
      some k
    else none

/-- A write-off to `m`: the written-off figure rises by what the level falls (R76). -/
def Cartridge.writeDown (m : Nat) (k : Cartridge) : Cartridge :=
  { k with level := m, writtenOff := k.writtenOff + (k.level - m) }

/-- The outcome of a comparison of level and measured volume (R76 to R78). -/
inductive LevelCheck where
  | fine | writeOff | high
  deriving DecidableEq, Repr

def levelCheck (level m tolerance : Nat) (uncertain : Bool) : LevelCheck :=
  if m < level ∧ (uncertain ∨ m + tolerance < level) then .writeOff
  else if level + tolerance < m then .high
  else .fine

/-- The bays compared, written off and found high so far. -/
structure CheckCounts where
  compared : Nat
  writtenOff : Nat
  high : Nat
  deriving DecidableEq, Repr

/-- One bay of the level checks (R75 to R78). -/
def checkBay (r : RunningScan) (b : Fin 24) (x : CheckCounts × Ev) : CheckCounts × Ev :=
  let e := x.2
  match e.st.compares r b with
  | none => x
  | some k =>
    let bay := e.st.ink.bays[b]
    let ch := e.st.ink.channels[channelOf b]
    let m := measuredVolume e.st.scan.samples[weighInput b].raw bay.cal ch.density k.declared
    let e' := e.modifyBay b fun y => { y with uncertain := false }
    let n := { x.1 with compared := x.1.compared + 1 }
    match levelCheck k.level m ch.tolerance bay.uncertain with
    | .fine => (n, e')
    | .high => ({ n with high := n.high + 1 }, e'.raise .levelHigh (.bay b.val) (m - k.level))
    | .writeOff =>
      let e'' :=
        (e'.modifyBay b fun y => { y with cart := y.cart.map (Cartridge.writeDown m) }).raise
          .writeOff (.bay b.val) (k.level - m)
      ({ n with writtenOff := n.writtenOff + 1 },
        if bay.state = .active then giveUp (channelOf b) e'' else e'')

/-- The level checks of a scan, in ascending bay order (R75). -/
def levelChecks (r : RunningScan) (e : Ev) : CheckCounts × Ev :=
  if r.qualifying then
    (List.finRange 24).foldl (fun x b => checkBay r b x)
      ({ compared := 0, writtenOff := 0, high := 0 }, e)
  else ({ compared := 0, writtenOff := 0, high := 0 }, e)

/-- The scan-complete event, once every input of the range is converted (R70, R79, R82, log 19). -/
def completeScan (e : Ev) : Ev :=
  match e.st.scan.running with
  | none => e
  | some r =>
    if r.next ≤ r.last.val then e
    else
      let x := levelChecks r e
      settle
        (x.2.mapScan fun u =>
          { u with
            running := none
            last := some
              { kind := r.kind, first := r.first, last := r.last, start := r.start,
                completed := e.st.now, qualified := r.qualifying, compared := x.1.compared,
                writtenOff := x.1.writtenOff, levelHigh := x.1.high } })

def execScanComplete (s : State) : Host.Outcome State Fault Refusal := .next (event completeScan s)

/-! ### The other timers -/

/-- The acknowledge timer expires: HOLD_IGNORED, and the timer is not restarted (R119). -/
def ackExpires (e : Ev) : Ev :=
  recordFault .engine .holdIgnored none
    (e.mapMedia fun m => { m with hold := { m.hold with ackTimer := none } })

def execHoldAckExpiry (s : State) : Host.Outcome State Fault Refusal :=
  .next (expire (fun s => s.media.hold.ackTimer) ackExpires s)

/-- The period ends with the accrued pause at the limit (R123, log 29). -/
def exhaustPause (e : Ev) : Ev :=
  let e' := e.mapMedia fun m => { m with pause := none }
  match e.st.printing with
  | none => e'
  | some r => e'.modifyAttempt r fun a => { a with accruedPause := a.pauseLimit }

/-- The pause timer expires: the attempt ends PAUSE_EXPIRED (R123). -/
def pauseExpires (e : Ev) : Ev := settleMarks (endPrinting .pauseExpired (exhaustPause e))

def execPauseExpiry (s : State) : Host.Outcome State Fault Refusal :=
  .next (expire (fun s => s.media.pause.map (·.due)) pauseExpires s)

/-- The cutter timer expires in a stroke: FAULT as TIMEOUT, and the cut FAILED (R127). -/
def cutterExpires (e : Ev) : Ev :=
  let e' := e.mapMedia fun m => { m with cutterTimer := none }
  match e.st.media.cutter with
  | .starting | .returning =>
    settleMarks
      (resolveHead .failed
        ((e'.mapMedia fun m => { m with cutter := .fault }).raise .cutterFault .none 1))
  | _ => e'

def execCutterTimerExpiry (s : State) : Host.Outcome State Fault Refusal :=
  .next (expire (fun s => s.media.cutterTimer) cutterExpires s)

/-- The dry wait timer expires: the exchange begins (R136, R137). -/
def dryExpires (e : Ev) : Ev :=
  let e' := e.mapColour fun u => { u with dryTimer := none }
  match e.st.colour.measurement with
  | none => e'
  | some m =>
    match m.phase with
    | .drying => beginExchange m e'
    | .exchanging _ _ => e'

def execDryWaitExpiry (s : State) : Host.Outcome State Fault Refusal :=
  .next (expire (fun s => s.colour.dryTimer) dryExpires s)

/-- The head timer expires: the exchange ends UNMEASURED(HEAD) (R138). -/
def headExpires (e : Ev) : Ev :=
  let e' := e.mapColour fun u => { u with headTimer := none }
  match e.st.colour.measurement with
  | none => e'
  | some m =>
    match m.phase with
    | .drying => e'
    | .exchanging _ records =>
      settleMarks
        (endExchange m (.unmeasured .head) { Figures.none with valid := some records.length } e')

def execHeadTimerExpiry (s : State) : Host.Outcome State Fault Refusal :=
  .next (expire (fun s => s.colour.headTimer) headExpires s)

end Sys2Proof.Machine
end

