-- ==== Sys2Proof/Machine/Operands.lean ====
section
/-! DEFINITION. The operands of requests: what each payload carries, and when a value it carries is
refused (ch. 11, and the rule of each request). A reader answers none where the request is refused
BAD_VALUE whatever the state. -/

namespace Sys2Proof.Machine

/-- A value clamped to a range. -/
def clamp (lo hi x : Nat) : Nat := max lo (min hi x)

/-- A request that carries no payload (R184: any other length is BAD_VALUE). -/
def withNone (q : Request) (e : Ev) (f : Ev × Reply) : Ev × Reply :=
  if q.payload.length = 0 then f else refuse .badValue e

/-- A request whose payload the reader accepts; otherwise BAD_VALUE (R184). -/
def withRead {α : Type} (x : Option α) (e : Ev) (f : α → Ev × Reply) : Ev × Reply :=
  match x with
  | none => refuse .badValue e
  | some a => f a

/-- A request that names an open job by handle; otherwise UNKNOWN_HANDLE (R1). -/
def withJob (q : Request) (e : Ev) (f : Fin 32 → Job → Ev × Reply) : Ev × Reply :=
  if q.payload.length = 1 then
    match fin? 32 (field q.payload 0 1) with
    | none => refuse .unknownHandle e
    | some h =>
      match e.st.store.jobs[h] with
      | none => refuse .unknownHandle e
      | some j => f h j
  else refuse .badValue e

/-! ### Engine port -/

/-- The 36 drop counts of a report that begin at an offset (11.6). -/
def dropCounts (pl : List Byte) (off : Nat) (c : Fin 12) : Nat × Nat × Nat :=
  (field pl (off + 9 * c.val) 3, field pl (off + 9 * c.val + 3) 3, field pl (off + 9 * c.val + 6) 3)

/-- The drop volumes of DECLARE_DROPS (R51, 11.6). -/
def dropVolumes (pl : List Byte) (c : Fin 12) : DropVolumes where
  small := field pl (6 * c.val) 2
  medium := field pl (6 * c.val + 2) 2
  large := field pl (6 * c.val + 4) 2

def DropVolumes.inRange (d : DropVolumes) : Bool :=
  (5 ≤ d.small && d.small ≤ 1000) && (5 ≤ d.medium && d.medium ≤ 1000) &&
    (5 ≤ d.large && d.large ≤ 1000)

def readDrops (pl : List Byte) : Option (Vector DropVolumes 12) :=
  let t := tabulate 12 (dropVolumes pl)
  if pl.length = 72 && allOf 12 (fun c => t[c].inRange) then some t else none

/-- The reference of PANEL_DONE (R97). -/
def readRef (pl : List Byte) : Option CopyRef := if pl.length = 3 then some (refAt pl 0) else none

/-- The reference and the cause of PANEL_ABORT; ENGINE_FAULT 0, ENGINE_REQUEST 1 (R98, log 13). -/
def readAbort (pl : List Byte) : Option (CopyRef × EndCause) :=
  if pl.length = 4 then
    match field pl 3 1 with
    | 0 => some (refAt pl 0, .engineFault)
    | 1 => some (refAt pl 0, .engineRequest)
    | _ => none
  else none

/-! ### Submission -/

def wastePolicy? : Nat → Option WastePolicy
  | 0 => some .client
  | 1 => some .house
  | 2 => some .shared
  | _ => none

def unmeasuredPolicy? : Nat → Option UnmeasuredPolicy
  | 0 => some .accept
  | 1 => some .reprint
  | _ => none

/-- A tolerance of a check policy, 1..2000 (R5). -/
def tolerance? (n : Nat) : Option Nat := if 1 ≤ n ∧ n ≤ 2000 then some n else none

/-- The check policy and the strip of a submission (R5, 11.7): present together or absent together. -/
def readPolicy (refs : Vector RefSet 16) (copyLength : Nat) (pl : List Byte) :
    Option (Option CheckPolicy) := do
  let check ← flag? (field pl 14 1)
  let strip ← flag? (field pl 24 1)
  if check != strip then none
  else if !check then some none
  else do
    let refSet ← fin? 16 (field pl 15 1)
    guard (refs[refSet].patches ≠ [])
    let absMax ← tolerance? (field pl 16 2)
    let absMean ← tolerance? (field pl 18 2)
    let edition ← flag? (field pl 20 1)
    let editionMax ← tolerance? (field pl 21 2)
    let unmeasured ← unmeasuredPolicy? (field pl 23 1)
    guard (120 ≤ field pl 29 4)
    guard (field pl 25 4 + field pl 29 4 ≤ copyLength)
    some (some
      { refSet := refSet, absMax := absMax, absMean := absMean, editionCheck := edition,
        editionMax := editionMax, unmeasured := unmeasured, stripOffset := field pl 25 4,
        stripLength := field pl 29 4 })

/-- A submission that passes the value checks, with the number of its copies (R4, R5). -/
structure Submission where
  account : Fin 32
  cls : Fin 8
  priceSet : Fin 4
  mediaType : Fin 16
  copies : Nat
  reprintLimit : Nat
  waste : WastePolicy
  leadCut : Bool
  trailCut : Bool
  margin : Nat
  copyLength : Nat
  check : Option CheckPolicy
  estimate : Vector Nat 12
  deriving DecidableEq, Repr

/-- The value checks of SUBMIT_JOB (R4, R5) over its layout (11.7). -/
def readSubmission (s : State) (pl : List Byte) : Option Submission := do
  guard (pl.length = 81)
  let account ← fin? 32 (field pl 0 1)
  guard s.cost.accounts[account].enabled
  let cls ← fin? 8 (field pl 1 1)
  let priceSet ← fin? 4 (field pl 2 1)
  let mediaType ← fin? 16 (field pl 3 1)
  guard s.media.types[mediaType].defined
  guard (1 ≤ field pl 4 1 ∧ field pl 4 1 ≤ 64)
  guard (field pl 5 1 ≤ 3)
  let waste ← wastePolicy? (field pl 6 1)
  let lead ← flag? (field pl 7 1)
  let trail ← flag? (field pl 8 1)
  guard (field pl 9 1 ≤ 50)
  guard (100 ≤ field pl 10 4 ∧ field pl 10 4 ≤ 300000)
  let check ← readPolicy s.colour.refs (field pl 10 4) pl
  let estimate := tabulate 12 fun c => field pl (33 + 4 * c.val) 4
  guard (allOf 12 fun c => estimate[c] ≤ 1000000000)
  some
    { account := account, cls := cls, priceSet := priceSet, mediaType := mediaType,
      copies := field pl 4 1, reprintLimit := field pl 5 1, waste := waste, leadCut := lead,
      trailCut := trail, margin := field pl 9 1, copyLength := field pl 10 4, check := check,
      estimate := estimate }

/-! ### Ink, scan -/

/-- The values of DECLARE_CARTRIDGE, past its first two checks (R29). -/
structure Declaration where
  bay : Fin 24
  volume : Nat
  lot : Nat
  expiry : Nat
  deriving DecidableEq, Repr

def readDeclaration (pl : List Byte) : Option Declaration := do
  guard (pl.length = 11)
  let bay ← fin? 24 (field pl 0 1)
  guard (1 ≤ field pl 1 4 ∧ field pl 1 4 ≤ 1000000000)
  some { bay := bay, volume := field pl 1 4, lot := field pl 5 4, expiry := field pl 9 2 }

/-- The settings of SET_CHANNEL, clamped (R47). -/
structure ChannelSettings where
  dead : Nat
  tolerance : Nat
  density : Nat
  lowThreshold : Nat
  deriving DecidableEq, Repr

def readChannel (pl : List Byte) : Option (Fin 12 × ChannelSettings) := do
  guard (pl.length = 15)
  let c ← fin? 12 (field pl 0 1)
  some (c,
    { dead := clamp 0 50000000 (field pl 1 4)
      tolerance := clamp 100000 50000000 (field pl 5 4)
      density := clamp 800 1500 (field pl 9 2)
      lowThreshold := clamp 0 2000000000 (field pl 11 4) })

/-- The calibration of SET_BAY_CAL, clamped, with its flag set (R73). -/
def readBayCal (pl : List Byte) : Option (Fin 24 × Calibration) := do
  guard (pl.length = 11)
  let b ← fin? 24 (field pl 0 1)
  some (b,
    { zero := clamp 0 4095 (field pl 1 2)
      scale := clamp 1 1000000 (field pl 3 4)
      tare := clamp 0 2000000 (field pl 7 4)
      calibrated := true })

/-- The configuration of SET_SCAN; the unused bits of the trigger set are not examined (R67,
log 12). -/
def readScan (pl : List Byte) : Option ScanConfig := do
  guard (pl.length = 5)
  let first ← fin? 25 (field pl 0 1)
  let last ← fin? 25 (field pl 1 1)
  guard (first.val ≤ last.val)
  let t := field pl 2 1
  some
    { first := first, last := last, onDesk := t.testBit 0, onInterval := t.testBit 1,
      onCopyEnd := t.testBit 2, seconds := clamp 1 3600 (field pl 3 2) }

/-! ### Schedule -/

def readPower (pl : List Byte) : Option Power :=
  if pl.length = 1 then
    match field pl 0 1 with
    | 0 => some .run
    | 1 => some .capped
    | _ => none
  else none

/-- Lane numbers, one byte each (R86, R87). -/
def readLanes (n : Nat) (pl : List Byte) : Option (Vector (Fin 4) n) :=
  if pl.length = n && allOf n (fun i => field pl i.val 1 < 4) then
    some (tabulate n fun i => ⟨field pl i.val 1 % 4, Nat.mod_lt _ (by decide)⟩)
  else none

/-! ### Media -/

/-- The values of MOUNT_ROLL, past its first three checks (R108). -/
structure Mounting where
  roll : Fin 2
  mediaType : Fin 16
  length : Nat
  deriving DecidableEq, Repr

def readMounting (types : Vector MediaType 16) (pl : List Byte) : Option Mounting := do
  guard (pl.length = 6)
  let roll ← fin? 2 (field pl 0 1)
  let mt ← fin? 16 (field pl 1 1)
  guard types[mt].defined
  guard (1 ≤ field pl 2 4 ∧ field pl 2 4 ≤ 1000000)
  some { roll := roll, mediaType := mt, length := field pl 2 4 }

def readRoll (pl : List Byte) : Option (Fin 2) :=
  if pl.length = 1 then fin? 2 (field pl 0 1) else none

/-- The record of SET_MEDIA_TYPE, clamped, with its flag set (R106). -/
def readMediaType (pl : List Byte) : Option (Fin 16 × MediaType) := do
  guard (pl.length = 7)
  let t ← fin? 16 (field pl 0 1)
  some (t,
    { defined := true
      width := clamp 1000 16256 (field pl 1 2)
      dryBase := clamp 0 3600 (field pl 3 2)
      pauseLimit := clamp 1 600 (field pl 5 2) })

/-- The settings of SET_PATH, D_head clamped first (R110). -/
def readPath (pl : List Byte) : Option PathSettings :=
  if pl.length = 24 then
    let dHead := clamp 100 20000 (field pl 0 2)
    some
      { dHead := dHead
        dCut := clamp (dHead + 100) 30000 (field pl 2 2)
        cutTolerance := clamp 0 500 (field pl 4 2)
        ackLimit := clamp 100 10000 (field pl 6 6)
        cutterTimeout := clamp 1000 20000 (field pl 12 6)
        headTimeout := clamp 5000 60000 (field pl 18 6) }
  else none

/-! ### Colour -/

/-- The patch at an offset: L, a and b, two bytes each (R129, R184). -/
def colourAt (pl : List Byte) (off : Nat) : Colour where
  l := (field pl off 2 : Nat)
  a := signed16 (field pl (off + 2) 2)
  b := signed16 (field pl (off + 4) 2)

/-- The set and the patches of SET_REFERENCE, past its first three checks (R130). -/
def readReference (pl : List Byte) : Option (Fin 16 × List Colour) := do
  let r ← fin? 16 (field pl 0 1)
  let n := field pl 1 1
  guard (1 ≤ n ∧ n ≤ 48)
  guard (pl.length = 2 + 6 * n)
  let patches := (List.range n).map fun i => colourAt pl (2 + 6 * i)
  guard (patches.all Colour.inRange)
  some (r, patches)

def readHistorySize (pl : List Byte) : Option Nat :=
  let n := field pl 0 2
  if pl.length = 2 ∧ (n = 64 ∨ n = 128 ∨ n = 256) then some n else none

/-- The count and the skip of READ_HISTORY (R148). -/
def readPaging (pl : List Byte) : Option (Nat × Nat) :=
  let n := field pl 0 1
  if pl.length = 2 ∧ 1 ≤ n ∧ n ≤ 32 then some (n, field pl 1 1) else none

/-! ### Cost -/

/-- The set and the prices of SET_PRICES, past its first three checks (R150). -/
def readPrices (pl : List Byte) : Option (Fin 4 × PriceSet) := do
  guard (pl.length = 121)
  let n ← fin? 4 (field pl 0 1)
  let p : PriceSet :=
    { ink := tabulate 12 fun c => field pl (1 + 4 * c.val) 4
      media := tabulate 16 fun t => field pl (49 + 4 * t.val) 4
      cut := field pl 113 4
      measurement := field pl 117 4
      inUse := 0 }
  guard (allOf 12 fun c => p.ink[c] ≤ 1000000)
  guard (allOf 16 fun t => p.media[t] ≤ 10000000)
  guard (p.cut ≤ 100000)
  guard (p.measurement ≤ 100000)
  some (n, p)

/-- The account, the enabled flag and the limit of SET_ACCOUNT (R152). -/
def readAccountSettings (pl : List Byte) : Option (Fin 32 × Bool × Nat) := do
  guard (pl.length = 8)
  let i ← fin? 32 (field pl 0 1)
  let enabled ← flag? (field pl 1 1)
  guard (i.val ≠ 0 ∨ enabled)
  some (i, enabled, field pl 2 6)

def readAccountNumber (pl : List Byte) : Option (Fin 32) :=
  if pl.length = 1 then fin? 32 (field pl 0 1) else none

/-! ### Ports and time -/

/-- The day and the millisecond of day of SET_TIME (R181). -/
def readTime (pl : List Byte) : Option (Nat × Nat) :=
  if pl.length = 6 ∧ field pl 2 4 < Config.msPerDay then some (field pl 0 2, field pl 2 4) else none

def port? : Nat → Option Port
  | 0 => some .job
  | 1 => some .engine
  | 2 => some .desk
  | _ => none

/-- The mask and the severity of a fault kind (R178). -/
def policyAt (pl : List Byte) (i : Fin 11) : Policy where
  masked := field pl (1 + 2 * i.val) 1 == 1
  severity := if field pl (2 + 2 * i.val) 1 = 1 then .blocking else .advisory

def readFaultPolicy (pl : List Byte) : Option (Port × Vector Policy 11) := do
  guard (pl.length = 23)
  let p ← port? (field pl 0 1)
  guard (allOf 11 fun i => field pl (1 + 2 * i.val) 1 < 2 && field pl (2 + 2 * i.val) 1 < 2)
  some (p, tabulate 11 (policyAt pl))

/-- The threshold and the levels of SET_NOTICE_LEVELS (R173). -/
def readLevels (pl : List Byte) : Option (Nat × Vector Nat 18) :=
  let levels := tabulate 18 fun i => field pl (1 + i.val) 1
  if pl.length = 19 && 1 ≤ field pl 0 1 && field pl 0 1 ≤ 7 && allOf 18 (fun i => levels[i] ≤ 7) then
    some (field pl 0 1, levels)
  else none

end Sys2Proof.Machine
end

