-- ==== Sys2Proof/Machine/Reports.lean ====
section
/-! DEFINITION. The payloads of responses: fields in the order in which the rule of the request lists
them, at the sizes of R185 (log 8). Where the rules fix neither a field's size nor its code, the model's
choice is log 36; where they fix neither its place nor what is absent together, log 37. -/

namespace Sys2Proof.Machine

/-- An optional field of `size` bytes when present (R185). -/
def optField {α : Type} (size : Nat) (enc : α → List Byte) (x : Option α) : List Byte :=
  optBytes size (x.map enc)

/-- The twelve volumes of a record (R185). -/
def volumes (size : Nat) (v : Vector Nat 12) : List Byte := tableBytes (leBytes size) v

/-! ### Codes of enumerations, in the order in which the manual first lists their values (R184) -/

def JobState.code : JobState → Nat
  | .waitInk => 0
  | .queued => 1
  | .closing => 2
  | .closed => 3

def EndCause.code : EndCause → Nat
  | .done => 0
  | .pauseExpired => 1
  | .mediaOut => 2
  | .engineFault => 3
  | .engineRequest => 4
  | .engineLost => 5
  | .cancelled => 6

/-- DESIGN CHOICE, unsafe (log 36): UNMEASURED and its reason are one value of the outcome's one byte,
MISSED 4, WET 5, HEAD 6, PATCHES 7. The spec does not say whether they are one byte or two (R21). -/
def MeasureOutcome.code : MeasureOutcome → Nat
  | .none => 0
  | .pending => 1
  | .pass => 2
  | .fail => 3
  | .unmeasured .missed => 4
  | .unmeasured .wet => 5
  | .unmeasured .head => 6
  | .unmeasured .patches => 7

def BayState.code : BayState → Nat
  | .empty => 0
  | .inserted => 1
  | .ready => 2
  | .active => 3
  | .spent => 4
  | .expired => 5

def Power.code : Power → Nat
  | .run => 0
  | .capped => 1

def MarkKind.code : MarkKind → Nat
  | .measure => 0
  | .cut => 1

def ServiceState.code : ServiceState → Nat
  | .notBegun => 0
  | .inService => 1

def HoldState.code : HoldState → Nat
  | .free => 0
  | .requested => 1
  | .taken => 2

def CutterState.code : CutterState → Nat
  | .ready => 0
  | .starting => 1
  | .returning => 2
  | .fault => 3

def PortState.code : PortState → Nat
  | .normal => 0
  | .faulted => 1

def Severity.code : Severity → Nat
  | .advisory => 0
  | .blocking => 1

def portCode : Port → Nat
  | .job => 0
  | .engine => 1
  | .desk => 2

/-- A bay side, or none: A, B, none (2.1). -/
def sideCode : Option Side → Nat
  | some .a => 0
  | some .b => 1
  | none => 2

def bitOf (b : Bool) (i : Nat) : Nat := if b then 2 ^ i else 0

/-! ### Jobs -/

/-- The response of SUBMIT_JOB (R7). -/
def submitReport (h : Nat) (j : Job) : List Byte :=
  leBytes 1 h ++ leBytes 4 j.seq.toNat ++ leBytes 1 j.state.code ++ leBytes 1 j.lane.val ++
    leBytes 6 j.estimateCost

def bookingBytes (b : Booking) : List Byte :=
  leBytes 8 b.total ++ leBytes 8 b.client ++ leBytes 8 b.house

/-- What QUERY_JOB adds for a copy in PRINTING or FINISHING (R21). -/
def attemptBytes (a : Attempt) : List Byte :=
  optField 1 (fun k => leBytes 1 (EndCause.code k)) a.endCause ++ leBytes 1 a.measure.code ++
    leBytes 1 a.outstandingCuts ++ leBytes 6 a.accruedPause ++ flagByte a.uncut ++ flagByte a.offset

/-- The attempt that QUERY_JOB reports: that of a copy in PRINTING or FINISHING (R21). -/
def CopyRecord.underWay (c : CopyRecord) : Option Attempt :=
  match c.state with
  | .printing | .finishing => some c.record
  | _ => none

/-- The booking that QUERY_JOB reports: that of a copy in a terminal state whose last attempt was
booked (R21). -/
def CopyRecord.settled (c : CopyRecord) : Option Booking :=
  match c.state with
  | .accepted | .rejected | .cancelled => c.record.booked
  | _ => none

/-- One copy of QUERY_JOB (R21). DESIGN CHOICE, unsafe (log 36): the fields that only some copy states
have are two optional fields in every copy, one of the attempt's six fields and one of the booking's
three. -/
def copyReport (c : CopyRecord) : List Byte :=
  leBytes 1 c.state.code ++ leBytes 1 c.attempt ++ optField 12 attemptBytes c.underWay ++
    optField 24 bookingBytes c.settled

/-- The response of QUERY_JOB (R21). -/
def jobReport (j : Job) : List Byte :=
  leBytes 1 j.state.code ++ flagByte j.held ++ flagByte j.cancelled ++ leBytes 4 j.seq.toNat ++
    leBytes 1 j.account.val ++ leBytes 1 j.cls.val ++ leBytes 1 j.lane.val ++
    leBytes 1 j.priceSet.val ++ leBytes 1 j.mediaType.val ++ flagByte j.reservationHeld ++
    volumes 6 j.reservation ++ leBytes 6 j.estimateCost ++ leBytes 8 j.clientBooked ++
    leBytes 8 j.houseBooked ++ leBytes 1 j.acceptedCount ++ leBytes 1 j.rejectedCount ++
    leBytes 1 j.cancelledCount ++ flagByte j.editionMatch.isSome ++
    listBytes (j.copies.map copyReport)

/-- The response of COLLECT_JOB: the summary of R22, then that of R163 with the account's figures
after the collection. -/
def collectReport (h : Nat) (j : Job) (a : Account) : List Byte :=
  leBytes 1 h ++ leBytes 4 j.seq.toNat ++ leBytes 1 j.account.val ++ leBytes 1 j.priceSet.val ++
    leBytes 1 j.copies.length ++ leBytes 1 j.acceptedCount ++ leBytes 1 j.rejectedCount ++
    leBytes 1 j.cancelledCount ++ leBytes 8 j.clientBooked ++ leBytes 8 j.houseBooked ++
    listBytes (j.copies.map fun c => leBytes 1 c.state.code ++ leBytes 1 c.attempt) ++
    leBytes 6 j.estimateCost ++ leBytes 8 j.clientBooked ++ leBytes 8 j.houseBooked ++
    leBytes 8 (j.clientBooked + j.houseBooked) ++ leBytes 8 a.charged ++ leBytes 8 a.committed ++
    flagByte a.overrun

/-- The response of CANCEL_JOB (R18). Its two counts have neither width nor range, so they take 8 bytes
each (R185, log 8). -/
def cancelReport (j : Job) : List Byte :=
  leBytes 1 j.state.code ++ leBytes 8 (j.countIn .printing) ++ leBytes 8 (j.countIn .finishing)

/-! ### Ink and scan -/

def dropBytes (d : DropVolumes) : List Byte :=
  leBytes 2 d.small ++ leBytes 2 d.medium ++ leBytes 2 d.large

/-- One channel of READ_INK (R48). R33 gives the usable volume its range, and the free volume none, so
the free volume takes 8 bytes (R185, log 8). -/
def channelReport (i : InkUnit) (m : Metering) (c : Fin 12) : List Byte :=
  let ch := i.channels[c]
  leBytes 1 (sideCode ch.active) ++ leBytes 1 (sideCode ch.lastActive) ++ leBytes 4 (i.usable c) ++
    leBytes 6 ch.reserved ++ leBytes 8 (i.free c) ++ leBytes 6 ch.overdraw ++ flagByte ch.short ++
    flagByte ch.dry ++ flagByte ch.low ++ leBytes 4 ch.dead ++ leBytes 4 ch.tolerance ++
    leBytes 2 ch.density ++ leBytes 4 ch.lowThreshold ++ dropBytes m.drops[c] ++
    leBytes 2 m.residue[c] ++ flagByte m.confirmed

/-- Cartridge data (R26). The level, drawn and written-off figures have neither width nor range, so they
take 8 bytes each (R185, log 8). -/
def cartridgeBytes (k : Cartridge) : List Byte :=
  leBytes 4 k.declared ++ leBytes 8 k.level ++ leBytes 8 k.drawn ++ leBytes 8 k.writtenOff ++
    leBytes 4 k.lot.toNat ++ leBytes 2 k.expiry ++ leBytes 6 k.declaredAt

/-- The figures of a removal record (R45), at the sizes of `cartridgeBytes`. -/
def finalBytes (k : Cartridge) : List Byte :=
  leBytes 4 k.lot.toNat ++ leBytes 2 k.expiry ++ leBytes 4 k.declared ++ leBytes 8 k.level ++
    leBytes 8 k.drawn ++ leBytes 8 k.writtenOff ++ leBytes 6 k.declaredAt

/-- A removal record (R45). DESIGN CHOICE, unsafe (log 37): the seven cartridge figures, absent where the
bay was INSERTED, are one optional field with one presence byte. -/
def removalBytes (r : Removal) : List Byte :=
  leBytes 1 r.state.code ++ optField 40 finalBytes r.figures ++ leBytes 6 r.time

def calBytes (k : Calibration) : List Byte :=
  leBytes 2 k.zero ++ leBytes 4 k.scale ++ leBytes 4 k.tare

def sampleBytes (x : Sample) : List Byte := leBytes 2 x.raw ++ leBytes 6 x.time ++ flagByte x.valid

/-- The input that weighs a bay (4.1). -/
def inputOf (b : Fin 24) : Fin 25 := ⟨b.val, by omega⟩

/-- One bay of READ_INK (R48, R82). -/
def bayReport (s : State) (b : Fin 24) : List Byte :=
  let x := s.ink.bays[b]
  leBytes 1 x.state.code ++ flagByte x.uncertain ++ optField 40 cartridgeBytes x.cart ++
    optField 48 removalBytes x.removal ++ calBytes x.cal ++ flagByte x.cal.calibrated ++
    sampleBytes s.scan.samples[inputOf b]

def triggerSet (k : ScanConfig) : Nat :=
  bitOf k.onDesk 0 + bitOf k.onInterval 1 + bitOf k.onCopyEnd 2

def scanConfigBytes (k : ScanConfig) : List Byte :=
  leBytes 1 k.first.val ++ leBytes 1 k.last.val ++ leBytes 1 (triggerSet k) ++ leBytes 2 k.seconds

/-- The scan part of READ_INK, with the overlap flag as it stood (R71, R82). DESIGN CHOICE, unsafe
(log 36): no rule states the range of the humidity, which takes 8 bytes, nor of the dry factor, which
takes one byte, since R81 gives its three values. DESIGN CHOICE, unsafe (log 37): the running scan is one
optional field after the scan's state, and the entry of input 24 stands before its humidity. -/
def scanReport (now : Nat) (u : ScanUnit) : List Byte :=
  let h := u.samples[(24 : Fin 25)]
  flagByte u.running.isSome ++
    optField 10
      (fun (r : RunningScan) =>
        leBytes 1 r.kind.code ++ leBytes 1 r.first.val ++ leBytes 1 r.last.val ++
          leBytes 6 r.start ++ flagByte r.qualifying)
      u.running ++
    optField 19
      (fun (r : ScanRecord) =>
        leBytes 1 r.kind.code ++ leBytes 1 r.first.val ++ leBytes 1 r.last.val ++
          leBytes 6 r.start ++ leBytes 6 r.completed ++ flagByte r.qualified ++
          leBytes 1 r.compared ++ leBytes 1 r.writtenOff ++ leBytes 1 r.levelHigh)
      u.last ++
    flagByte u.overlap ++ scanConfigBytes u.config ++ sampleBytes h ++
    leBytes 8 (humidity h.raw) ++ leBytes 1 (dryFactor now h)

/-- The response of READ_INK (R48, R82). DESIGN CHOICE, unsafe (log 37): the figures of R82 follow those
of R48, after the wait list. -/
def inkReport (s : State) : List Byte :=
  ((List.finRange 12).map (channelReport s.ink s.meter)).flatten ++
    ((List.finRange 24).map (bayReport s)).flatten ++
    listBytes (s.store.waitList.map fun h => leBytes 1 h.val) ++ scanReport s.now s.scan

/-! ### Schedule -/

def lanes {n : Nat} (v : Vector (Fin 4) n) : List Byte := tableBytes (fun x => leBytes 1 x.val) v

/-- The reason set of a NONE answer (R89, R91, R94), its bits in the order of R185. -/
structure NoneReasons where
  capped : Bool
  drops : Bool
  abort : Bool
  held : Bool
  ink : Bool
  media : Bool
  rollChange : Bool
  marks : Bool
  cutter : Bool
  lane : Bool
  empty : Bool
  deriving DecidableEq, Repr

def NoneReasons.clear : NoneReasons :=
  { capped := false, drops := false, abort := false, held := false, ink := false, media := false,
    rollChange := false, marks := false, cutter := false, lane := false, empty := false }

def NoneReasons.code (r : NoneReasons) : Nat :=
  bitOf r.capped 0 + bitOf r.drops 1 + bitOf r.abort 2 + bitOf r.held 3 + bitOf r.ink 4 +
    bitOf r.media 5 + bitOf r.rollChange 6 + bitOf r.marks 7 + bitOf r.cutter 8 + bitOf r.lane 9 +
    bitOf r.empty 10

/-- The number of open jobs in a state. -/
def State.jobsIn (s : State) (st : JobState) : Nat :=
  ((List.finRange 32).filter fun h => (s.job? h.val).map (·.state) == some st).length

/-- The response of a NONE (R94). Its two counts have neither width nor range, so they take 8 bytes
each (R185, log 8). -/
def noneReport (s : State) (r : NoneReasons) : List Byte :=
  leBytes 2 r.code ++ leBytes 8 (s.jobsIn .queued) ++ leBytes 8 (s.jobsIn .waitInk)

/-- The grant descriptor (R95, 11.5). -/
def descriptor (r : CopyRef) (roll : Fin 2) (j : Job) (patches : Nat) (start : Pos) : List Byte :=
  refBytes r ++ leBytes 1 roll.val ++ leBytes 4 j.copyLength ++
    (match j.check with
      | none => leBytes 4 0 ++ leBytes 4 0 ++ leBytes 1 0
      | some p => leBytes 4 p.stripOffset ++ leBytes 4 p.stripLength ++ leBytes 1 patches) ++
    leBytes 4 start.toNat

def reasonSet (r : Reasons) : Nat := bitOf r.measure 0 + bitOf r.cut 1 + bitOf r.ink 2

def holdBytes (h : Hold) : List Byte :=
  leBytes 1 (reasonSet h.reasons) ++ leBytes 1 h.state.code ++
    optField 4 (fun (q : Pos) => leBytes 4 q.toNat) h.captured

/-- The descriptor that the grant of a printing copy gave (R104). -/
def State.printingDescriptor (s : State) : Option (List Byte) :=
  match s.sched.grant with
  | none => none
  | some g =>
    if g.printing then
      match s.attempt? g.ref with
      | none => none
      | some (j, c) =>
        some (descriptor g.ref g.roll j (s.targetsOf g.ref).length
          ((c.record.started.map (·.pos)).getD 0))
    else none

/-- The response of ENGINE_STATUS (R104, R117). DESIGN CHOICE, unsafe (log 37): the grant with its printing
flag is one optional field and the descriptor another, and the hold's captured position, which R117 adds
to the fields of R104, follows the hold's state. -/
def statusReport (s : State) : List Byte :=
  optField 4 (fun (g : Grant) => refBytes g.ref ++ flagByte g.printing) s.sched.grant ++
    optField 21 (fun (d : List Byte) => d) s.printingDescriptor ++ flagByte s.meter.confirmed ++
    leBytes 1 s.sched.power.code ++ flagByte s.sched.pendingCap ++ holdBytes s.media.hold ++
    leBytes 4 s.media.pos.toNat

/-! ### Media -/

/-- The figures of a roll (R107, R109). The remaining and net fed lengths have neither width nor range,
so they take 8 bytes each (R185, log 8). -/
def rollFiguresBytes (f : RollFigures) : List Byte :=
  leBytes 1 f.mediaType.val ++ leBytes 2 f.width ++ leBytes 4 f.declared ++ leBytes 8 f.remaining ++
    leBytes 8 f.netFed

def Roll.code : Roll → Nat
  | .empty => 0
  | .mounted _ => 1
  | .exhausted _ => 2

def Roll.figures : Roll → Option RollFigures
  | .empty => none
  | .mounted f => some f
  | .exhausted f => some f

/-- A roll record (R107). DESIGN CHOICE, unsafe (log 37): the six figures of MOUNTED and EXHAUSTED are one
optional field after the state, with one presence byte. -/
def rollBytes (r : Roll) : List Byte :=
  leBytes 1 r.code ++ optField 24 (fun f => rollFiguresBytes f ++ flagByte f.lowNoticed) r.figures

def pathBytes (p : PathSettings) : List Byte :=
  leBytes 2 p.dHead ++ leBytes 2 p.dCut ++ leBytes 2 p.cutTolerance ++ leBytes 6 p.ackLimit ++
    leBytes 6 p.cutterTimeout ++ leBytes 6 p.headTimeout

def markBytes (m : Mark) : List Byte :=
  leBytes 4 m.pos.toNat ++ leBytes 1 m.kind.code ++ listBytes (m.owners.map refBytes) ++
    flagByte m.fired ++ leBytes 1 m.service.code ++
    optField 4 (fun (q : Pos) => leBytes 4 q.toNat) m.captured

/-- The accrued pause and allowance of the printing attempt (R109, R122). -/
def State.pauseReport (s : State) : Option (List Byte) :=
  match s.printing with
  | none => none
  | some r =>
    match s.attempt? r with
    | none => none
    | some (_, c) => some (leBytes 6 c.record.accruedPause ++ leBytes 6 s.allowance)

/-- The media report (R109). DESIGN CHOICE, unsafe (log 37): the roll in path is an optional byte and not
an enumeration with none, and the accrued pause and the allowance are one optional field. -/
def mediaReport (s : State) : List Byte :=
  tableBytes rollBytes s.media.rolls ++
    optField 1 (fun (n : Fin 2) => leBytes 1 n.val) s.media.rollInPath ++
    leBytes 4 s.media.pos.toNat ++ pathBytes s.media.settings ++
    listBytes (s.media.marks.map markBytes) ++ holdBytes s.media.hold ++
    optField 12 (fun (d : List Byte) => d) s.pauseReport ++ leBytes 1 s.media.cutter.code ++
    optField 4 (fun (q : Pos) => leBytes 4 q.toNat) s.feedTo

def mediaTypeBytes (t : MediaType) : List Byte :=
  flagByte t.defined ++ leBytes 2 t.width ++ leBytes 2 t.dryBase ++ leBytes 2 t.pauseLimit

/-- The final figures that UNMOUNT_ROLL captures; none for an EMPTY roll (R109). -/
def unmountBytes (r : Roll) : List Byte :=
  match r.figures with
  | none => []
  | some f => leBytes 1 r.code ++ rollFiguresBytes f

/-! ### Colour -/

def colourBytes (k : Colour) : List Byte := signedBytes k.l ++ signedBytes k.a ++ signedBytes k.b

/-- A reference set as SET_REFERENCE stores it (R130). DESIGN CHOICE, unsafe (log 36): the patch count
and the patches that the request carries, the patch count serving as the length byte of the list; the
in-use count, which R129 counts among what a set holds, is not sent. -/
def refSetBytes (r : RefSet) : List Byte :=
  leBytes 1 r.patches.length ++ (r.patches.map colourBytes).flatten

def figureBytes (size : Nat) (x : Option Nat) : List Byte := optField size (leBytes size) x

/-- An entry of the history ring (R147, R148). DESIGN CHOICE, unsafe (log 36): the result with its
reason is one byte, coded 0..5 as in the detail of MEASURE_RESULT (11.4). DESIGN CHOICE, unsafe (log 37):
the absolute mean and the absolute maximum are two optional fields. The number of valid records has
neither width nor range, so it takes 8 bytes (R185, log 8). -/
def historyBytes (x : HistoryEntry) : List Byte :=
  leBytes 4 x.seq.toNat ++ leBytes 2 x.day ++ leBytes 4 x.ms ++ refBytes x.ref ++
    leBytes 1 x.result.code ++ figureBytes 2 x.absMean ++ figureBytes 2 x.absMax ++
    figureBytes 2 x.editionMax ++ figureBytes 8 x.validRecords

def MeasurePhase.code : MeasurePhase → Nat
  | .drying => 0
  | .exchanging _ _ => 1

/-- The measurement in progress: the dry remaining of a strip in DRYING, or the number of records of one
in EXCHANGING (R148). DESIGN CHOICE, unsafe (log 36): each of the two is an optional field, and both are
sent in either phase. DESIGN CHOICE, unsafe (log 37): the overshoot takes four bytes, as a difference of
positions. The number of records has neither width nor range, so it takes 8 bytes (R185, log 8). -/
def measurementBytes (s : State) (m : Measurement) : List Byte :=
  refBytes m.owner ++ leBytes 1 m.phase.code ++ leBytes 4 (m.overshoot % 4294967296).toNat ++
    (match m.phase with
      | .drying =>
        optField 6 (leBytes 6) ((s.dryClock m.owner).map (dryRemaining s.now)) ++
          figureBytes 8 none
      | .exchanging _ rs => optField 6 (leBytes 6) none ++ figureBytes 8 (some rs.length))

/-- The response of READ_HISTORY (R148). DESIGN CHOICE, unsafe (log 37): the number of entries held takes
two bytes, as the ring's size does. -/
def historyReport (s : State) (count skip : Nat) : List Byte :=
  leBytes 2 s.colour.histSize ++ leBytes 2 s.colour.history.length ++
    leBytes 4 s.colour.histSeq.toNat ++
    listBytes (((s.colour.history.drop skip).take count).map historyBytes) ++
    optField 24 (measurementBytes s) s.colour.measurement

/-! ### Cost -/

/-- A price set as SET_PRICES stores it (R150). DESIGN CHOICE, unsafe (log 36): the thirty prices that
the request carries; the in-use count, which R149 says the set also holds, is not sent. -/
def priceBytes (p : PriceSet) : List Byte :=
  tableBytes (leBytes 4) p.ink ++ tableBytes (leBytes 4) p.media ++ leBytes 4 p.cut ++
    leBytes 4 p.measurement

/-- The six fields of an account (R151). -/
def accountBytes (a : Account) : List Byte :=
  flagByte a.enabled ++ leBytes 6 a.limit ++ leBytes 8 a.committed ++ leBytes 8 a.charged ++
    leBytes 1 a.openJobs ++ flagByte a.overrun

/-- The handles of the open jobs that name an account, in admission order (R153). -/
def State.jobsOf (s : State) (i : Fin 32) : List (Fin 32) :=
  ((List.finRange 32).filter fun h => (s.job? h.val).map (·.account) == some i).foldl
    (fun l h => insertAdmitted s h l) []

/-- The response of READ_ACCOUNT (R153). -/
def accountReport (s : State) (i : Fin 32) : List Byte :=
  let a := s.cost.accounts[i]
  accountBytes a ++ leBytes 8 (a.limit - (a.charged + a.committed)) ++
    listBytes ((s.jobsOf i).map fun h => leBytes 1 h.val) ++
    if i.val = 0 then leBytes 8 s.cost.strayTotal ++ leBytes 8 s.cost.maintTotal else []

/-! ### Ports -/

/-- The type and the three bytes of a subject (11.4). -/
def subjectBytes : Subject → List Byte
  | .none => [0, 0, 0, 0]
  | .job h => 1 :: (leBytes 1 h ++ [0, 0])
  | .attempt r => 2 :: refBytes r
  | .channel n => 3 :: (leBytes 1 n ++ [0, 0])
  | .bay n => 4 :: (leBytes 1 n ++ [0, 0])
  | .roll n => 5 :: (leBytes 1 n ++ [0, 0])
  | .account n => 6 :: (leBytes 1 n ++ [0, 0])
  | .port p => 7 :: (leBytes 1 (portCode p) ++ [0, 0])

/-- A notice entry (11.4). -/
def entryBytes (x : Entry) : List Byte :=
  leBytes 1 x.notice.kind.index.val ++ leBytes 1 x.level ++ subjectBytes x.notice.subject ++
    leBytes 4 x.time ++ leBytes 4 x.notice.detail

/-- The response of FETCH_NOTICES: the entries removed, the number left, the wrapped flag (11.4). -/
def fetchReport (u : PortUnit) : List Byte :=
  leBytes 1 (u.queue.take 8).length ++ leBytes 1 (u.queue.drop 8).length ++ flagByte u.wrapped ++
    ((u.queue.take 8).map entryBytes).flatten

/-- The levels and the threshold as stored (R173). DESIGN CHOICE, unsafe (log 37): the threshold stands
first, as in the request. -/
def levelBytes (u : PortUnit) : List Byte :=
  leBytes 1 u.threshold ++ tableBytes (leBytes 1) u.levels

def policyBytes (v : Vector Policy 11) : List Byte :=
  tableBytes (fun (p : Policy) => flagByte p.masked ++ leBytes 1 p.severity.code) v

/-- The fault record of a port (R174). DESIGN CHOICE, unsafe (log 37): the header within the capture is an
optional field of its own, absent for a fault with no frame. -/
def faultRecordBytes (u : PortUnit) : List Byte :=
  tableBytes (fun (x : FaultStatus) => flagByte x.recorded ++ leBytes 1 x.count) u.status ++
    optField 12
      (fun (k : Capture) =>
        leBytes 1 k.kind.index.val ++ optField 4 headerBytes k.header ++ leBytes 6 k.time)
      u.capture ++
    flagByte u.multiple

/-- The device summary (R177). DESIGN CHOICE, unsafe (log 37): the port, the kind and the time are one
optional field, absent together. -/
def summaryBytes (ps : Ports) : List Byte :=
  optField 8
    (fun (x : Summary) =>
      leBytes 1 (portCode x.port) ++ leBytes 1 x.kind.index.val ++ leBytes 6 x.time)
    ps.summary ++
    flagByte ps.summaryMultiple

/-- The response of READ_FAULTS (R176). -/
def faultsReport (p : Port) (ps : Ports) : List Byte :=
  leBytes 1 (ps.unit p).state.code ++ faultRecordBytes (ps.unit p) ++ policyBytes (ps.unit p).policy ++
    leBytes 1 (ps.unit p).badCount ++ if p = .desk then summaryBytes ps else []

end Sys2Proof.Machine
end

