-- ==== Sys2Proof/Machine/DeskRequests.lean ====
section
/-! DEFINITION. The requests of the schedule, the media path, the colour unit, the cost unit and the
time base that the desk station sends (ch. 5 to ch. 9). -/

namespace Sys2Proof.Machine

/-! ### Schedule -/

/-- The power state and the pending cap after SET_POWER (R84). -/
def Schedule.setPower (x : Power) (printing : Bool) (u : Schedule) : Schedule :=
  match x with
  | .run => { u with power := .run, pendingCap := false }
  | .capped =>
    if u.power = .capped then u
    else if printing then { u with pendingCap := true }
    else { u with power := .capped, pendingCap := false }

/-- SET_POWER (R84). -/
def takeSetPower : Take := fun q e =>
  withRead (readPower q.payload) e fun x =>
    let u := e.st.sched.setPower x e.st.printing.isSome
    (e.mapSched fun _ => u, Reply.ok (leBytes 1 u.power.code ++ flagByte u.pendingCap))

/-- WRITE_PHASES (R87). -/
def takeWritePhases : Take := fun q e =>
  withRead (readLanes 32 q.payload) e fun t =>
    (e.mapSched fun u => { u with staged := t },
      Reply.ok (lanes t ++ flagByte e.st.sched.loadPending))

/-- LOAD_PHASES (R88). -/
def takeLoadPhases : Take := fun q e =>
  withNone q e
    (e.mapSched fun u => { u with loadPending := true },
      Reply.ok
        (lanes e.st.sched.live ++ lanes e.st.sched.staged ++ leBytes 1 e.st.sched.pointer.val))

/-- SET_CLASS_MAP (R86). -/
def takeSetClassMap : Take := fun q e =>
  withRead (readLanes 8 q.payload) e fun t =>
    (e.mapSched fun u => { u with classMap := t }, Reply.ok (lanes t))

/-! ### Media path -/

/-- The roll is the roll in path, and marks or a printing copy lock it (R108, R109). -/
def State.rollLocked (s : State) (n : Fin 2) : Bool :=
  s.media.rollInPath == some n && (!s.media.marks.isEmpty || s.printing.isSome)

/-- The figures of a roll as it is mounted (R108). -/
def mountedFigures (x : Mounting) (width : Nat) : RollFigures where
  mediaType := x.mediaType
  width := width
  declared := x.length
  remaining := x.length
  netFed := 0
  lowNoticed := x.length < 20000

/-- MOUNT_ROLL (R108). -/
def takeMountRoll : Take := fun q e =>
  withRead (readMounting e.st.media.types q.payload) e fun x =>
    if e.st.rollLocked x.roll then refuse .inUse e
    else
      let e' := e.setRoll x.roll (.mounted (mountedFigures x e.st.media.types[x.mediaType].width))
      (e', Reply.ok (mediaReport e'.st))

/-- The roll becomes EMPTY, and leaves the path if it was there (R109). -/
def unmount (n : Fin 2) (e : Ev) : Ev :=
  (e.setRoll n .empty).mapMedia fun m =>
    { m with rollInPath := if m.rollInPath = some n then none else m.rollInPath }

/-- UNMOUNT_ROLL; on an EMPTY roll it changes nothing (R109). -/
def takeUnmountRoll : Take := fun q e =>
  withRead (readRoll q.payload) e fun n =>
    if e.st.rollLocked n then refuse .inUse e
    else
      match e.st.media.rolls[n] with
      | .empty => (e, Reply.ok (mediaReport e.st))
      | r =>
        let e' := unmount n e
        (e', Reply.ok (unmountBytes r ++ mediaReport e'.st))

/-- SET_MEDIA_TYPE (R106). -/
def takeSetMediaType : Take := fun q e =>
  withRead (readMediaType q.payload) e fun x =>
    let e' := e.mapMedia fun m => { m with types := m.types.set x.1.val x.2 x.1.isLt }
    (e', Reply.ok (mediaTypeBytes x.2 ++ mediaReport e'.st))

/-- SET_PATH (R110). -/
def takeSetPath : Take := fun q e =>
  withRead (readPath q.payload) e fun x =>
    let e' := e.mapMedia fun m => { m with settings := x }
    (e', Reply.ok (pathBytes x ++ mediaReport e'.st))

/-- CLEAR_CUTTER; the reply carries the media report, taken or refused (R109, R128). -/
def takeClearCutter : Take := fun q e =>
  withNone q e
    (match e.st.media.cutter with
      | .ready => (e, Reply.ok (mediaReport e.st))
      | .fault =>
        if e.st.pins.cutHome then
          let e' := e.mapMedia fun m => { m with cutter := .ready }
          (e', Reply.ok (mediaReport e'.st))
        else (e, { code := .wrongState, payload := mediaReport e.st })
      | _ => (e, { code := .wrongState, payload := mediaReport e.st }))

/-! ### Colour -/

/-- SET_REFERENCE (R130). -/
def takeSetReference : Take := fun q e =>
  withRead (readReference q.payload) e fun x =>
    if e.st.colour.refs[x.1].inUse = 0 then
      let r : RefSet := { patches := x.2, inUse := 0 }
      (e.mapColour fun u => { u with refs := u.refs.set x.1.val r x.1.isLt },
        Reply.ok (refSetBytes r))
    else refuse .inUse e

/-- SET_HISTORY_SIZE empties the ring; the sequence counter goes on (R147). -/
def takeSetHistorySize : Take := fun q e =>
  withRead (readHistorySize q.payload) e fun n =>
    (e.mapColour fun u => { u with histSize := n, history := [] }, Reply.ok [])

/-- READ_HISTORY (R148). -/
def takeReadHistory : Take := fun q e =>
  withRead (readPaging q.payload) e fun x => (e, Reply.ok (historyReport e.st x.1 x.2))

/-! ### Cost -/

/-- SET_PRICES (R150). -/
def takeSetPrices : Take := fun q e =>
  withRead (readPrices q.payload) e fun x =>
    if e.st.cost.prices[x.1].inUse = 0 then
      (e.mapCost fun c => { c with prices := c.prices.set x.1.val x.2 x.1.isLt },
        Reply.ok (priceBytes x.2))
    else refuse .inUse e

/-- SET_ACCOUNT, with the overrun flag evaluated at the end of the event (R152, R161). -/
def takeSetAccount : Take := fun q e =>
  withRead (readAccountSettings q.payload) e fun x =>
    let e' :=
      settleAccounts (e.modifyAccount x.1 fun a => { a with enabled := x.2.1, limit := x.2.2 })
    (e', Reply.ok (accountBytes e'.st.cost.accounts[x.1]))

/-- READ_ACCOUNT (R153). -/
def takeReadAccount : Take := fun q e =>
  withRead (readAccountNumber q.payload) e fun i => (e, Reply.ok (accountReport e.st i))

/-! ### Time -/

/-- The reply of SET_TIME (R181). -/
def timeReport (t : TimeBase) : List Byte := leBytes 2 t.day ++ leBytes 4 t.ms ++ leBytes 6 t.mono

/-- SET_TIME (R181). -/
def takeSetTime : Take := fun q e =>
  withRead (readTime q.payload) e fun x =>
    let e' := e.mapClock fun t => { t with day := x.1, ms := x.2 }
    (e', Reply.ok (timeReport e'.st.clock))

/-! ### The commands -/

def execSetPower (p : Port) (tag : Byte) (payload : List Byte) (s : State) :
    Host.Outcome State Fault Refusal :=
  .next (request .setPower takeSetPower p tag payload s)

def execWritePhases (p : Port) (tag : Byte) (payload : List Byte) (s : State) :
    Host.Outcome State Fault Refusal :=
  .next (request .writePhases takeWritePhases p tag payload s)

def execLoadPhases (p : Port) (tag : Byte) (payload : List Byte) (s : State) :
    Host.Outcome State Fault Refusal :=
  .next (request .loadPhases takeLoadPhases p tag payload s)

def execSetClassMap (p : Port) (tag : Byte) (payload : List Byte) (s : State) :
    Host.Outcome State Fault Refusal :=
  .next (request .setClassMap takeSetClassMap p tag payload s)

def execMountRoll (p : Port) (tag : Byte) (payload : List Byte) (s : State) :
    Host.Outcome State Fault Refusal :=
  .next (request .mountRoll takeMountRoll p tag payload s)

def execUnmountRoll (p : Port) (tag : Byte) (payload : List Byte) (s : State) :
    Host.Outcome State Fault Refusal :=
  .next (request .unmountRoll takeUnmountRoll p tag payload s)

def execSetMediaType (p : Port) (tag : Byte) (payload : List Byte) (s : State) :
    Host.Outcome State Fault Refusal :=
  .next (request .setMediaType takeSetMediaType p tag payload s)

def execSetPath (p : Port) (tag : Byte) (payload : List Byte) (s : State) :
    Host.Outcome State Fault Refusal :=
  .next (request .setPath takeSetPath p tag payload s)

def execClearCutter (p : Port) (tag : Byte) (payload : List Byte) (s : State) :
    Host.Outcome State Fault Refusal :=
  .next (request .clearCutter takeClearCutter p tag payload s)

def execSetReference (p : Port) (tag : Byte) (payload : List Byte) (s : State) :
    Host.Outcome State Fault Refusal :=
  .next (request .setReference takeSetReference p tag payload s)

def execSetHistorySize (p : Port) (tag : Byte) (payload : List Byte) (s : State) :
    Host.Outcome State Fault Refusal :=
  .next (request .setHistorySize takeSetHistorySize p tag payload s)

def execReadHistory (p : Port) (tag : Byte) (payload : List Byte) (s : State) :
    Host.Outcome State Fault Refusal :=
  .next (request .readHistory takeReadHistory p tag payload s)

def execSetPrices (p : Port) (tag : Byte) (payload : List Byte) (s : State) :
    Host.Outcome State Fault Refusal :=
  .next (request .setPrices takeSetPrices p tag payload s)

def execSetAccount (p : Port) (tag : Byte) (payload : List Byte) (s : State) :
    Host.Outcome State Fault Refusal :=
  .next (request .setAccount takeSetAccount p tag payload s)

def execReadAccount (p : Port) (tag : Byte) (payload : List Byte) (s : State) :
    Host.Outcome State Fault Refusal :=
  .next (request .readAccount takeReadAccount p tag payload s)

def execSetTime (p : Port) (tag : Byte) (payload : List Byte) (s : State) :
    Host.Outcome State Fault Refusal :=
  .next (request .setTime takeSetTime p tag payload s)

end Sys2Proof.Machine
end

