-- ==== Sys2Proof/Machine/EngineRequests.lean ====
section
/-! DEFINITION. The requests of the engine: DECLARE_DROPS, SWATH_REPORT, MAINT_REPORT (ch. 3),
PANEL_REQUEST, PANEL_DONE, PANEL_ABORT, ENGINE_STATUS (ch. 5), HOLD_TAKEN (ch. 6). -/

namespace Sys2Proof.Machine

/-! ### DECLARE_DROPS -/

/-- DECLARE_DROPS (R51). -/
def takeDeclareDrops : Take := fun q e =>
  withRead (readDrops q.payload) e fun t =>
    if e.st.printing.isSome then refuse .wrongState e
    else
      (e.mapMeter fun m => { m with drops := t, confirmed := true },
        Reply.ok (tableBytes dropBytes t))

/-! ### SWATH_REPORT, MAINT_REPORT -/

/-- The classes of a swath report (R59). -/
inductive SwathClass where
  | attempt | ended | stray
  deriving DecidableEq, Repr

def SwathClass.code : SwathClass → Nat
  | .attempt => 0
  | .ended => 1
  | .stray => 2

/-- The class of a copy reference, by the records as they stand (R59). -/
def State.classify (s : State) (r : CopyRef) : SwathClass :=
  if s.printing = some r then .attempt
  else
    match s.attempt? r with
    | none => .stray
    | some (_, c) => if c.state = .finishing then .ended else .stray

/-- The volumes are added to the attempt's consumption (R60, R61). -/
def consume (r : CopyRef) (v : Vector Nat 12) (e : Ev) : Ev :=
  e.modifyAttempt r fun a => { a with consumption := tabulate 12 fun c => add48 a.consumption[c] v[c] }

/-- The attribution of a swath report (R59 to R62). -/
def assign (cls : SwathClass) (r : CopyRef) (v : Vector Nat 12) (e : Ev) : Ev :=
  match cls with
  | .attempt => drawdown r.handle v (consume r v e)
  | .ended => consume r v e
  | .stray => strayCharge v e

/-- The faults of a swath report, in the order of R174's table (R62, R121). -/
def swathFaults (cls : SwathClass) (held : Bool) (h : Header) (e : Ev) : Ev :=
  let e1 := if cls = .stray then recordFault .engine .staleRef (some h) e else e
  if held then recordFault .engine .swathWhileHeld (some h) e1 else e1

/-- SWATH_REPORT (R52, R59 to R62, R64, R121). -/
def takeSwathReport : Take := fun q e =>
  if q.payload.length = 111 then
    let r := refAt q.payload 0
    let cls := e.st.classify r
    let counts := dropCounts q.payload 3
    let v := wholeVolumes e.st.meter counts
    let e' := swathFaults cls e.st.held q.header (assign cls r v (drawReport counts e))
    (settle e', Reply.ok (leBytes 1 cls.code ++ volumes 4 v))
  else refuse .badValue e

/-- MAINT_REPORT (R53, R63, R64). -/
def takeMaintReport : Take := fun q e =>
  if q.payload.length = 108 then
    let counts := dropCounts q.payload 0
    let v := wholeVolumes e.st.meter counts
    (settle (maintenanceCharge v (drawReport counts e)), Reply.ok (volumes 4 v))
  else refuse .badValue e

/-! ### PANEL_REQUEST: eligibility -/

/-- The MOUNTED rolls that can take a copy of the job, lower-numbered first (R91, R92). -/
def State.rollsFor (s : State) (j : Job) : List (Fin 2) :=
  (List.finRange 2).filter fun n =>
    match s.media.rolls[n] with
    | .mounted f => f.mediaType == j.mediaType && j.copyLength + s.media.settings.dCut ≤ f.remaining
    | _ => false

/-- The ink condition (R91). -/
def State.inkCovers (s : State) (j : Job) : Bool :=
  allOf 12 fun c => j.estimate[c] ≤ j.reservation[c] + s.ink.free c

/-- A roll that can take the copy is the roll in path, or the mark list is empty (R91, log 16). -/
def State.rollStands (s : State) (j : Job) : Bool :=
  (match s.media.rollInPath with
    | none => false
    | some n => (s.rollsFor j).contains n) ||
    s.media.marks.isEmpty

/-- The reasons of the conditions of R91 that a QUEUED job fails, and LANE (R94). -/
def State.failures (s : State) (j : Job) : NoneReasons :=
  { NoneReasons.clear with
    held := j.held
    ink := !s.inkCovers j
    media := (s.rollsFor j).isEmpty
    rollChange := !s.rollStands j
    marks := Config.markLimit < s.media.marks.length + j.marksNeeded
    cutter := (j.leadCut || j.trailCut) && s.media.cutter == .fault
    lane := !s.sched.live.toList.contains j.lane }

/-- A job is eligible for a grant (R91). -/
def State.eligible (s : State) (j : Job) : Bool :=
  let r := s.failures j
  j.state == .queued && !(r.held || r.ink || r.media || r.rollChange || r.marks || r.cutter)

def NoneReasons.union (x y : NoneReasons) : NoneReasons where
  capped := x.capped || y.capped
  drops := x.drops || y.drops
  abort := x.abort || y.abort
  held := x.held || y.held
  ink := x.ink || y.ink
  media := x.media || y.media
  rollChange := x.rollChange || y.rollChange
  marks := x.marks || y.marks
  cutter := x.cutter || y.cutter
  lane := x.lane || y.lane
  empty := x.empty || y.empty

/-- The reason set of a NONE from the walk (R94). -/
def State.walkReasons (s : State) : NoneReasons :=
  if s.jobsIn .queued = 0 then { NoneReasons.clear with empty := true }
  else
    (List.finRange 32).foldl
      (fun r h =>
        match s.job? h.val with
        | none => r
        | some j => if j.state = .queued then r.union (s.failures j) else r)
      NoneReasons.clear

/-- The global gates that hold (R89). -/
def State.gates (s : State) : NoneReasons :=
  { NoneReasons.clear with
    capped := s.sched.power == .capped
    drops := !s.meter.confirmed
    abort := s.sched.abort.isSome }

/-! ### PANEL_REQUEST: the walk and the grant -/

/-- The oldest eligible job of a lane (R90). -/
def State.laneChoice (s : State) (lane : Fin 4) : Option (Fin 32) :=
  (List.finRange 32).foldl
    (fun best h =>
      match s.job? h.val with
      | none => best
      | some j =>
        if j.lane = lane ∧ s.eligible j then
          match best with
          | none => some h
          | some b => if admittedBefore j.seq (s.seqOf b.val) then some h else best
        else best)
    none

/-- The walk of the phases: the phase that grants, and its job (R90). -/
def State.walkPhases (s : State) : Nat → Fin 32 → Option (Fin 32 × Fin 32)
  | 0, _ => none
  | n + 1, i =>
    match s.laneChoice s.sched.live[i] with
    | some h => some (i, h)
    | none => s.walkPhases n (i + 1)

/-- The number of the copy granted: the lowest PENDING copy at an attempt above 1, otherwise the
lowest PENDING copy (R93). -/
def Job.copyChoice (j : Job) : Option Nat :=
  match j.copies.findIdx? fun c => c.state == .pending && 1 < c.attempt with
  | some i => some (i + 1)
  | none => (j.copies.findIdx? fun c => c.state == .pending).map (· + 1)

/-- The roll of a grant (R92). -/
def State.rollChoice (s : State) (j : Job) : Option (Fin 2) :=
  match s.media.rollInPath with
  | some n => if (s.rollsFor j).contains n then some n else (s.rollsFor j).head?
  | none => (s.rollsFor j).head?

/-- The copy record at a grant (R11, R122, R157). -/
def CopyRecord.grant (now : Nat) (pos : Pos) (cuts : Nat) (checked : Bool) (pauseLimit width : Nat)
    (c : CopyRecord) : CopyRecord :=
  { c with
    state := .printing
    record :=
      { c.record with
        started := some { time := now, pos := pos }
        measure := if checked then .pending else .none
        outstandingCuts := cuts
        pauseLimit := pauseLimit
        pricedWidth := width } }

/-- The job passes to CLOSING when its last PENDING copy is granted (R9). -/
def Job.afterGrant (j : Job) : Job := if j.countIn .pending = 0 then { j with state := .closing } else j

/-- The width of a roll. -/
def Roll.width : Roll → Nat
  | .empty => 0
  | .mounted f => f.width
  | .exhausted f => f.width

/-- A grant clears the qualifying mark of a running scan (R72). -/
def ScanUnit.disqualify (u : ScanUnit) : ScanUnit :=
  { u with running := u.running.map fun r => { r with qualifying := false } }

/-- The strip table entry of a granted attempt whose job checks colour (R131). -/
def ColourUnit.addStrip (r : CopyRef) (j : Job) (u : ColourUnit) : ColourUnit :=
  match j.check with
  | none => u
  | some _ => { u with strips := u.strips ++ [{ ref := r, mediaType := j.mediaType, clock := none }] }

/-- A grant of the attempt `r` on a roll, its phase being `i` (R90, R95, R96, R114). -/
def grant (r : CopyRef) (j : Job) (roll : Fin 2) (i : Fin 32) (e : Ev) : Ev :=
  let m := e.st.media
  let marks := grantMarks r j m.settings m.pos m.marks
  let e1 :=
    (e.modifyCopy r
          (CopyRecord.grant e.st.now m.pos (cutsOwned r marks) j.check.isSome
            (m.types[j.mediaType].pauseLimit * 1000) m.rolls[roll].width)).modifyJob
      r.handle Job.afterGrant
  let e2 :=
    (e1.mapMedia fun x =>
          { x with rollInPath := some roll, marks := marks, lastNone := false }).mapSched fun u =>
      { u with grant := some { ref := r, printing := true, roll := roll }, pointer := i + 1 }
  judgeGrant ((e2.mapScan ScanUnit.disqualify).mapColour (ColourUnit.addStrip r j))

/-- A NONE answer (R89, R94, R124). -/
def answerNone (r : NoneReasons) (e : Ev) : Ev × Reply :=
  (e.mapMedia fun m => { m with lastNone := true }, Reply.ok (noneReport e.st r))

/-- The staged table becomes live (R88). -/
def Schedule.load (u : Schedule) : Schedule :=
  if u.loadPending then { u with live := u.staged, pointer := 0, loadPending := false } else u

/-- The walk and its answer (R90, R92, R93). -/
def answerWalk (e : Ev) : Ev × Reply :=
  match e.st.walkPhases 32 e.st.sched.pointer with
  | none => answerNone e.st.walkReasons e
  | some (i, h) =>
    match e.st.job? h.val with
    | none => answerNone e.st.walkReasons e
    | some j =>
      match j.copyChoice, e.st.rollChoice j with
      | some n, some roll =>
        match j.copy? n with
        | none => answerNone e.st.walkReasons e
        | some c =>
          let r : CopyRef := { handle := h.val, copy := n, attempt := c.attempt }
          (settleMarks (grant r j roll i e),
            Reply.ok
              (descriptor r roll j (e.st.targetsOf r).length e.st.media.pos))
      | _, _ => answerNone e.st.walkReasons e

/-- PANEL_REQUEST, in its four stages (R89). -/
def takePanelRequest : Take := fun q e =>
  withNone q e
    (if e.st.printing.isSome then refuse .wrongState e
      else
        let e1 := e.mapSched Schedule.load
        if e1.st.gates = NoneReasons.clear then answerWalk e1 else answerNone e1.st.gates e1)

/-! ### PANEL_DONE, PANEL_ABORT -/

/-- How an ending request matches the current grant (R97, R99). -/
inductive EndingMatch where
  | printing | answersAbort | stale
  deriving DecidableEq, Repr

def State.matchEnding (s : State) (r : CopyRef) : EndingMatch :=
  match s.sched.grant with
  | none => .stale
  | some g =>
    if g.ref = r then
      if g.printing then .printing
      else if s.sched.abort = some r then .answersAbort
      else .stale
    else .stale

/-- The engine's answer to the ABORT order clears it (R97, R98, R101). -/
def clearAbort (e : Ev) : Ev := e.mapSched fun u => { u with abort := none }

/-- An ending request that matches no current attempt (R99). -/
def staleEnding (q : Request) (e : Ev) : Ev × Reply :=
  (recordFault .engine .staleRef (some q.header) e, Reply.refuse .staleRef)

/-- The COPY_END trigger, where the trigger set holds it (R68). -/
def copyEndTrigger (e : Ev) : Ev := if e.st.scan.config.onCopyEnd then triggerScan .copyEnd e else e

/-- PANEL_DONE (R97, R99). -/
def takePanelDone : Take := fun q e =>
  withRead (readRef q.payload) e fun r =>
    match e.st.matchEnding r with
    | .printing => (settleMarks (copyEndTrigger (endPrinting .done e)), Reply.ok [])
    | .answersAbort => (clearAbort e, Reply.ok [])
    | .stale => staleEnding q e

/-- PANEL_ABORT (R98, R99). -/
def takePanelAbort : Take := fun q e =>
  withRead (readAbort q.payload) e fun x =>
    match e.st.matchEnding x.1 with
    | .printing => (settleMarks (endPrinting x.2 e), Reply.ok [])
    | .answersAbort => (clearAbort e, Reply.ok [])
    | .stale => staleEnding q e

/-! ### ENGINE_STATUS, HOLD_TAKEN -/

/-- ENGINE_STATUS (R104). -/
def takeEngineStatus : Take := fun q e => withNone q e (e, Reply.ok (statusReport e.st))

/-- The hold becomes TAKEN (R118). -/
def Hold.take (pos : Pos) (h : Hold) : Hold :=
  { h with state := .taken, captured := some pos, ackTimer := none }

/-- HOLD_TAKEN in REQUESTED: the pause begins, and the service of a fired head mark (R118). -/
def holdTaken (e : Ev) : Ev :=
  let e1 := syncPause (e.mapMedia fun m => { m with hold := m.hold.take m.pos })
  settleMarks (serveWaiting e.st.media.pos e1)

/-- HOLD_TAKEN (R118). -/
def takeHoldTaken : Take := fun q e =>
  withNone q e
    (if e.st.media.hold.state = .requested then (holdTaken e, Reply.ok [])
      else (recordFault .engine .unexpectedHold (some q.header) e, Reply.refuse .wrongState))

/-! ### The commands -/

def execDeclareDrops (p : Port) (tag : Byte) (payload : List Byte) (s : State) :
    Host.Outcome State Fault Refusal :=
  .next (request .declareDrops takeDeclareDrops p tag payload s)

def execSwathReport (p : Port) (tag : Byte) (payload : List Byte) (s : State) :
    Host.Outcome State Fault Refusal :=
  .next (request .swathReport takeSwathReport p tag payload s)

def execMaintReport (p : Port) (tag : Byte) (payload : List Byte) (s : State) :
    Host.Outcome State Fault Refusal :=
  .next (request .maintReport takeMaintReport p tag payload s)

def execPanelRequest (p : Port) (tag : Byte) (payload : List Byte) (s : State) :
    Host.Outcome State Fault Refusal :=
  .next (request .panelRequest takePanelRequest p tag payload s)

def execPanelDone (p : Port) (tag : Byte) (payload : List Byte) (s : State) :
    Host.Outcome State Fault Refusal :=
  .next (request .panelDone takePanelDone p tag payload s)

def execPanelAbort (p : Port) (tag : Byte) (payload : List Byte) (s : State) :
    Host.Outcome State Fault Refusal :=
  .next (request .panelAbort takePanelAbort p tag payload s)

def execEngineStatus (p : Port) (tag : Byte) (payload : List Byte) (s : State) :
    Host.Outcome State Fault Refusal :=
  .next (request .engineStatus takeEngineStatus p tag payload s)

def execHoldTaken (p : Port) (tag : Byte) (payload : List Byte) (s : State) :
    Host.Outcome State Fault Refusal :=
  .next (request .holdTaken takeHoldTaken p tag payload s)

end Sys2Proof.Machine
end

