-- ==== Sys2Proof/Machine/InkRequests.lean ====
section
/-! DEFINITION. The requests of the ink and scan blocks: DECLARE_CARTRIDGE, SET_CHANNEL, READ_INK,
SET_BAY_CAL, SET_SCAN, START_SCAN (ch. 2, ch. 4). -/

namespace Sys2Proof.Machine

/-- The reply of a taken declaration (R29). -/
def declarationReport (b : Fin 24) (s : State) : List Byte :=
  leBytes 1 s.ink.bays[b].state.code ++ leBytes 4 (s.ink.usable (channelOf b))

/-- DECLARE_CARTRIDGE (R29, R30). -/
def takeDeclareCartridge : Take := fun q e =>
  withRead (readDeclaration q.payload) e fun x =>
    match e.st.ink.bays[x.bay].state with
    | .empty => refuse .notPresent e
    | .inserted =>
      let e' := settle (declareCartridge x.bay x.volume x.lot x.expiry e)
      (e', Reply.ok (declarationReport x.bay e'.st))
    | _ => refuse .wrongState e

def Channel.set (x : ChannelSettings) (ch : Channel) : Channel :=
  { ch with dead := x.dead, tolerance := x.tolerance, density := x.density,
            lowThreshold := x.lowThreshold }

def channelSettingsBytes (x : ChannelSettings) : List Byte :=
  leBytes 4 x.dead ++ leBytes 4 x.tolerance ++ leBytes 2 x.density ++ leBytes 4 x.lowThreshold

/-- The settings of a channel replaced; a raised dead volume may give up the ACTIVE bay (R31,
R47). -/
def setChannel (c : Fin 12) (x : ChannelSettings) (e : Ev) : Ev :=
  let e' := e.modifyChannel c (Channel.set x)
  if e.st.ink.channels[c].dead < x.dead then giveUp c e' else e'

/-- SET_CHANNEL (R47). -/
def takeSetChannel : Take := fun q e =>
  withRead (readChannel q.payload) e fun x =>
    (settle (setChannel x.1 x.2 e), Reply.ok (channelSettingsBytes x.2))

/-- READ_INK; the overlap flag is reported and cleared (R48, R71, R82). -/
def takeReadInk : Take := fun q e =>
  withNone q e
    (e.mapScan fun u => { u with overlap := false }, Reply.ok (inkReport e.st))

/-- SET_BAY_CAL (R73). -/
def takeSetBayCal : Take := fun q e =>
  withRead (readBayCal q.payload) e fun x =>
    (e.modifyBay x.1 fun b => { b with cal := x.2 }, Reply.ok (calBytes x.2))

/-- SET_SCAN: the interval timer follows the trigger set and the interval (R67). -/
def takeSetScan : Take := fun q e =>
  withRead (readScan q.payload) e fun k =>
    (e.mapScan fun u =>
        { u with
          config := k
          timer := if k.onInterval then some (e.st.now + k.seconds * 1000) else none },
      Reply.ok (scanConfigBytes k))

/-- START_SCAN: WRONG_STATE while DESK is not in the trigger set; otherwise the reply says whether
the trigger started a scan or was dropped (R69). DESIGN CHOICE, unsafe (log 36): it says so in a flag
byte, 1 for started and 0 for dropped. -/
def takeStartScan : Take := fun q e =>
  withNone q e
    (if e.st.scan.config.onDesk then
        (triggerScan .desk e, Reply.ok (flagByte e.st.scan.running.isNone))
      else refuse .wrongState e)

/-! ### The commands -/

def execDeclareCartridge (p : Port) (tag : Byte) (payload : List Byte) (s : State) :
    Host.Outcome State Fault Refusal :=
  .next (request .declareCartridge takeDeclareCartridge p tag payload s)

def execSetChannel (p : Port) (tag : Byte) (payload : List Byte) (s : State) :
    Host.Outcome State Fault Refusal :=
  .next (request .setChannel takeSetChannel p tag payload s)

def execReadInk (p : Port) (tag : Byte) (payload : List Byte) (s : State) :
    Host.Outcome State Fault Refusal :=
  .next (request .readInk takeReadInk p tag payload s)

def execSetBayCal (p : Port) (tag : Byte) (payload : List Byte) (s : State) :
    Host.Outcome State Fault Refusal :=
  .next (request .setBayCal takeSetBayCal p tag payload s)

def execSetScan (p : Port) (tag : Byte) (payload : List Byte) (s : State) :
    Host.Outcome State Fault Refusal :=
  .next (request .setScan takeSetScan p tag payload s)

def execStartScan (p : Port) (tag : Byte) (payload : List Byte) (s : State) :
    Host.Outcome State Fault Refusal :=
  .next (request .startScan takeStartScan p tag payload s)

end Sys2Proof.Machine
end

