-- ==== Sys2Proof/Machine/JobRequests.lean ====
section
/-! DEFINITION. The requests of the Job store: SUBMIT_JOB, QUERY_JOB, HOLD_JOB, RELEASE_JOB,
CANCEL_JOB, COLLECT_JOB (ch. 1, ch. 8). -/

namespace Sys2Proof.Machine

/-! ### SUBMIT_JOB -/

/-- The lowest-numbered free entry of the job table (R1). -/
def State.freeEntry (s : State) : Option (Fin 32) :=
  (List.finRange 32).find? fun h => s.store.jobs[h].isNone

/-- The number of cuts a submission asks for (R154). -/
def Submission.cuts (x : Submission) : Nat := x.leadCut.toNat + x.trailCut.toNat

/-- The job estimate (R154). -/
def State.jobEstimate (s : State) (x : Submission) : Nat :=
  x.copies *
    perCopyEstimate s.cost.prices[x.priceSet] x.estimate x.copyLength
      s.media.types[x.mediaType].width x.mediaType x.cuts x.check.isSome

/-- The estimate volumes of a submission and the prices of its set are all 0 (R154). -/
def State.chargesNothing (s : State) (x : Submission) : Bool :=
  let ps := s.cost.prices[x.priceSet]
  allOf 12 (fun c => x.estimate[c] == 0 && ps.ink[c] == 0) && allOf 16 (fun m => ps.media[m] == 0) &&
    ps.cut == 0 && ps.measurement == 0

/-- The sum of the credit check (R155). -/
def Account.covers (estimate : Nat) (a : Account) : Bool :=
  a.charged + a.committed + estimate ≤ a.limit

/-- The credit check: none for account 0 (R155), passed by a job that charges nothing whatever the
account has charged and committed (R154), and otherwise the sum of R155 (log 39). -/
def State.passesCredit (s : State) (x : Submission) : Bool :=
  x.account == 0 || s.chargesNothing x || (s.cost.accounts[x.account]).covers (s.jobEstimate x)

/-- The record of an admitted job, before its ask is tried (R2, R7, R11). -/
def newJob (s : State) (x : Submission) : Job where
  state := .waitInk
  seq := s.store.nextSeq
  account := x.account
  cls := x.cls
  lane := s.sched.classMap[x.cls]
  priceSet := x.priceSet
  mediaType := x.mediaType
  reprintLimit := x.reprintLimit
  waste := x.waste
  check := x.check
  copyLength := x.copyLength
  leadCut := x.leadCut
  trailCut := x.trailCut
  estimate := x.estimate
  margin := x.margin
  reservation := Vector.replicate 12 0
  reservationHeld := false
  estimateCost := s.jobEstimate x
  held := false
  cancelled := false
  clientBooked := 0
  houseBooked := 0
  acceptedCount := 0
  rejectedCount := 0
  cancelledCount := 0
  editionMatch := none
  copies := List.replicate x.copies { state := .pending, attempt := 1, record := Attempt.fresh }

/-- The job takes its entry, its copy records and the next sequence number (R1, R2, R3). -/
def JobStore.addJob (h : Fin 32) (j : Job) (st : JobStore) : JobStore :=
  { st with
    jobs := st.jobs.set h.val (some j) h.isLt
    freeCopies := st.freeCopies - j.copies.length
    nextSeq := st.nextSeq + 1 }

/-- The in-use count of a price set changed by `f` (R150). -/
def CostUnit.lockPrices (n : Fin 4) (f : Nat → Nat) (c : CostUnit) : CostUnit :=
  { c with prices := modifyAt c.prices n fun p => { p with inUse := f p.inUse } }

/-- The in-use count of the reference set of a check policy changed by `f` (R129). -/
def ColourUnit.lockRefs (k : Option CheckPolicy) (f : Nat → Nat) (u : ColourUnit) : ColourUnit :=
  match k with
  | none => u
  | some p => { u with refs := modifyAt u.refs p.refSet fun r => { r with inUse := f r.inUse } }

/-- The admission of a job (R7, R155), its ask tried at the end (R38). -/
def admitJob (h : Fin 32) (j : Job) (e : Ev) : Ev :=
  let e1 :=
    (((e.mapStore (JobStore.addJob h j)).modifyAccount j.account fun a =>
              { a with openJobs := a.openJobs + 1, committed := a.committed + j.estimateCost }).mapCost
          (CostUnit.lockPrices j.priceSet (· + 1))).mapColour
      (ColourUnit.lockRefs j.check (· + 1))
  if e1.st.ink.fits j then takeReservation h.val j e1 else joinWaitList h e1

/-- SUBMIT_JOB: values, room, credit, then the admission (R4 to R7). -/
def takeSubmitJob : Take := fun q e =>
  withRead (readSubmission e.st q.payload) e fun x =>
    match e.st.freeEntry with
    | none => refuse .noRoom e
    | some h =>
      if e.st.store.freeCopies < x.copies then refuse .noRoom e
      else if !e.st.passesCredit x then refuse .credit e
      else
        let j := newJob e.st x
        let e' := settleAccounts (admitJob h j e)
        (e', Reply.ok (submitReport h.val ((e'.st.job? h.val).getD j)))

/-! ### QUERY_JOB, HOLD_JOB, RELEASE_JOB -/

/-- QUERY_JOB (R21). -/
def takeQueryJob : Take := fun q e => withJob q e fun _ j => (e, Reply.ok (jobReport j))

/-- The held flag of an open job is set or cleared; WRONG_STATE on a CLOSED job (R17). -/
def setHeld (held : Bool) (q : Request) (e : Ev) : Ev × Reply :=
  withJob q e fun h j =>
    if j.state = .closed then refuse .wrongState e
    else (e.modifyJob h.val fun k => { k with held := held }, Reply.ok [])

/-- HOLD_JOB (R17). -/
def takeHoldJob : Take := setHeld true

/-- RELEASE_JOB (R17). -/
def takeReleaseJob : Take := setHeld false

/-! ### CANCEL_JOB -/

/-- The PENDING copies of a cancelled job become CANCELLED (R19). -/
def Job.cancelPending (j : Job) : Job :=
  { j with
    cancelledCount := j.cancelledCount + j.countIn .pending
    copies := j.copies.map fun c => if c.state = .pending then { c with state := .cancelled } else c }

/-- The references of a job's copies with their current attempts, in copy-number order. -/
def refsFrom (h : Nat) : Nat → List CopyRecord → List CopyRef
  | _, [] => []
  | n, c :: cs => { handle := h, copy := n, attempt := c.attempt } :: refsFrom h (n + 1) cs

/-- A copy of this job is PRINTING. -/
def State.jobPrints (s : State) (h : Nat) : Bool := s.printing.map (·.handle) == some h

/-- The cancel's effect on the job and on each copy, before the consequences (R18, R19). -/
def cancelJob (h : Fin 32) (j : Job) (e : Ev) : Ev :=
  let e1 :=
    leaveWaitList h.val
      (releaseReservation h.val (e.modifyJob h.val fun k => { k with cancelled := true }))
  let e2 := e1.modifyJob h.val Job.cancelPending
  let e3 := if e.st.jobPrints h.val then endPrinting .cancelled e2 else e2
  let e4 := (refsFrom h.val 1 j.copies).foldl (fun e r => dropMeasure r e) e3
  closeJobIfDone h.val (e4.modifyJob h.val fun k => { k with state := .closing })

/-- CANCEL_JOB (R18, R19). -/
def takeCancelJob : Take := fun q e =>
  withJob q e fun h j =>
    if j.state = .closed then refuse .wrongState e
    else
      let e' := settleMarks (cancelJob h j e)
      (e', Reply.ok (cancelReport ((e'.st.job? h.val).getD j)))

/-! ### COLLECT_JOB -/

/-- The entry and the copy records of a collected job are freed (R1, R2, R22). -/
def JobStore.collect (h : Fin 32) (j : Job) (st : JobStore) : JobStore :=
  { st with
    jobs := st.jobs.set h.val none h.isLt
    freeCopies := st.freeCopies + j.copies.length }

/-- COLLECT_JOB (R22, R163). -/
def takeCollectJob : Take := fun q e =>
  withJob q e fun h j =>
    if j.state = .closed then
      let e' :=
        (((e.modifyAccount j.account fun a => { a with openJobs := a.openJobs - 1 }).mapCost
                (CostUnit.lockPrices j.priceSet (· - 1))).mapColour
              (ColourUnit.lockRefs j.check (· - 1))).mapStore
          (JobStore.collect h j)
      (e', Reply.ok (collectReport h.val j e'.st.cost.accounts[j.account]))
    else refuse .wrongState e

/-! ### The commands -/

def execSubmitJob (p : Port) (tag : Byte) (payload : List Byte) (s : State) :
    Host.Outcome State Fault Refusal :=
  .next (request .submitJob takeSubmitJob p tag payload s)

def execQueryJob (p : Port) (tag : Byte) (payload : List Byte) (s : State) :
    Host.Outcome State Fault Refusal :=
  .next (request .queryJob takeQueryJob p tag payload s)

def execHoldJob (p : Port) (tag : Byte) (payload : List Byte) (s : State) :
    Host.Outcome State Fault Refusal :=
  .next (request .holdJob takeHoldJob p tag payload s)

def execReleaseJob (p : Port) (tag : Byte) (payload : List Byte) (s : State) :
    Host.Outcome State Fault Refusal :=
  .next (request .releaseJob takeReleaseJob p tag payload s)

def execCancelJob (p : Port) (tag : Byte) (payload : List Byte) (s : State) :
    Host.Outcome State Fault Refusal :=
  .next (request .cancelJob takeCancelJob p tag payload s)

def execCollectJob (p : Port) (tag : Byte) (payload : List Byte) (s : State) :
    Host.Outcome State Fault Refusal :=
  .next (request .collectJob takeCollectJob p tag payload s)

end Sys2Proof.Machine
end

