-- ==== Sys2Proof/Machine/PortRequests.lean ====
section
/-! DEFINITION. The requests served by the port units: SET_FAULT_POLICY, FETCH_NOTICES,
SET_NOTICE_LEVELS, READ_FAULTS, CLEAR_FAULTS (ch. 9). -/

namespace Sys2Proof.Machine

/-- SET_FAULT_POLICY (R178). -/
def takeSetFaultPolicy : Take := fun q e =>
  withRead (readFaultPolicy q.payload) e fun x =>
    (e.modifyPort x.1 fun u => { u with policy := x.2 }, Reply.ok (policyBytes x.2))

/-- FETCH_NOTICES (R172). -/
def takeFetchNotices : Take := fun q e =>
  withNone q e
    (e.modifyPort q.port fun u => { u with queue := u.queue.drop 8, wrapped := false },
      Reply.ok (fetchReport (e.st.ports.unit q.port)))

/-- SET_NOTICE_LEVELS (R173). -/
def takeSetNoticeLevels : Take := fun q e =>
  withRead (readLevels q.payload) e fun x =>
    let e' := e.modifyPort q.port fun u => { u with threshold := x.1, levels := x.2 }
    (e', Reply.ok (levelBytes (e'.st.ports.unit q.port)))

/-- READ_FAULTS (R176). -/
def takeReadFaults : Take := fun q e =>
  withNone q e (e, Reply.ok (faultsReport q.port e.st.ports))

/-- The fault record, the counter and the port state after CLEAR_FAULTS (R176). -/
def PortUnit.clearFaults (u : PortUnit) : PortUnit :=
  { u with status := noFaults, capture := none, multiple := false, badCount := 0, state := .normal }

/-- The device summary is cleared by CLEAR_FAULTS on the Desk port (R176, R177). -/
def Ports.clearSummary (p : Port) (ps : Ports) : Ports :=
  if p = .desk then { ps with summary := none, summaryMultiple := false } else ps

/-- CLEAR_FAULTS (R176). -/
def takeClearFaults : Take := fun q e =>
  withNone q e
    ((e.modifyPort q.port PortUnit.clearFaults).mapPorts (Ports.clearSummary q.port),
      Reply.ok (faultRecordBytes (e.st.ports.unit q.port)))

/-! ### The commands -/

def execSetFaultPolicy (p : Port) (tag : Byte) (payload : List Byte) (s : State) :
    Host.Outcome State Fault Refusal :=
  .next (request .setFaultPolicy takeSetFaultPolicy p tag payload s)

def execFetchNotices (p : Port) (tag : Byte) (payload : List Byte) (s : State) :
    Host.Outcome State Fault Refusal :=
  .next (request .fetchNotices takeFetchNotices p tag payload s)

def execSetNoticeLevels (p : Port) (tag : Byte) (payload : List Byte) (s : State) :
    Host.Outcome State Fault Refusal :=
  .next (request .setNoticeLevels takeSetNoticeLevels p tag payload s)

def execReadFaults (p : Port) (tag : Byte) (payload : List Byte) (s : State) :
    Host.Outcome State Fault Refusal :=
  .next (request .readFaults takeReadFaults p tag payload s)

def execClearFaults (p : Port) (tag : Byte) (payload : List Byte) (s : State) :
    Host.Outcome State Fault Refusal :=
  .next (request .clearFaults takeClearFaults p tag payload s)

end Sys2Proof.Machine
end

