-- ==== Sys2Proof/WellFormed.lean ====
section
/-! DEFINITION. What a well-formed command is. Every meaning is total: it is given on ill-formed
commands too, and the docstrings say what they do there. -/

namespace Sys2Proof

/-- A request's payload fits the frame's length field (9.2: 0..1,020). Beyond it the frame is
MALFORMED (R167). -/
def payloadOk (payload : List Byte) : Bool := payload.length ≤ Config.maxPayload

/-- The bytes of a request transfer: there is a first byte and it is not 0 (R165). -/
def transferOk (bytes : List Byte) : Bool :=
  match bytes with
  | [] => false
  | b :: _ => b != 0

/-- The bytes that complete a message on the head line: twelve with the kind byte first, or the
eleven that follow a first byte already gathered (R186). -/
def headBytesOk (kindOk : Byte → Bool) (bytes : List Byte) : Bool :=
  match bytes with
  | [] => false
  | b :: _ => (bytes.length == 12 && kindOk b) || bytes.length == 11

namespace Instr

/-- Well-formed commands (log 6, log 18). -/
def wellFormed : Instr → Bool
  | submitJob _ _ pl => payloadOk pl
  | queryJob _ _ pl => payloadOk pl
  | holdJob _ _ pl => payloadOk pl
  | releaseJob _ _ pl => payloadOk pl
  | cancelJob _ _ pl => payloadOk pl
  | collectJob _ _ pl => payloadOk pl
  | declareDrops _ _ pl => payloadOk pl
  | swathReport _ _ pl => payloadOk pl
  | maintReport _ _ pl => payloadOk pl
  | panelRequest _ _ pl => payloadOk pl
  | panelDone _ _ pl => payloadOk pl
  | panelAbort _ _ pl => payloadOk pl
  | engineStatus _ _ pl => payloadOk pl
  | holdTaken _ _ pl => payloadOk pl
  | declareCartridge _ _ pl => payloadOk pl
  | setChannel _ _ pl => payloadOk pl
  | readInk _ _ pl => payloadOk pl
  | setBayCal _ _ pl => payloadOk pl
  | setScan _ _ pl => payloadOk pl
  | startScan _ _ pl => payloadOk pl
  | setPower _ _ pl => payloadOk pl
  | writePhases _ _ pl => payloadOk pl
  | loadPhases _ _ pl => payloadOk pl
  | setClassMap _ _ pl => payloadOk pl
  | mountRoll _ _ pl => payloadOk pl
  | unmountRoll _ _ pl => payloadOk pl
  | setMediaType _ _ pl => payloadOk pl
  | setPath _ _ pl => payloadOk pl
  | clearCutter _ _ pl => payloadOk pl
  | setReference _ _ pl => payloadOk pl
  | setHistorySize _ _ pl => payloadOk pl
  | readHistory _ _ pl => payloadOk pl
  | setPrices _ _ pl => payloadOk pl
  | setAccount _ _ pl => payloadOk pl
  | readAccount _ _ pl => payloadOk pl
  | setTime _ _ pl => payloadOk pl
  | setFaultPolicy _ _ pl => payloadOk pl
  | fetchNotices _ _ pl => payloadOk pl
  | setNoticeLevels _ _ pl => payloadOk pl
  | readFaults _ _ pl => payloadOk pl
  | clearFaults _ _ pl => payloadOk pl
  | badFrame _ bytes => transferOk bytes
  | overlap _ bytes => transferOk bytes
  | readTransfer _ count => 0 < count
  | portReset _ => true
  | portResetRelease _ => true
  | deviceReset => true
  | resetRelease => true
  | cartridgePresentRise _ => true
  | cartridgePresentFall _ => true
  | feedStep _ => true
  | cutHomeFall => true
  | cutHomeRise => true
  | patch bytes => headBytesOk (fun k => k == 2) bytes
  | headEnd bytes => headBytesOk (fun k => k == 3) bytes
  | headOther bytes => headBytesOk (fun k => k != 2 && k != 3) bytes
  | headByteGap _ => true
  | scanIntervalExpiry => true
  | sampleConversion _ => true
  | scanComplete => true
  | holdAckExpiry => true
  | pauseExpiry => true
  | cutterTimerExpiry => true
  | dryWaitExpiry => true
  | headTimerExpiry => true
  | powerApplied => true

end Instr
end Sys2Proof
end

