-- ==== Sys2Proof/Machine/Transfers.lean ====
section
/-! DEFINITION. The other transfers of a port: BAD_FRAME, OVERLAP, READ_TRANSFER (R165 to R170). -/

namespace Sys2Proof.Machine

/-! ### The checks of a frame -/

/-- How each block takes a request kind. -/
def takeOf : ReqKind → Take
  | .submitJob => takeSubmitJob
  | .queryJob => takeQueryJob
  | .holdJob => takeHoldJob
  | .releaseJob => takeReleaseJob
  | .cancelJob => takeCancelJob
  | .declareDrops => takeDeclareDrops
  | .swathReport => takeSwathReport
  | .maintReport => takeMaintReport
  | .panelRequest => takePanelRequest
  | .panelDone => takePanelDone
  | .panelAbort => takePanelAbort
  | .engineStatus => takeEngineStatus
  | .holdTaken => takeHoldTaken
  | .collectJob => takeCollectJob
  | .declareCartridge => takeDeclareCartridge
  | .setChannel => takeSetChannel
  | .readInk => takeReadInk
  | .setBayCal => takeSetBayCal
  | .setScan => takeSetScan
  | .startScan => takeStartScan
  | .setPower => takeSetPower
  | .writePhases => takeWritePhases
  | .loadPhases => takeLoadPhases
  | .setClassMap => takeSetClassMap
  | .mountRoll => takeMountRoll
  | .unmountRoll => takeUnmountRoll
  | .setMediaType => takeSetMediaType
  | .setPath => takeSetPath
  | .clearCutter => takeClearCutter
  | .setReference => takeSetReference
  | .setHistorySize => takeSetHistorySize
  | .readHistory => takeReadHistory
  | .setPrices => takeSetPrices
  | .setAccount => takeSetAccount
  | .readAccount => takeReadAccount
  | .setTime => takeSetTime
  | .setFaultPolicy => takeSetFaultPolicy
  | .fetchNotices => takeFetchNotices
  | .setNoticeLevels => takeSetNoticeLevels
  | .readFaults => takeReadFaults
  | .clearFaults => takeClearFaults

/-- What the checks of R167 find in a frame. -/
inductive FrameCheck where
  | bad (k : FaultKind)
  | good (k : ReqKind)
  deriving DecidableEq, Repr

/-- The three checks of a frame, in order (R167). -/
def checkFrame (bytes : List Byte) : FrameCheck :=
  let len := field bytes 2 2
  if bytes.length < 6 ∨ Config.maxPayload < len ∨ bytes.length ≠ len + 6 then .bad .malformed
  else if (crc16 (bytes.take (bytes.length - 2))).toNat ≠ field bytes (bytes.length - 2) 2 then
    .bad .badCheck
  else
    match ReqKind.ofByte (bytes.getD 0 0) with
    | none => .bad .unknownKind
    | some k => .good k

/-- The payload of a frame of good length (11.2). -/
def framePayload (bytes : List Byte) : List Byte := (bytes.drop 4).take (bytes.length - 6)

/-- A frame as it was received is checked, and answered BAD_FRAME or served as the request it spells
(R167, R168, log 6). -/
def examineFrame (p : Port) (bytes : List Byte) (e : Ev) : Ev :=
  match checkFrame bytes with
  | .bad k => answerBad p k (headerOf bytes) e
  | .good k =>
    takeFrame k (takeOf k)
      { port := p, header := headerOf bytes, payload := framePayload bytes } e

/-! ### Read transfers -/

def ResultCode.code : ResultCode → Nat
  | .ok => 0
  | .badFrame => 1
  | .badValue => 2
  | .noRoom => 3
  | .credit => 4
  | .inUse => 5
  | .wrongState => 6
  | .notPresent => 7
  | .unknownHandle => 8
  | .staleRef => 9
  | .portFaulted => 10
  | .notThisPort => 11

/-- A frame that the part sends (11.2). -/
def frameOut (kind tag : Byte) (code : ResultCode) (payload : List Byte) : List Byte :=
  withCheck (kind :: tag :: (leBytes 1 code.code ++ leBytes 2 payload.length ++ payload))

/-- What the Engine port adds to every frame: the standing order word (R170, 11.2). -/
def State.portWord (s : State) (p : Port) : List Byte :=
  match p with
  | .engine => s.orderWord
  | _ => []

/-- The frame that a read transfer sends, as it stands at its start (R166, R170). -/
def State.outgoing (s : State) (p : Port) : List Byte :=
  match (s.ports.unit p).txn with
  | .responseReady r => frameOut r.kind r.tag r.code (r.payload ++ s.portWord p)
  | _ => frameOut 0 0 .ok (s.portWord p)

/-- The bytes clocked out: bytes beyond the end of a frame are 0 (R166). -/
def clocked (count : Nat) (frame : List Byte) : List Byte :=
  (frame ++ List.replicate (count - frame.length) 0).take count

/-- A port unit after a read transfer: a response is consumed when every byte of its frame has been
clocked out (R166). -/
def PortUnit.read (count : Nat) (frame : List Byte) (u : PortUnit) : PortUnit :=
  { u with
    txn :=
      match u.txn with
      | .responseReady r => if frame.length ≤ count then .idle else .responseReady r
      | x => x
    sent := clocked count frame }

/-- A read transfer of this many bytes (R166, R170, R179). -/
def readFrom (p : Port) (count : Nat) (e : Ev) : Ev :=
  if e.st.portHeld p || count == 0 then e
  else
    (e.modifyPort p (PortUnit.read count (e.st.outgoing p))).mapPorts fun ps =>
      if p = .engine then { ps with orderChange := false } else ps

/-- A transfer whose first byte is 0 is a read transfer (R165): so is an ill-formed BAD_FRAME or
OVERLAP. -/
def requestTransfer (p : Port) (bytes : List Byte) (go : Ev → Ev) (e : Ev) : Ev :=
  if transferOk bytes then go e else readFrom p bytes.length e

/-! ### The commands -/

/-- A request transfer ends, and its frame is checked (R167). -/
def execBadFrame (p : Port) (bytes : List Byte) (s : State) : Host.Outcome State Fault Refusal :=
  .next
    (event
      (requestTransfer p bytes
        (arrive p (headerOf bytes) bytes.length false (examineFrame p bytes)))
      s)

/-- A request transfer ended while the port was IN_SERVICE: it is discarded with OVERLAP (R169,
log 5). -/
def execOverlap (p : Port) (bytes : List Byte) (s : State) : Host.Outcome State Fault Refusal :=
  .next
    (event
      (requestTransfer p bytes (arrive p (headerOf bytes) bytes.length true fun e => e))
      s)

/-- A read transfer (R166). -/
def execReadTransfer (p : Port) (count : Nat) (s : State) : Host.Outcome State Fault Refusal :=
  .next (event (readFrom p count) s)

end Sys2Proof.Machine
end

