-- ==== Sys2Proof/Machine/Dispatch.lean ====
section
/-! DEFINITION. One arm per command: its meaning. -/

namespace Sys2Proof.Machine

def exec (i : Instr) (s : State) : Host.Outcome State Fault Refusal :=
  match i with
  | .submitJob p tag payload => Sys2Proof.Machine.execSubmitJob p tag payload s
  | .queryJob p tag payload => Sys2Proof.Machine.execQueryJob p tag payload s
  | .holdJob p tag payload => Sys2Proof.Machine.execHoldJob p tag payload s
  | .releaseJob p tag payload => Sys2Proof.Machine.execReleaseJob p tag payload s
  | .cancelJob p tag payload => Sys2Proof.Machine.execCancelJob p tag payload s
  | .collectJob p tag payload => Sys2Proof.Machine.execCollectJob p tag payload s
  | .declareDrops p tag payload => Sys2Proof.Machine.execDeclareDrops p tag payload s
  | .swathReport p tag payload => Sys2Proof.Machine.execSwathReport p tag payload s
  | .maintReport p tag payload => Sys2Proof.Machine.execMaintReport p tag payload s
  | .panelRequest p tag payload => Sys2Proof.Machine.execPanelRequest p tag payload s
  | .panelDone p tag payload => Sys2Proof.Machine.execPanelDone p tag payload s
  | .panelAbort p tag payload => Sys2Proof.Machine.execPanelAbort p tag payload s
  | .engineStatus p tag payload => Sys2Proof.Machine.execEngineStatus p tag payload s
  | .holdTaken p tag payload => Sys2Proof.Machine.execHoldTaken p tag payload s
  | .declareCartridge p tag payload => Sys2Proof.Machine.execDeclareCartridge p tag payload s
  | .setChannel p tag payload => Sys2Proof.Machine.execSetChannel p tag payload s
  | .readInk p tag payload => Sys2Proof.Machine.execReadInk p tag payload s
  | .setBayCal p tag payload => Sys2Proof.Machine.execSetBayCal p tag payload s
  | .setScan p tag payload => Sys2Proof.Machine.execSetScan p tag payload s
  | .startScan p tag payload => Sys2Proof.Machine.execStartScan p tag payload s
  | .setPower p tag payload => Sys2Proof.Machine.execSetPower p tag payload s
  | .writePhases p tag payload => Sys2Proof.Machine.execWritePhases p tag payload s
  | .loadPhases p tag payload => Sys2Proof.Machine.execLoadPhases p tag payload s
  | .setClassMap p tag payload => Sys2Proof.Machine.execSetClassMap p tag payload s
  | .mountRoll p tag payload => Sys2Proof.Machine.execMountRoll p tag payload s
  | .unmountRoll p tag payload => Sys2Proof.Machine.execUnmountRoll p tag payload s
  | .setMediaType p tag payload => Sys2Proof.Machine.execSetMediaType p tag payload s
  | .setPath p tag payload => Sys2Proof.Machine.execSetPath p tag payload s
  | .clearCutter p tag payload => Sys2Proof.Machine.execClearCutter p tag payload s
  | .setReference p tag payload => Sys2Proof.Machine.execSetReference p tag payload s
  | .setHistorySize p tag payload => Sys2Proof.Machine.execSetHistorySize p tag payload s
  | .readHistory p tag payload => Sys2Proof.Machine.execReadHistory p tag payload s
  | .setPrices p tag payload => Sys2Proof.Machine.execSetPrices p tag payload s
  | .setAccount p tag payload => Sys2Proof.Machine.execSetAccount p tag payload s
  | .readAccount p tag payload => Sys2Proof.Machine.execReadAccount p tag payload s
  | .setTime p tag payload => Sys2Proof.Machine.execSetTime p tag payload s
  | .setFaultPolicy p tag payload => Sys2Proof.Machine.execSetFaultPolicy p tag payload s
  | .fetchNotices p tag payload => Sys2Proof.Machine.execFetchNotices p tag payload s
  | .setNoticeLevels p tag payload => Sys2Proof.Machine.execSetNoticeLevels p tag payload s
  | .readFaults p tag payload => Sys2Proof.Machine.execReadFaults p tag payload s
  | .clearFaults p tag payload => Sys2Proof.Machine.execClearFaults p tag payload s
  | .badFrame p bytes => Sys2Proof.Machine.execBadFrame p bytes s
  | .overlap p bytes => Sys2Proof.Machine.execOverlap p bytes s
  | .readTransfer p count => Sys2Proof.Machine.execReadTransfer p count s
  | .portReset p => Sys2Proof.Machine.execPortReset p s
  | .portResetRelease p => Sys2Proof.Machine.execPortResetRelease p s
  | .deviceReset => Sys2Proof.Machine.execDeviceReset s
  | .resetRelease => Sys2Proof.Machine.execResetRelease s
  | .cartridgePresentRise bay => Sys2Proof.Machine.execCartridgePresentRise bay s
  | .cartridgePresentFall bay => Sys2Proof.Machine.execCartridgePresentFall bay s
  | .feedStep d => Sys2Proof.Machine.execFeedStep d s
  | .cutHomeFall => Sys2Proof.Machine.execCutHomeFall s
  | .cutHomeRise => Sys2Proof.Machine.execCutHomeRise s
  | .patch bytes => Sys2Proof.Machine.execPatch bytes s
  | .headEnd bytes => Sys2Proof.Machine.execHeadEnd bytes s
  | .headOther bytes => Sys2Proof.Machine.execHeadOther bytes s
  | .headByteGap b => Sys2Proof.Machine.execHeadByteGap b s
  | .scanIntervalExpiry => Sys2Proof.Machine.execScanIntervalExpiry s
  | .sampleConversion raw => Sys2Proof.Machine.execSampleConversion raw s
  | .scanComplete => Sys2Proof.Machine.execScanComplete s
  | .holdAckExpiry => Sys2Proof.Machine.execHoldAckExpiry s
  | .pauseExpiry => Sys2Proof.Machine.execPauseExpiry s
  | .cutterTimerExpiry => Sys2Proof.Machine.execCutterTimerExpiry s
  | .dryWaitExpiry => Sys2Proof.Machine.execDryWaitExpiry s
  | .headTimerExpiry => Sys2Proof.Machine.execHeadTimerExpiry s
  | .powerApplied => Sys2Proof.Machine.execPowerApplied s

end Sys2Proof.Machine
end

