-- ==== Sys2Proof/Safety.lean ====
section
/-! DEFINITION. What the statements about the part speak of: when a port serves a request, what an
answer, a notice and a fault leave on the ports, the parts of the state that frames name, and the
invariants that every step keeps. -/

namespace Sys2Proof.Machine

/-! ### Serving and answering -/

/-- The port takes a request of this kind and payload at its block: RESET is not asserted, the port
is not held, no request or response stands, the payload fits a frame, and the port itself refuses
nothing (R165, R168, R179, R182). -/
def State.serves (s : State) (k : ReqKind) (p : Port) (pl : List Byte) : Bool :=
  !s.pins.reset && !s.portHeld p && (s.ports.unit p).txn == .idle && payloadOk pl &&
    (portRefusal k p (s.ports.unit p)).isNone

/-- The command that brings a request of a kind (9.3). -/
def ReqKind.command : ReqKind → Port → Byte → List Byte → Instr
  | .submitJob => .submitJob
  | .queryJob => .queryJob
  | .holdJob => .holdJob
  | .releaseJob => .releaseJob
  | .cancelJob => .cancelJob
  | .declareDrops => .declareDrops
  | .swathReport => .swathReport
  | .maintReport => .maintReport
  | .panelRequest => .panelRequest
  | .panelDone => .panelDone
  | .panelAbort => .panelAbort
  | .engineStatus => .engineStatus
  | .holdTaken => .holdTaken
  | .collectJob => .collectJob
  | .declareCartridge => .declareCartridge
  | .setChannel => .setChannel
  | .readInk => .readInk
  | .setBayCal => .setBayCal
  | .setScan => .setScan
  | .startScan => .startScan
  | .setPower => .setPower
  | .writePhases => .writePhases
  | .loadPhases => .loadPhases
  | .setClassMap => .setClassMap
  | .mountRoll => .mountRoll
  | .unmountRoll => .unmountRoll
  | .setMediaType => .setMediaType
  | .setPath => .setPath
  | .clearCutter => .clearCutter
  | .setReference => .setReference
  | .setHistorySize => .setHistorySize
  | .readHistory => .readHistory
  | .setPrices => .setPrices
  | .setAccount => .setAccount
  | .readAccount => .readAccount
  | .setTime => .setTime
  | .setFaultPolicy => .setFaultPolicy
  | .fetchNotices => .fetchNotices
  | .setNoticeLevels => .setNoticeLevels
  | .readFaults => .readFaults
  | .clearFaults => .clearFaults

/-- A port unit that has answered a frame of this payload that passed its checks: zeros sent while the
frame came in, the counter at 0, the response in its slot (R165, R167, R168; `sent` is log 23). -/
def PortUnit.answer (k : ReqKind) (tag : Byte) (pl : List Byte) (r : Reply) (u : PortUnit) : PortUnit :=
  { u with
    badCount := 0
    sent := List.replicate (pl.length + 6) 0
    txn := .responseReady { kind := k.code, tag := tag, code := r.code, payload := r.payload } }

/-- `s` with a request of this payload answered on a port, and nothing else changed. -/
def State.answered (p : Port) (k : ReqKind) (tag : Byte) (pl : List Byte) (r : Reply) (s : State) :
    State :=
  { s with ports := s.ports.modifyUnit p (PortUnit.answer k tag pl r) }

/-- The response in the slot of a port. -/
def State.hasAnswer (s : State) (p : Port) (k : ReqKind) (tag : Byte) (r : Reply) : Prop :=
  (s.ports.unit p).txn =
    .responseReady { kind := k.code, tag := tag, code := r.code, payload := r.payload }

/-- Notices offered to the three ports, in this order (R171). -/
def State.notify (ns : List Notice) (s : State) : State :=
  let offer (p : Port) : Ports → Ports :=
    Ports.modifyUnit p (offerAll s.now ns (s.portHeld p))
  { s with ports := offer .desk (offer .engine (offer .job s.ports)) }

/-- The order change flag, set where the orders differ from those of the state before (R170). -/
def State.noteOrders (before : State) (s : State) : State :=
  { s with
    ports := { s.ports with orderChange := s.ports.orderChange || ordersDiffer before s } }

/-- A fault that stops no port is noted in a port's fault record (R175). -/
def State.noteFault (p : Port) (k : FaultKind) (h : Option Header) (s : State) : State :=
  { s with ports := s.ports.modifyUnit p (PortUnit.note k h s.now) }

/-- A fault of this kind would move the port to FAULTED (R175). -/
def State.stops (s : State) (p : Port) (k : FaultKind) : Bool := (s.ports.unit p).stops k

/-- The levels of the input lines after a command that moves one; every other command leaves them
(00_scope.md, Lines of the part). -/
def lineMoved (c : Instr) (pins : Pins) : Pins :=
  match c with
  | .portReset p => pins.setPortReset p true
  | .portResetRelease p => pins.setPortReset p false
  | .cartridgePresentRise b => { pins with present := pins.present.set b.val true b.isLt }
  | .cartridgePresentFall b => { pins with present := pins.present.set b.val false b.isLt }
  | .cutHomeFall => { pins with cutHome := false }
  | .cutHomeRise => { pins with cutHome := true }
  | _ => pins

/-! ### Parts of the state that frames name -/

/-- What lies outside the blocks. -/
def State.outside (s : State) : Pins × List Instr := (s.pins, s.pending)

/-- The four settings of a channel (R47). -/
def Channel.settings (ch : Channel) : Nat × Nat × Nat × Nat :=
  (ch.dead, ch.tolerance, ch.density, ch.lowThreshold)

/-- The settings of the ink and scan blocks, with the calibrations (R47, R66, R73). -/
def State.inkSettings (s : State) :
    Vector (Nat × Nat × Nat × Nat) 12 × Vector Calibration 24 × ScanConfig :=
  (mapTable Channel.settings s.ink.channels, mapTable Bay.cal s.ink.bays, s.scan.config)

/-- The settings of the schedule and of the media path (R86, R87, R106, R110). -/
def State.pathSettings (s : State) :
    Vector (Fin 4) 8 × Vector (Fin 4) 32 × Vector MediaType 16 × PathSettings :=
  (s.sched.classMap, s.sched.staged, s.media.types, s.media.settings)

/-- The records that jobs lock, with their in-use counts (R129, R149). -/
def State.locked (s : State) : Vector RefSet 16 × Vector PriceSet 4 := (s.colour.refs, s.cost.prices)

/-- The settings of a port (R173, R178). -/
def PortUnit.settings (u : PortUnit) : Vector Nat 18 × Nat × Vector Policy 11 :=
  (u.levels, u.threshold, u.policy)

def State.portSettings (s : State) (p : Port) : Vector Nat 18 × Nat × Vector Policy 11 :=
  (s.ports.unit p).settings

/-- The fields of a job that are fixed at admission, with its held flag (1.2). -/
def Job.fixed (j : Job) : Job :=
  { j with
    state := .queued
    reservation := Vector.replicate 12 0
    reservationHeld := false
    cancelled := false
    clientBooked := 0
    houseBooked := 0
    acceptedCount := 0
    rejectedCount := 0
    cancelledCount := 0
    editionMatch := none
    copies := [] }

/-- The open jobs with their fixed fields and the lengths of their copy lists, the free records of
the copy pool and the admission counter (R1, R2, R3). -/
def State.roster (s : State) : Vector (Option (Job × Nat)) 32 × Nat × BitVec 32 :=
  (mapTable (Option.map fun j => (Job.fixed j, j.copies.length)) s.store.jobs, s.store.freeCopies,
    s.store.nextSeq)

/-- Every part that only its own requests write is as it was: the settings of every block and port,
the locked records and the roster of jobs. -/
structure SettingsKept (s t : State) : Prop where
  ink : t.inkSettings = s.inkSettings
  path : t.pathSettings = s.pathSettings
  locked : t.locked = s.locked
  ports : ∀ p, t.portSettings p = s.portSettings p
  roster : t.roster = s.roster

/-- A job's record is as it was but for what a reservation released or taken at the end of an event
writes (R37, R41, R42). -/
def Job.sameButInk (x y : Job) : Prop :=
  x = { y with state := x.state, reservation := x.reservation, reservationHeld := x.reservationHeld }

/-- Every job's reservation, every channel's reserved total and the wait list are as they were (R25,
R37, R39). -/
def reservationsKept (s t : State) : Prop :=
  (∀ c : Fin 12, t.ink.channels[c].reserved = s.ink.channels[c].reserved) ∧
  (∀ h : Nat, (t.job? h).map (fun j => (j.state, j.reservation, j.reservationHeld)) =
    (s.job? h).map fun j => (j.state, j.reservation, j.reservationHeld)) ∧
  t.store.waitList = s.store.waitList

/-- The ink drawn from a channel's two bays, and its overdraw (R57, R58). -/
def InkUnit.spent (i : InkUnit) (c : Fin 12) : Nat :=
  i.bays[bayOf c .a].drawn + i.bays[bayOf c .b].drawn + i.channels[c].overdraw

/-- The media record is as it was, but for the feed hold and the pause. -/
def Media.sameButHold (x y : Media) : Prop := x = { y with hold := x.hold, pause := x.pause }

/-- No mark of the list after its head has been reached. -/
def State.restAhead (s : State) : Prop := ∀ k ∈ s.media.marks.tail, reached s.media.pos k.pos = false

/-- The block effects of an engine loss, whatever was printing (R102). -/
structure EngineLost (s t : State) : Prop where
  printing : t.printing = none
  abort : t.sched.abort = none
  grant : t.sched.grant = s.sched.grant.map fun g => { g with printing := false }
  drops : t.meter = { s.meter with confirmed := false }
  uncertain : ∀ b : Fin 24, t.ink.bays[b] = s.ink.bays[b].distrust
  hold : t.media.hold.state ≠ .taken
  scan : t.scan.running.isSome = true

/-! ### Invariants -/

/-- Level, drawn and written off sum to the declared volume, which lies in its range (R26, R57). -/
def Cartridge.sound (k : Cartridge) : Prop :=
  k.level + k.drawn + k.writtenOff = k.declared ∧ 1 ≤ k.declared ∧ k.declared ≤ 1000000000

/-- The states in which a bay holds cartridge data (R26). -/
def BayState.declared : BayState → Bool
  | .ready | .active | .spent | .expired => true
  | .empty | .inserted => false

/-- Bays, cartridges and active bays agree (R26, R31, R44, R45, R56). -/
structure BaysSound (s : State) : Prop where
  balance : ∀ (b : Fin 24) (k : Cartridge), s.ink.bays[b].cart = some k → k.sound
  removed : ∀ (b : Fin 24) (r : Removal) (k : Cartridge),
    s.ink.bays[b].removal = some r → r.figures = some k → k.sound
  present : ∀ b : Fin 24, s.ink.bays[b].cart.isSome = s.ink.bays[b].state.declared
  certain : ∀ b : Fin 24, s.ink.bays[b].state.declared = false → s.ink.bays[b].uncertain = false
  active : ∀ (c : Fin 12) (sd : Side),
    s.ink.channels[c].active = some sd ↔ s.ink.bays[bayOf c sd].state = .active
  ready : ∀ (c : Fin 12) (sd : Side),
    s.ink.channels[c].active = none → s.ink.bays[bayOf c sd].state ≠ .ready
  above : ∀ (c : Fin 12) (sd : Side), s.ink.bays[bayOf c sd].state = .active →
    s.ink.channels[c].dead < s.ink.bays[bayOf c sd].level

/-- The bays are sound, and out of RESET their states follow the cartridge-present inputs (R28). -/
structure BaysFollow (s : State) : Prop where
  sound : BaysSound s
  follow : s.pins.reset = false →
    ∀ b : Fin 24, s.ink.bays[b].state = .empty ↔ s.pins.present[b] = false

/-- The copy records that jobs hold. -/
def State.copiesHeld (s : State) : Nat :=
  sumOver 32 fun h => (s.store.jobs[h].map fun j => j.copies.length).getD 0

/-- Copy records held plus free copy records number 1,024 (R2). -/
def PoolSound (s : State) : Prop := s.copiesHeld + s.store.freeCopies = Config.poolSize

/-- A port unit keeps its bounds (R167, R172 to R175). -/
structure PortUnit.Sound (u : PortUnit) : Prop where
  queue : u.queue.length ≤ Config.queueSize
  entries : ∀ x ∈ u.queue, 1 ≤ x.level ∧ x.level ≤ 7 ∧ x.time < 4294967296
  levels : ∀ i : Fin 18, u.levels[i] ≤ 7
  threshold : 1 ≤ u.threshold ∧ u.threshold ≤ 7
  bad : u.badCount < 8
  status : ∀ i : Fin 11, u.status[i].count ≤ 255 ∧ (u.status[i].recorded = true ↔ 0 < u.status[i].count)
  faulted : u.state = .faulted → u.capture.isSome = true
  multiple : u.multiple = true → u.capture.isSome = true

def PortsSound (s : State) : Prop := ∀ p : Port, (s.ports.unit p).Sound

/-- The copy that is PRINTING is the copy the current grant names, its printing flag set (R95); a
CLOSED job has only terminal copies (1.4). -/
structure PrintingSound (s : State) : Prop where
  named : ∀ (h : Nat) (j : Job) (n : Nat) (c : CopyRecord), s.job? h = some j → j.copy? n = some c →
    (c.state = .printing ↔ s.printing = some { handle := h, copy := n, attempt := c.attempt })
  current : ∀ r : CopyRef, s.printing = some r → (s.attempt? r).isSome = true
  closed : ∀ (h : Nat) (j : Job), s.job? h = some j → j.state = .closed → j.allTerminal = true

/-- The state of a job follows from its copies and its reservation (1.4). -/
def Job.stateSound (j : Job) : Prop :=
  match j.state with
  | .waitInk => 0 < j.countIn .pending ∧ j.reservationHeld = false
  | .queued => 0 < j.countIn .pending ∧ j.reservationHeld = true
  | .closing => j.countIn .pending = 0 ∧ j.allTerminal = false
  | .closed => j.allTerminal = true ∧ j.reservationHeld = false

/-- A job's record agrees with its copies (R2, R4, R16, 1.4). -/
structure Job.Sound (j : Job) : Prop where
  state : j.stateSound
  accepted : j.acceptedCount = j.countIn .accepted
  rejected : j.rejectedCount = j.countIn .rejected
  cancelled : j.cancelledCount = j.countIn .cancelled
  copies : 1 ≤ j.copies.length ∧ j.copies.length ≤ 64
  attempts : j.reprintLimit ≤ 3 ∧ ∀ c ∈ j.copies, 1 ≤ c.attempt ∧ c.attempt ≤ j.reprintLimit + 1
  unheld : j.reservationHeld = false → j.reservation = Vector.replicate 12 0

/-- The jobs are sound, the printing copy is the granted one, and the wait list holds exactly the
WAIT_INK jobs, once each (1.4, R8, R39, R95). -/
structure JobsSound (s : State) : Prop where
  printing : PrintingSound s
  jobs : ∀ (h : Nat) (j : Job), s.job? h = some j → j.Sound
  waiting : ∀ h : Fin 32, h ∈ s.store.waitList ↔ (s.job? h.val).map (·.state) = some .waitInk
  once : s.store.waitList.Nodup

/-- The sum of a figure of the open jobs. -/
def State.sumJobs (s : State) (f : Job → Nat) : Nat :=
  sumOver 32 fun h => (s.store.jobs[h].map f).getD 0

/-- The totals kept beside the jobs equal their sums over the jobs (R25, R129, R150, R151, R156). -/
structure LedgersSound (s : State) : Prop where
  jobs : JobsSound s
  reserved : ∀ c : Fin 12, s.ink.channels[c].reserved = s.sumJobs fun j => j.reservation[c]
  committed : ∀ a : Fin 32,
    s.cost.accounts[a].committed = s.sumJobs fun j => if j.account = a then j.commitment else 0
  opened : ∀ a : Fin 32,
    s.cost.accounts[a].openJobs = s.sumJobs fun j => if j.account = a then 1 else 0
  prices : ∀ n : Fin 4, s.cost.prices[n].inUse = s.sumJobs fun j => if j.priceSet = n then 1 else 0
  refs : ∀ r : Fin 16, s.colour.refs[r].inUse =
    s.sumJobs fun j => if j.check.map (·.refSet) = some r then 1 else 0

/-- Except while a channel is SHORT its reservations lie within its usable volume; while it is SHORT
the printing job alone holds one (R43). -/
structure ReservationsSound (s : State) : Prop where
  ledgers : LedgersSound s
  bound : ∀ c : Fin 12, s.ink.channels[c].short = false → s.ink.channels[c].reserved ≤ s.ink.usable c
  failing : ∀ c : Fin 12, s.ink.channels[c].short = true → s.ink.usable c < s.ink.channels[c].reserved
  alone : ∀ c : Fin 12, s.ink.channels[c].short = true → ∀ (h : Nat) (j : Job), s.job? h = some j →
    0 < j.reservation[c] → s.printing.map (·.handle) = some h

/-- The figures of a roll (R107). -/
def Roll.sound : Roll → Prop
  | .empty => True
  | .mounted f => f.remaining + f.netFed = f.declared ∧ 0 < f.remaining ∧ f.declared ≤ 1000000
  | .exhausted f => f.remaining = 0 ∧ f.declared ≤ 1000000

/-- Every setting and count lies in the range the manual gives it (R25, R49, R54, R66, R73, R106,
R107, R110, R129, R147, R149, R151, R181). -/
structure FiguresSound (s : State) : Prop where
  drops : ∀ c : Fin 12, s.meter.drops[c].inRange = true
  residue : ∀ c : Fin 12, s.meter.residue[c] < 10000
  channels : ∀ c : Fin 12, s.ink.channels[c].dead ≤ 50000000 ∧
    100000 ≤ s.ink.channels[c].tolerance ∧ s.ink.channels[c].tolerance ≤ 50000000 ∧
    800 ≤ s.ink.channels[c].density ∧ s.ink.channels[c].density ≤ 1500 ∧
    s.ink.channels[c].lowThreshold ≤ 2000000000
  cals : ∀ b : Fin 24, s.ink.bays[b].cal.zero ≤ 4095 ∧ 1 ≤ s.ink.bays[b].cal.scale ∧
    s.ink.bays[b].cal.scale ≤ 1000000 ∧ s.ink.bays[b].cal.tare ≤ 2000000
  scan : s.scan.config.first ≤ s.scan.config.last ∧ 1 ≤ s.scan.config.seconds ∧
    s.scan.config.seconds ≤ 3600
  types : ∀ t : Fin 16, 1000 ≤ s.media.types[t].width ∧ s.media.types[t].width ≤ 16256 ∧
    s.media.types[t].dryBase ≤ 3600 ∧ 1 ≤ s.media.types[t].pauseLimit ∧
    s.media.types[t].pauseLimit ≤ 600
  rolls : ∀ n : Fin 2, (s.media.rolls[n]).sound
  path : 100 ≤ s.media.settings.dHead ∧ s.media.settings.dHead ≤ 20000 ∧
    s.media.settings.dHead + 100 ≤ s.media.settings.dCut ∧ s.media.settings.dCut ≤ 30000 ∧
    s.media.settings.cutTolerance ≤ 500
  limits : 100 ≤ s.media.settings.ackLimit ∧ s.media.settings.ackLimit ≤ 10000 ∧
    1000 ≤ s.media.settings.cutterTimeout ∧ s.media.settings.cutterTimeout ≤ 20000 ∧
    5000 ≤ s.media.settings.headTimeout ∧ s.media.settings.headTimeout ≤ 60000
  refs : ∀ r : Fin 16, (s.colour.refs[r]).patches.length ≤ 48 ∧
    ∀ x ∈ (s.colour.refs[r]).patches, x.inRange = true
  history : (s.colour.histSize = 64 ∨ s.colour.histSize = 128 ∨ s.colour.histSize = 256) ∧
    s.colour.history.length ≤ s.colour.histSize
  prices : ∀ n : Fin 4, (∀ c : Fin 12, (s.cost.prices[n]).ink[c] ≤ 1000000) ∧
    (∀ t : Fin 16, (s.cost.prices[n]).media[t] ≤ 10000000) ∧ (s.cost.prices[n]).cut ≤ 100000 ∧
    (s.cost.prices[n]).measurement ≤ 100000
  house : (s.cost.accounts[(0 : Fin 32)]).enabled = true
  limit : ∀ a : Fin 32, (s.cost.accounts[a]).limit < 281474976710656
  calendar : s.clock.day < 65536 ∧ s.clock.ms < Config.msPerDay

/-- The mark list: at most the head has fired, a MEASURE has one owner, every mark has an owner, and
a mark in service has fired and been captured (R113, R116). -/
structure MarksSound (s : State) : Prop where
  fired : ∀ m ∈ s.media.marks.tail, m.fired = false
  owners : ∀ m ∈ s.media.marks, m.owners ≠ [] ∧ (m.kind = .measure → m.owners.length = 1)
  service : ∀ m ∈ s.media.marks, m.service = .inService → m.fired = true ∧ m.captured.isSome = true

/-- Out of RESET the feed hold follows its reasons, and a pause period runs exactly while the hold is
TAKEN under a PRINTING copy (R36, R117, R122). -/
structure HoldSound (s : State) : Prop where
  printing : PrintingSound s
  reasons : s.pins.reset = false → s.media.hold.reasons = s.holdReasons
  free : s.pins.reset = false → (s.media.hold.state = .free ↔ s.media.hold.reasons.any = false)
  pause : s.pins.reset = false →
    (s.media.pause.isSome = true ↔ s.media.hold.state = .taken ∧ s.printing.isSome = true)

/-- A step keeps a property, in every state that has it. -/
def StepKeeps (P : State → Prop) : Prop := ∀ s t : State, P s → step s = .next t → P t

end Sys2Proof.Machine
end

