-- ==== Sys2Proof/Certificates/Slice0/Obligations.lean ====
section
/-! DEFINITION. The statements for the provers. Where a statement names a port that serves a request
(`State.serves`), the request is taken at its block; what the port refuses itself is in
`PortRefusals`, what a port held by its reset line does in `PortResets`, and what happens while RESET is
asserted in `DeviceReset`. An answer (`State.answered`) includes the bytes of value 0 that the part sends
while the request comes in (R165), in the model's record of what it sent (log 23). -/

open Sys2Proof Sys2Proof.Machine

/-! ### The step, reset, and rules over the whole part -/

/-- A step runs the command at the front of the queue, with the queue's rest. -/
def Obligations.StepRunsFront : Prop :=
  ∀ (c : Instr) (rest : List Instr) (s : State),
    step { s with pending := c :: rest } = exec c { s with pending := rest }

/-- The model's choice (log 2): on an empty queue a step is one millisecond of the time base, which
RESET holds at 0. The millisecond of day carries into the day as R181 gives. -/
def Obligations.IdleStepTicks : Prop :=
  ∀ s : State, s.pending = [] →
    (s.pins.reset = true → step s = .next s) ∧
    (s.pins.reset = false → s.clock.day < 65536 → s.clock.ms < 86400000 →
      step s = .next
        { s with
          clock :=
            { mono := s.clock.mono + 1
              day :=
                if s.clock.ms = 86399999 then (if s.clock.day = 65535 then 0 else s.clock.day + 1)
                else s.clock.day
              ms := if s.clock.ms = 86399999 then 0 else s.clock.ms + 1 } })

/-- The state after reset meets every invariant stated below. Where it uses a value that the spec
does not give for `State.reset` (the levels of the input lines, log 1; drop volumes and calibrations
as when power is first applied, log 25), that value is the model's choice. -/
def Obligations.ResetIsSound : Prop :=
  BaysFollow State.reset ∧ PoolSound State.reset ∧ PortsSound State.reset ∧
    ReservationsSound State.reset ∧ FiguresSound State.reset ∧ MarksSound State.reset ∧
    HoldSound State.reset

/-- While RESET is asserted a command moves the one input line it names, if it names one, and nothing
else, and REPLY, ATTN and CUT_GO stay deasserted (R182). That a port reset edge only moves its line
there is the model's choice (log 28). -/
def resetHolds : Prop :=
  ∀ (c : Instr) (s : State), s.pins.reset = true →
    c ≠ .deviceReset → c ≠ .resetRelease → c ≠ .powerApplied →
    let t : State := { s with pins := lineMoved c s.pins }
    exec c s = .next t ∧ t.pins.reset = true ∧
      (∀ p : Port, t.reply p = false ∧ t.attn p = false) ∧ t.cutGo = false

/-- DEVICE_RESET, RESET_RELEASE and POWER_APPLIED (R26, R49, R73, R125, R182). The model's choices here:
that the records keep their contents from the assertion of RESET to its release (log 20), that the
release raises no CUTTER_FAULT (log 34), that a repeated assertion and a release without one are
performed again (log 28), and that POWER_APPLIED writes the drop volumes and the calibrations and nothing
else (log 25). -/
def resetAssertedAndReleased : Prop :=
  (∀ s : State, ∃ t : State, exec .deviceReset s = .next t ∧
      t.pins = { s.pins with reset := true } ∧ t.clock = { mono := 0, day := 0, ms := 0 } ∧
      t.scan.running = none ∧ t.scan.timer = none ∧ t.colour.measurement = none ∧
      t.colour.dryTimer = none ∧ t.colour.headTimer = none ∧ t.media.hold.ackTimer = none ∧
      t.media.pause = none ∧ t.media.cutterTimer = none ∧
      (∀ p : Port, (t.ports.unit p).txn = .idle) ∧ t.meter = s.meter ∧ t.ink = s.ink ∧
      t.scan.samples = s.scan.samples ∧ t.store = s.store ∧ t.sched = s.sched ∧ t.cost = s.cost ∧
      t.media.marks = s.media.marks ∧ t.media.pos = s.media.pos ∧ t.media.rolls = s.media.rolls ∧
      t.pending = s.pending) ∧
  (∀ s : State, exec .resetRelease s = .next
      { store :=
          { jobs := Vector.replicate 32 none, freeCopies := 1024, nextSeq := 0, waitList := [] }
        ink :=
          { channels := Vector.replicate 12 Channel.atReset
            bays := tabulate 24 fun b =>
              { state := if s.pins.present[b] then .inserted else .empty
                uncertain := false, cart := none, removal := none, cal := s.ink.bays[b].cal } }
        meter := { drops := s.meter.drops, residue := Vector.replicate 12 0, confirmed := false }
        scan := ScanUnit.atReset
        sched := Schedule.atReset
        media := { Media.atReset true with cutter := if s.pins.cutHome then .ready else .fault }
        colour := ColourUnit.atReset
        cost := CostUnit.atReset
        ports := Ports.atReset
        clock := { mono := 0, day := 0, ms := 0 }
        pins := { s.pins with reset := false }
        pending := s.pending }) ∧
  (∀ s : State, ∃ t : State, exec .powerApplied s = .next t ∧
      t = { s with
            meter := { s.meter with drops := t.meter.drops }
            ink := { s.ink with bays := t.ink.bays } } ∧
      (∀ c : Fin 12, t.meter.drops[c] = { small := 5, medium := 5, large := 5 }) ∧
      (∀ b : Fin 24, t.ink.bays[b] =
        { s.ink.bays[b] with cal := { zero := 0, scale := 1000, tare := 0, calibrated := false } }))

/-- What RESET holds while it is asserted, what its assertion abandons, what its release leaves, and
what power first applied writes (R26, R49, R73, R125, R182; logs 20, 25, 28 and 34). -/
def Obligations.DeviceReset : Prop := resetHolds ∧ resetAssertedAndReleased

/-- Every change of a standing order, but for one that the release of RESET makes, sets the order change
flag in its event (R170). -/
def Obligations.OrderChangesNoted : Prop :=
  ∀ (c : Instr) (s t : State), exec c s = .next t → c ≠ .resetRelease →
    (t.holdOrder ≠ s.holdOrder ∨ t.sched.abort ≠ s.sched.abort ∨ t.feedTo ≠ s.feedTo ∨
      t.capOrder ≠ s.capOrder) →
    t.ports.orderChange = true

/-- Who writes the drop volumes, the path position, the calibrations and the monotonic count (R49,
R111, R73, R180). Only RESET sets the count back, and no request changes it. A BAD_FRAME whose bytes pass
the checks is the request they spell (log 6). The model's choices here: that an expiry moves the count
(log 3), that DEVICE_RESET leaves the position, the drop volumes and the calibrations as they are and the
release sets the position (log 20), and that POWER_APPLIED does not (log 25). -/
def Obligations.SoleWriters : Prop :=
  ∀ (c : Instr) (s t : State), exec c s = .next t →
    (t.meter.drops ≠ s.meter.drops →
      c = .powerApplied ∨ (∃ p tag pl, c = .declareDrops p tag pl) ∨
        ∃ p bytes, c = .badFrame p bytes ∧ checkFrame bytes = .good .declareDrops) ∧
    (t.media.pos ≠ s.media.pos → c = .resetRelease ∨ ∃ d, c = .feedStep d) ∧
    ((∃ b : Fin 24, t.ink.bays[b].cal ≠ s.ink.bays[b].cal) →
      c = .powerApplied ∨ (∃ p tag pl, c = .setBayCal p tag pl) ∨
        ∃ p bytes, c = .badFrame p bytes ∧ checkFrame bytes = .good .setBayCal) ∧
    (t.clock.mono < s.clock.mono → c = .deviceReset ∨ c = .resetRelease) ∧
    (t.clock.mono ≠ s.clock.mono → c = .deviceReset ∨ c = .resetRelease ∨
      c ∈ [.scanIntervalExpiry, .holdAckExpiry, .pauseExpiry, .cutterTimerExpiry, .dryWaitExpiry,
        .headTimerExpiry])

/-! ### Invariants that every step keeps -/

/-- Every declared cartridge balances, and bay states, cartridges and active bays agree (R26, R31,
R45, R56, R57). -/
def Obligations.StepKeepsBays : Prop := StepKeeps BaysSound

/-- Copy records held by jobs plus free copy records always number 1,024 (R2). -/
def Obligations.StepKeepsPool : Prop := StepKeeps PoolSound

/-- Queues, counters, levels and fault records of the ports keep their bounds (R167, R171 to R175). -/
def Obligations.StepKeepsPorts : Prop := StepKeeps PortsSound

/-- At most one copy is PRINTING, and it is the copy of the current grant (R95). -/
def Obligations.StepKeepsPrinting : Prop := StepKeeps PrintingSound

/-- The table of 1.4, the copy counts and the wait list hold of every job, and the reserved totals,
committed figures, open job counts and locks equal their sums over the open jobs (R8, R16, R25, R39,
R129, R150, R151, R156). -/
def Obligations.StepKeepsLedgers : Prop := StepKeeps LedgersSound

/-- Except while a channel is SHORT its reservations lie within its usable volume, and while it is
SHORT only the printing job holds one (R43). -/
def Obligations.StepKeepsReservations : Prop := StepKeeps ReservationsSound

/-- The settings and counts named in `FiguresSound` stay in their ranges, and the roll figures balance
(R107). -/
def Obligations.StepKeepsFigures : Prop := StepKeeps FiguresSound

/-- Only the head of the mark list fires and is served; a MEASURE has one owner (R113, R116). -/
def Obligations.StepKeepsMarks : Prop := StepKeeps MarksSound

/-- The hold follows its reasons, and the pause follows the hold and the printing copy (R36, R117,
R122). -/
def Obligations.StepKeepsHold : Prop := StepKeeps HoldSound

/-! ### Frames and ports -/

/-- Every request frame reads back: its check passes, and its kind, header and payload are the
request's (R167, R184, 11.2). -/
def Obligations.FramesReadBack : Prop :=
  ∀ (k : ReqKind) (tag : Byte) (pl : List Byte), pl.length ≤ 1020 →
    let bytes := withCheck (k.code :: tag :: (leBytes 2 pl.length ++ pl))
    checkFrame bytes = .good k ∧ headerOf bytes = requestHeader k tag pl ∧ framePayload bytes = pl

/-- What the port refuses itself, with no effect: a kind that the catalogue does not list for the port,
and on a FAULTED port every kind but READ_FAULTS and CLEAR_FAULTS (R168, 9.3). -/
def Obligations.PortRefusals : Prop :=
  ∀ (s : State) (k : ReqKind) (p : Port) (tag : Byte) (pl : List Byte), s.pins.reset = false →
    s.portHeld p = false → (s.ports.unit p).txn = .idle → pl.length ≤ 1020 →
    (k.servedOn p = false → exec (k.command p tag pl) s =
      .next (s.answered p k tag pl (Reply.refuse .notThisPort))) ∧
    (k.servedOn p = true → (s.ports.unit p).state = .faulted → k ≠ .readFaults → k ≠ .clearFaults →
      exec (k.command p tag pl) s = .next (s.answered p k tag pl (Reply.refuse .portFaulted)))

/-- A frame that fails a check is answered BAD_FRAME with its fault noted, bytes of value 0 being sent
while it comes in; where a response stands unread it is dropped, with REPLY_DROPPED noted after the
frame's fault, in the order of the fault table (log 33); the eighth in a row records CONSECUTIVE_BAD as
well, which moves a NORMAL port to FAULTED while it is unmasked and blocking, and an Engine port that
faults makes the engine lost (R165, R167, R169, R174, R175, R177, R102). -/
def badFrames : Prop :=
  ∀ (s : State) (p : Port) (bytes : List Byte) (k : FaultKind), s.pins.reset = false →
    s.portHeld p = false → transferOk bytes = true → checkFrame bytes = .bad k → s.stops p k = false →
    let h := headerOf bytes
    let answer (n : Nat) (u : PortUnit) : PortUnit :=
      { u with
        badCount := n
        sent := List.replicate bytes.length 0
        txn := .responseReady { kind := h.kind, tag := h.tag, code := .badFrame, payload := [] } }
    ((s.ports.unit p).txn = .idle → (s.ports.unit p).badCount < 7 → exec (.badFrame p bytes) s = .next
        { s with
          ports := s.ports.modifyUnit p fun u => answer (u.badCount + 1) (u.note k (some h) s.now) }) ∧
    (∀ r, (s.ports.unit p).txn = .responseReady r → s.stops p .replyDropped = false →
      (s.ports.unit p).badCount < 7 → exec (.badFrame p bytes) s = .next
        { s with
          ports := s.ports.modifyUnit p fun u => answer (u.badCount + 1)
            ((u.note k (some h) s.now).note .replyDropped (some h) s.now) }) ∧
    ((s.ports.unit p).txn = .idle → (s.ports.unit p).badCount = 7 → s.stops p .consecutiveBad = true →
      ∃ t : State, exec (.badFrame p bytes) s = .next t ∧ (t.ports.unit p).state = .faulted ∧
        (t.ports.unit p).badCount = 0 ∧
        (t.ports.unit p).status[FaultKind.index .consecutiveBad].recorded = true ∧
        (t.ports.unit p).capture.isSome = true ∧
        t.ports.summary = some (s.ports.summary.getD
          { port := p, kind := .consecutiveBad, time := s.now }) ∧
        t.ports.summaryMultiple = (s.ports.summaryMultiple || s.ports.summary.isSome) ∧
        (p ≠ .engine → t = { s with ports := t.ports }) ∧ (p = .engine → EngineLost s t))

/-- OVERLAP discards a frame that ends while a request is in service; and a request of any kind that
ends over an unread response drops it with REPLY_DROPPED, and is then handled as if the port had been
IDLE (R165, R169; the meaning of OVERLAP whatever the transaction state is log 5). -/
def overlapsAndDroppedReplies : Prop :=
  (∀ (s : State) (p : Port) (bytes : List Byte), s.pins.reset = false → s.portHeld p = false →
    transferOk bytes = true → s.stops p .overlap = false →
    exec (.overlap p bytes) s = .next
      { s with
        ports := s.ports.modifyUnit p fun u =>
          { u.note .overlap (some (headerOf bytes)) s.now with
            sent := List.replicate bytes.length 0 } }) ∧
  (∀ (s : State) (k : ReqKind) (p : Port) (tag : Byte) (pl : List Byte) (r : Response),
    s.pins.reset = false → s.portHeld p = false → pl.length ≤ 1020 →
    (s.ports.unit p).txn = .responseReady r → s.stops p .replyDropped = false →
    let dropped : State :=
      { s with
        ports := s.ports.modifyUnit p fun u =>
          { u.note .replyDropped (some (requestHeader k tag pl)) s.now with txn := .idle } }
    exec (k.command p tag pl) s = exec (k.command p tag pl) dropped)

/-- BAD_FRAME, OVERLAP and a dropped reply, each with its fault (R167, R169, R174, R175). -/
def Obligations.FrameFaults : Prop := badFrames ∧ overlapsAndDroppedReplies

/-- A read transfer sends the response frame, or the idle frame, from its first byte, then zeros; a
response read to its end is consumed; on the Engine port the order word of the moment goes with every
frame and the order change flag is cleared (R166, R170, 11.2). `sent` is the model's record (log 23). -/
def Obligations.ReadTransfers : Prop :=
  ∀ (s : State) (p : Port) (count : Nat), s.pins.reset = false → s.portHeld p = false → 0 < count →
    let word := if p = .engine then s.orderWord else []
    let frame :=
      match (s.ports.unit p).txn with
      | .responseReady r => frameOut r.kind r.tag r.code (r.payload ++ word)
      | _ => frameOut 0 0 .ok word
    let whole := match (s.ports.unit p).txn with
      | .responseReady _ => frame.length ≤ count
      | _ => False
    ∃ t : State, exec (.readTransfer p count) s = .next t ∧ t = { s with ports := t.ports } ∧
      (∀ q : Port, q ≠ p → t.ports.unit q = s.ports.unit q) ∧
      t.ports.unit p =
        { s.ports.unit p with txn := (t.ports.unit p).txn, sent := (t.ports.unit p).sent } ∧
      (t.ports.unit p).sent.length = count ∧
      (∀ i : Nat, i < count → (t.ports.unit p).sent.getD i 0 = frame.getD i 0) ∧
      (whole → (t.ports.unit p).txn = .idle ∧ t.reply p = false) ∧
      (¬ whole → (t.ports.unit p).txn = (s.ports.unit p).txn) ∧
      t.ports.orderChange = (s.ports.orderChange && p != .engine) ∧
      t.ports.summary = s.ports.summary ∧ t.ports.summaryMultiple = s.ports.summaryMultiple

/-- A reset of the Job or Desk port reaches nothing beyond its own port unit; a release only moves
the line (R179). -/
def jobAndDeskReset : Prop :=
  (∀ (s : State) (p : Port), s.pins.reset = false → p ≠ .engine →
    exec (.portReset p) s = .next
      { s with
        pins := s.pins.setPortReset p true
        ports := s.ports.modifyUnit p fun u =>
          { txn := .idle, queue := [], wrapped := false, levels := defaultLevels p, threshold := 3,
            status := noFaults, capture := none, multiple := false, state := .normal, badCount := 0,
            policy := u.policy, sent := u.sent } }) ∧
  (∀ (s : State) (p : Port), exec (.portResetRelease p) s =
      .next { s with pins := s.pins.setPortReset p false })

/-- A reset of the Engine port empties its unit, sets the order change flag and makes the engine lost
(R27, R50, R68, R85, R95, R101, R102, R120, R179). -/
def engineReset : Prop :=
  ∀ s : State, s.pins.reset = false →
    ∃ t : State, exec (.portReset .engine) s = .next t ∧ EngineLost s t ∧
      t.ports.orderChange = true ∧
      t.ports.engine =
        { txn := .idle, queue := [], wrapped := false, levels := defaultLevels .engine,
          threshold := 3, status := noFaults, capture := none, multiple := false, state := .normal,
          badCount := 0, policy := s.ports.engine.policy, sent := s.ports.engine.sent } ∧
      t.sched = { s.sched with grant := t.sched.grant, abort := none, power := t.sched.power,
                               pendingCap := t.sched.pendingCap } ∧
      (∀ r : CopyRef, s.printing = some r →
        t.sched.pendingCap = false ∧
        t.sched.power = (if s.sched.pendingCap then .capped else s.sched.power) ∧
        (∀ j c j' c', s.attempt? r = some (j, c) → t.attempt? r = some (j', c') →
          c'.record.endCause = some .engineLost ∧
          c'.record.ended = some { time := s.now, pos := s.media.pos })) ∧
      (s.printing = none → t.sched.power = s.sched.power ∧ t.sched.pendingCap = s.sched.pendingCap) ∧
      (s.scan.running = none → t.scan.running = some
        { kind := .desk, first := s.scan.config.first, last := s.scan.config.last, start := s.now,
          qualifying := true, next := s.scan.config.first.val }) ∧
      t.pins = { s.pins with engineReset := true } ∧ t.clock = s.clock ∧ t.pending = s.pending ∧
      t.inkSettings = s.inkSettings ∧ t.pathSettings = s.pathSettings ∧ t.locked = s.locked ∧
      t.roster = s.roster ∧ t.media.pos = s.media.pos ∧ t.media.rolls = s.media.rolls

/-- A port held by its reset line ignores every transfer; no command but its own reset again (the
model's choice of log 28), or the release of RESET, changes its queue, its fault record or its port
state; and its ATTN stays deasserted (R179). -/
def heldPort : Prop :=
  ∀ (s : State) (p : Port), s.portHeld p = true →
    (∀ (k : ReqKind) (tag : Byte) (pl : List Byte), exec (k.command p tag pl) s = .next s) ∧
    (∀ bytes : List Byte, exec (.badFrame p bytes) s = .next s ∧ exec (.overlap p bytes) s = .next s) ∧
    (∀ count : Nat, exec (.readTransfer p count) s = .next s) ∧
    (∀ (c : Instr) (t : State), exec c s = .next t → c ≠ .portReset p → c ≠ .resetRelease →
      (t.ports.unit p).queue = (s.ports.unit p).queue ∧
      (t.ports.unit p).wrapped = (s.ports.unit p).wrapped ∧
      (t.ports.unit p).status = (s.ports.unit p).status ∧
      (t.ports.unit p).capture = (s.ports.unit p).capture ∧
      (t.ports.unit p).multiple = (s.ports.unit p).multiple ∧
      (t.ports.unit p).state = (s.ports.unit p).state) ∧
    s.attn p = false

/-- The resets of the three ports, and a port held by its reset line (R102, R179). -/
def Obligations.PortResets : Prop := jobAndDeskReset ∧ engineReset ∧ heldPort

/-! ### Jobs -/

/-- QUERY_JOB, HOLD_JOB and RELEASE_JOB on an open job (R17, R21). The bytes of QUERY_JOB's response rest
on the model's choices of logs 8 and 36. -/
def queryHoldRelease : Prop :=
  ∀ (s : State) (p : Port) (tag : Byte) (h : Fin 32) (j : Job), s.store.jobs[h] = some j →
    let b : List Byte := [BitVec.ofNat 8 h.val]
    let held (v : Bool) : State :=
      { s with
        store := { s.store with jobs := s.store.jobs.set h.val (some { j with held := v }) h.isLt } }
    (s.serves .queryJob p b = true → exec (.queryJob p tag b) s =
      .next (s.answered p .queryJob tag b (Reply.ok (jobReport j)))) ∧
    (s.serves .holdJob p b = true → exec (.holdJob p tag b) s =
      .next (if j.state = .closed then s.answered p .holdJob tag b (Reply.refuse .wrongState)
        else (held true).answered p .holdJob tag b (Reply.ok []))) ∧
    (s.serves .releaseJob p b = true → exec (.releaseJob p tag b) s =
      .next (if j.state = .closed then s.answered p .releaseJob tag b (Reply.refuse .wrongState)
        else (held false).answered p .releaseJob tag b (Reply.ok [])))

/-- A handle of 32 or above, and a handle whose entry is free, are refused UNKNOWN_HANDLE with no
effect (R1). -/
def unknownHandles : Prop :=
  ∀ (s : State) (p : Port) (tag h : Byte), s.job? h.toNat = none →
    (s.serves .queryJob p [h] = true → exec (.queryJob p tag [h]) s =
      .next (s.answered p .queryJob tag [h] (Reply.refuse .unknownHandle))) ∧
    (s.serves .holdJob p [h] = true → exec (.holdJob p tag [h]) s =
      .next (s.answered p .holdJob tag [h] (Reply.refuse .unknownHandle))) ∧
    (s.serves .releaseJob p [h] = true → exec (.releaseJob p tag [h]) s =
      .next (s.answered p .releaseJob tag [h] (Reply.refuse .unknownHandle))) ∧
    (s.serves .cancelJob p [h] = true → exec (.cancelJob p tag [h]) s =
      .next (s.answered p .cancelJob tag [h] (Reply.refuse .unknownHandle))) ∧
    (s.serves .collectJob p [h] = true → exec (.collectJob p tag [h]) s =
      .next (s.answered p .collectJob tag [h] (Reply.refuse .unknownHandle)))

/-- The requests that name a job by its handle: QUERY_JOB, HOLD_JOB and RELEASE_JOB on an open job, and
every such request on a handle that names none (R1, R17, R21). -/
def Obligations.JobHandles : Prop := queryHoldRelease ∧ unknownHandles

/-- COLLECT_JOB frees the entry and the copy records of a CLOSED job and its holds on the account,
the price set and the reference set; in another state it is refused (R1, R2, R22, R163). The bytes of its
response rest on the model's reading of log 8. -/
def Obligations.CollectFreesTheJob : Prop :=
  ∀ (s : State) (tag : Byte) (h : Fin 32) (j : Job), s.store.jobs[h] = some j →
    let b : List Byte := [BitVec.ofNat 8 h.val]
    let a := s.cost.accounts[j.account]
    let a' : Account := { a with openJobs := a.openJobs - 1 }
    let ps := s.cost.prices[j.priceSet]
    s.serves .collectJob .desk b = true →
    (j.state ≠ .closed → exec (.collectJob .desk tag b) s =
      .next (s.answered .desk .collectJob tag b (Reply.refuse .wrongState))) ∧
    (j.state = .closed → exec (.collectJob .desk tag b) s = .next (State.answered .desk .collectJob tag b
      (Reply.ok (collectReport h.val j a'))
      { s with
        store :=
          { s.store with
            jobs := s.store.jobs.set h.val none h.isLt
            freeCopies := s.store.freeCopies + j.copies.length }
        cost :=
          { s.cost with
            accounts := s.cost.accounts.set j.account.val a' j.account.isLt
            prices := s.cost.prices.set j.priceSet.val { ps with inUse := ps.inUse - 1 }
              j.priceSet.isLt }
        colour :=
          match j.check with
          | none => s.colour
          | some k =>
            { s.colour with
              refs := s.colour.refs.set k.refSet.val
                { s.colour.refs[k.refSet] with inUse := (s.colour.refs[k.refSet]).inUse - 1 }
                k.refSet.isLt } }))

/-- A submission whose estimate volumes are all 0, under a price set whose prices are all 0. -/
def costsNothing (s : State) (x : Submission) : Prop :=
  let ps := s.cost.prices[x.priceSet]
  (∀ c : Fin 12, x.estimate[c] = 0 ∧ ps.ink[c] = 0) ∧ (∀ m : Fin 16, ps.media[m] = 0) ∧
    ps.cut = 0 ∧ ps.measurement = 0

/-- SUBMIT_JOB that passes every check is admitted to the lowest free entry, QUEUED with its
reservation where its ask fits and WAIT_INK otherwise (R1 to R3, R7, R37, R38, R150, R154, R155). That
R154 admits a job that costs nothing to an account already past its limit is the model's reading
(log 39). -/
def Obligations.SubmitAdmits : Prop :=
  ∀ (s : State) (tag : Byte) (pl : List Byte) (x : Submission) (h : Fin 32),
    s.serves .submitJob .job pl = true → readSubmission s pl = some x →
    s.store.jobs[h] = none → (∀ i : Fin 32, i < h → (s.store.jobs[i]).isSome = true) →
    x.copies ≤ s.store.freeCopies →
    (x.account = 0 ∨ costsNothing s x ∨ (s.cost.accounts[x.account]).charged + (s.cost.accounts[x.account]).committed +
      s.jobEstimate x ≤ (s.cost.accounts[x.account]).limit) →
    let ask (c : Fin 12) : Nat :=
      x.copies * x.estimate[c] + (x.copies * x.estimate[c] * x.margin + 99) / 100
    ∃ (t : State) (j : Job), exec (.submitJob .job tag pl) s = .next t ∧
      t.store.jobs[h] = some j ∧ j.sameButInk (newJob s x) ∧
      (∀ i : Fin 32, i ≠ h → t.store.jobs[i] = s.store.jobs[i]) ∧
      t.store.freeCopies + x.copies = s.store.freeCopies ∧ t.store.nextSeq = s.store.nextSeq + 1 ∧
      ((∀ c, ask c ≤ s.ink.free c) →
        j.state = .queued ∧ j.reservationHeld = true ∧ (∀ c : Fin 12, j.reservation[c] = ask c) ∧
        t.store.waitList = s.store.waitList ∧
        (∀ c : Fin 12, t.ink.channels[c] =
          { s.ink.channels[c] with reserved := s.ink.channels[c].reserved + ask c })) ∧
      ((∃ c, s.ink.free c < ask c) →
        j.state = .waitInk ∧ j.reservationHeld = false ∧
        (∀ c : Fin 12, j.reservation[c] = 0) ∧ t.ink = s.ink ∧
        (∀ k, k ∈ t.store.waitList ↔ k = h ∨ k ∈ s.store.waitList)) ∧
      t.hasAnswer .job .submitJob tag (Reply.ok (leBytes 1 h.val ++ leBytes 4 s.store.nextSeq.toNat ++
        leBytes 1 (if j.state = .queued then 1 else 0) ++
        leBytes 1 (s.sched.classMap[x.cls]).val ++ leBytes 6 (s.jobEstimate x))) ∧
      (t.cost.accounts[x.account]).committed =
        (s.cost.accounts[x.account]).committed + s.jobEstimate x ∧
      (t.cost.accounts[x.account]).openJobs = (s.cost.accounts[x.account]).openJobs + 1 ∧
      (t.cost.accounts[x.account]).charged = (s.cost.accounts[x.account]).charged ∧
      (∀ i : Fin 32, i ≠ x.account → t.cost.accounts[i] = s.cost.accounts[i]) ∧
      (t.cost.prices[x.priceSet]).inUse = (s.cost.prices[x.priceSet]).inUse + 1 ∧
      (∀ k, x.check = some k →
        (t.colour.refs[k.refSet]).inUse = (s.colour.refs[k.refSet]).inUse + 1) ∧
      t.ink.bays = s.ink.bays ∧ t.meter = s.meter ∧ t.scan = s.scan ∧ t.sched = s.sched ∧
      t.media = s.media ∧ t.clock = s.clock ∧ t.outside = s.outside

/-- SUBMIT_JOB is refused, changing nothing, by the first stage that fails: values, room, credit, a job
that costs nothing being refused no credit (R4 to R6, R154, R155; log 39). -/
def submitRefusals : Prop :=
  ∀ (s : State) (tag : Byte) (pl : List Byte), s.serves .submitJob .job pl = true →
    let refused (c : ResultCode) := s.answered .job .submitJob tag pl (Reply.refuse c)
    (readSubmission s pl = none → exec (.submitJob .job tag pl) s = .next (refused .badValue)) ∧
    (∀ x, readSubmission s pl = some x →
      ((∀ h : Fin 32, (s.store.jobs[h]).isSome = true) ∨ s.store.freeCopies < x.copies) →
      exec (.submitJob .job tag pl) s = .next (refused .noRoom)) ∧
    (∀ (x : Submission) (h : Fin 32), readSubmission s pl = some x → s.store.jobs[h] = none →
      x.copies ≤ s.store.freeCopies → x.account ≠ 0 → ¬ costsNothing s x →
      (s.cost.accounts[x.account]).limit < (s.cost.accounts[x.account]).charged +
        (s.cost.accounts[x.account]).committed + s.jobEstimate x →
      exec (.submitJob .job tag pl) s = .next (refused .credit))

/-- CANCEL_JOB leaves no copy PENDING (the PENDING copies of a job that is not printing become
CANCELLED), releases the reservation whole, takes the job off the wait list and ends its printing copy;
the job is CLOSING, or CLOSED where every copy is terminal. On a CLOSED job it is refused (R12, R18,
R19, R41, R101). The bytes of its response rest on the model's reading of log 8. -/
def Obligations.CancelEndsTheJob : Prop :=
  ∀ (s : State) (p : Port) (tag : Byte) (h : Fin 32) (j : Job), s.store.jobs[h] = some j →
    let b : List Byte := [BitVec.ofNat 8 h.val]
    s.serves .cancelJob p b = true →
    (j.state = .closed → exec (.cancelJob p tag b) s =
      .next (s.answered p .cancelJob tag b (Reply.refuse .wrongState))) ∧
    (j.state ≠ .closed → ∃ (t : State) (j' : Job), exec (.cancelJob p tag b) s = .next t ∧
      t.store.jobs[h] = some j' ∧ j'.cancelled = true ∧ j'.reservationHeld = false ∧
      j'.reservation = Vector.replicate 12 0 ∧ j'.countIn .pending = 0 ∧ h ∉ t.store.waitList ∧
      j'.state = (if j'.allTerminal then .closed else .closing) ∧
      t.hasAnswer p .cancelJob tag (Reply.ok (cancelReport j')) ∧
      (s.printing.map (·.handle) ≠ some h.val → t.sched = s.sched ∧
        ∀ n c, j.copy? n = some c → c.state = .pending →
          ∃ c', j'.copy? n = some c' ∧ c'.state = .cancelled) ∧
      (∀ r : CopyRef, s.printing = some r → r.handle = h.val →
        t.printing = none ∧ t.sched.abort = some r ∧
        ∀ c i' c', s.attempt? r = some (j, c) → t.attempt? r = some (i', c') →
          c'.record.endCause = some .cancelled ∧
          c'.record.ended = some { time := s.now, pos := s.media.pos }) ∧
      SettingsKept s t ∧ t.meter = s.meter ∧ t.scan = s.scan ∧ t.ink.bays = s.ink.bays ∧
      t.media.pos = s.media.pos ∧ t.media.rolls = s.media.rolls ∧ t.clock = s.clock ∧
      t.outside = s.outside)

/-! ### Metering -/

/-- DECLARE_DROPS: the 36 values replace the table and drops-confirmed is set; a wrong length or a
value out of range is refused BAD_VALUE, and a request under a PRINTING copy WRONG_STATE (R51). -/
def Obligations.DeclareDrops : Prop :=
  ∀ (s : State) (tag : Byte),
    (∀ pl : List Byte, s.serves .declareDrops .engine pl = true → pl.length ≠ 72 →
      exec (.declareDrops .engine tag pl) s =
        .next (s.answered .engine .declareDrops tag pl (Reply.refuse .badValue))) ∧
    (∀ d : Vector DropVolumes 12,
      (∀ c : Fin 12, (d[c]).small < 65536 ∧ (d[c]).medium < 65536 ∧ (d[c]).large < 65536) →
      s.serves .declareDrops .engine (tableBytes dropBytes d) = true →
      exec (.declareDrops .engine tag (tableBytes dropBytes d)) s = .next
        (if allOf 12 fun c => (d[c]).inRange then
          if s.printing.isSome then
            s.answered .engine .declareDrops tag (tableBytes dropBytes d) (Reply.refuse .wrongState)
          else
            State.answered .engine .declareDrops tag (tableBytes dropBytes d) (Reply.ok (tableBytes dropBytes d))
              { s with meter := { s.meter with drops := d, confirmed := true } }
        else s.answered .engine .declareDrops tag (tableBytes dropBytes d) (Reply.refuse .badValue)))

/-- R54, the conversion of a report. -/
def Obligations.Conversion : Prop :=
  ∀ (m : Metering) (counts : Fin 12 → Nat × Nat × Nat) (c : Fin 12),
    (m.drops[c]).small ≤ 1000 → (m.drops[c]).medium ≤ 1000 → (m.drops[c]).large ≤ 1000 →
    m.residue[c] < 10000 → (counts c).1 ≤ 16777215 → (counts c).2.1 ≤ 16777215 →
    (counts c).2.2 ≤ 16777215 →
    let S := (counts c).1 * (m.drops[c]).small + (counts c).2.1 * (m.drops[c]).medium +
      (counts c).2.2 * (m.drops[c]).large
    let T := S + m.residue[c]
    let V := (wholeVolumes m counts)[c]
    S ≤ 50331645000 ∧ T ≤ 50331654999 ∧ V = T / 10000 ∧ V ≤ 5033165 ∧
      (newResidues m counts)[c] = T - V * 10000 ∧ (newResidues m counts)[c] ≤ 9999 ∧
      (∀ e : Ev, e.st.meter = m →
        (drawReport counts e).st.meter = { m with residue := newResidues m counts }) ∧
      (counts c = (0, 0, 0) → V = 0 ∧ (newResidues m counts)[c] = m.residue[c]) ∧
      (V = 0 → ∀ (e : Ev) (r : CopyRef) (v : Vector Nat 12), v[c] = V →
        drawChannel c V e = e ∧
        ∀ j k j' k', e.st.attempt? r = some (j, k) → k.record.consumption[c] < 281474976710656 →
          (drawdown r.handle v (consume r v e)).st.attempt? r = some (j', k') →
          k'.record.consumption[c] = k.record.consumption[c] ∧ j'.reservation[c] = j.reservation[c])

/-- What every report does: its volumes leave the bays or enter the overdraw, whole (R54, R56, R57,
R58), and the frame of a report. -/
def reportFrame (s t : State) (counts : Fin 12 → Nat × Nat × Nat) : Prop :=
  (∀ c : Fin 12, s.ink.channels[c].overdraw + (wholeVolumes s.meter counts)[c] < 281474976710656 →
    t.ink.spent c = s.ink.spent c + (wholeVolumes s.meter counts)[c]) ∧
  t.meter = { s.meter with residue := newResidues s.meter counts } ∧ SettingsKept s t ∧
  t.scan = s.scan ∧ t.sched = s.sched ∧ t.colour = s.colour ∧ t.media.sameButHold s.media ∧
  t.clock = s.clock ∧ t.outside = s.outside

/-- A swath taken while the hold is TAKEN is noted as SWATH_WHILE_HELD, and one taken otherwise is not
(R52, R121). -/
def notedWhileHeld (s t : State) : Prop :=
  t.ports.engine.status[FaultKind.index .swathWhileHeld] =
    if s.media.hold.state = .taken then
      (s.ports.engine.status[FaultKind.index .swathWhileHeld]).note
    else s.ports.engine.status[FaultKind.index .swathWhileHeld]

/-- A SWATH_REPORT for the printing attempt: its volumes are added to the attempt and drawn down from
its job's reservation, with SWATH_WHILE_HELD noted while the hold is TAKEN (R52, R59, R60, R64, R121). -/
def Obligations.SwathOfPrintingCopy : Prop :=
  ∀ (s : State) (tag : Byte) (pl : List Byte) (j : Job) (k : CopyRecord),
    s.serves .swathReport .engine pl = true → pl.length = 111 → s.printing = some (refAt pl 0) →
    s.attempt? (refAt pl 0) = some (j, k) →
    (s.media.hold.state = .taken → s.stops .engine .swathWhileHeld = false) →
    (∀ h ∈ s.store.waitList, h.val ≠ (refAt pl 0).handle) →
    let v := wholeVolumes s.meter (dropCounts pl 3)
    ∃ (t : State) (j' : Job) (k' : CopyRecord), exec (.swathReport .engine tag pl) s = .next t ∧
      t.hasAnswer .engine .swathReport tag (Reply.ok (0 :: volumes 4 v)) ∧
      t.attempt? (refAt pl 0) = some (j', k') ∧ k'.state = k.state ∧
      k'.record.endCause = k.record.endCause ∧ k'.record.ended = k.record.ended ∧
      (∀ c : Fin 12, k'.record.consumption[c] = add48 k.record.consumption[c] v[c] ∧
        j'.reservation[c] = j.reservation[c] - v[c]) ∧
      t.cost = s.cost ∧ notedWhileHeld s t ∧ reportFrame s t (dropCounts pl 3)

/-- A report that draws down no reservation: where every channel's reserved total stays within the usable
volume that the draw leaves, so that nothing is trimmed, every reservation and every reserved total is as
before (R42, R61 to R63). -/
def drawsDownNothing (s t : State) : Prop :=
  (∀ c : Fin 12, s.ink.channels[c].reserved ≤ t.ink.usable c) → reservationsKept s t

/-- A SWATH_REPORT for an ended attempt raises its consumption; one that names no such attempt is stray
ink, charged to the house account, with a STALE_REF fault; neither draws down a reservation, and
SWATH_WHILE_HELD is noted while the hold is TAKEN (R59, R61, R62, R121, R162). -/
def otherSwaths : Prop :=
  ∀ (s : State) (tag : Byte) (pl : List Byte), s.serves .swathReport .engine pl = true →
    pl.length = 111 → s.printing ≠ some (refAt pl 0) →
    (s.media.hold.state = .taken → s.stops .engine .swathWhileHeld = false) →
    let v := wholeVolumes s.meter (dropCounts pl 3)
    (∀ j k, s.attempt? (refAt pl 0) = some (j, k) → k.state = .finishing →
      ∃ (t : State) (j' : Job) (k' : CopyRecord), exec (.swathReport .engine tag pl) s = .next t ∧
        t.hasAnswer .engine .swathReport tag (Reply.ok (1 :: volumes 4 v)) ∧
        t.attempt? (refAt pl 0) = some (j', k') ∧ k'.state = .finishing ∧
        k'.record.endCause = k.record.endCause ∧ k'.record.ended = k.record.ended ∧
        (∀ c : Fin 12, k'.record.consumption[c] = add48 k.record.consumption[c] v[c]) ∧
        t.cost = s.cost ∧ drawsDownNothing s t ∧ notedWhileHeld s t ∧
        reportFrame s t (dropCounts pl 3)) ∧
    ((∀ j k, s.attempt? (refAt pl 0) = some (j, k) → k.state ≠ .finishing) →
      s.stops .engine .staleRef = false →
      ∃ t : State, exec (.swathReport .engine tag pl) s = .next t ∧
        t.hasAnswer .engine .swathReport tag (Reply.ok (2 :: volumes 4 v)) ∧
        t.ports.engine.status[FaultKind.index .staleRef] =
          (s.ports.engine.status[FaultKind.index .staleRef]).note ∧
        t.cost.strayTotal = add64 s.cost.strayTotal (inkCost s.cost.prices[(0 : Fin 4)] v) ∧
        (t.cost.accounts[(0 : Fin 32)]).charged =
          add64 (s.cost.accounts[(0 : Fin 32)]).charged (inkCost s.cost.prices[(0 : Fin 4)] v) ∧
        (∀ a : Fin 32, a ≠ 0 → t.cost.accounts[a] = s.cost.accounts[a]) ∧
        t.cost.maintTotal = s.cost.maintTotal ∧ drawsDownNothing s t ∧ notedWhileHeld s t ∧
        reportFrame s t (dropCounts pl 3))

/-- A MAINT_REPORT is drawn as a swath is and charged to the house account, draws down no reservation
and records no fault (R53, R63, R64, R162); a report of another length has no effect (R52, R53). -/
def maintenanceReports : Prop :=
  ∀ (s : State) (tag : Byte) (pl : List Byte),
    (s.serves .maintReport .engine pl = true → pl.length = 108 →
      let v := wholeVolumes s.meter (dropCounts pl 0)
      ∃ t : State, exec (.maintReport .engine tag pl) s = .next t ∧
        t.hasAnswer .engine .maintReport tag (Reply.ok (volumes 4 v)) ∧
        t.cost.maintTotal = add64 s.cost.maintTotal (inkCost s.cost.prices[(0 : Fin 4)] v) ∧
        (t.cost.accounts[(0 : Fin 32)]).charged =
          add64 (s.cost.accounts[(0 : Fin 32)]).charged (inkCost s.cost.prices[(0 : Fin 4)] v) ∧
        (∀ a : Fin 32, a ≠ 0 → t.cost.accounts[a] = s.cost.accounts[a]) ∧
        t.cost.strayTotal = s.cost.strayTotal ∧ t.ports.engine.status = s.ports.engine.status ∧
        drawsDownNothing s t ∧ reportFrame s t (dropCounts pl 0)) ∧
    (s.serves .maintReport .engine pl = true → pl.length ≠ 108 →
      exec (.maintReport .engine tag pl) s =
        .next (s.answered .engine .maintReport tag pl (Reply.refuse .badValue))) ∧
    (s.serves .swathReport .engine pl = true → pl.length ≠ 111 →
      exec (.swathReport .engine tag pl) s =
        .next (s.answered .engine .swathReport tag pl (Reply.refuse .badValue)))

/-- The reports that draw down no reservation: late swaths, stray swaths and maintenance, whatever the
hold's state (R53, R61 to R63, R121, R162). -/
def Obligations.OtherReports : Prop := otherSwaths ∧ maintenanceReports

/-! ### Grants -/

/-- R93, the choice of the copy: the lowest-numbered PENDING copy at an attempt above 1, otherwise the
lowest-numbered PENDING copy, whatever the copies' records hold. -/
def Obligations.CopyChoice : Prop :=
  ∀ j : Job,
    let pending (n : Nat) : Prop := ∃ c, j.copy? n = some c ∧ c.state = .pending
    let again (n : Nat) : Prop := ∃ c, j.copy? n = some c ∧ c.state = .pending ∧ 1 < c.attempt
    (∀ n, j.copyChoice = some n →
      ((∃ k, again k) → again n ∧ ∀ k, again k → n ≤ k) ∧
      ((¬ ∃ k, again k) → pending n ∧ ∀ k, pending k → n ≤ k)) ∧
    (j.copyChoice = none ↔ ¬ ∃ k, pending k) ∧
    (∀ j' : Job, j'.copies.map (fun c => (c.state, c.attempt)) =
      j.copies.map (fun c => (c.state, c.attempt)) → j'.copyChoice = j.copyChoice)

/-- The walk grants at the first phase from the pointer on whose lane has an eligible job, and takes
the oldest of that lane by admission order (R90). Admission order is a linear order of the open jobs
while their sequence numbers lie within half the counter's range of one another (R3). -/
def Obligations.WalkOfThePhases : Prop :=
  ∀ (s : State) (start : Fin 32) (base : BitVec 32),
    (∀ h j, s.job? h = some j → (j.seq - base).toNat < 2147483648) →
    let offers (i : Fin 32) : Prop :=
      ∃ h j, s.job? h = some j ∧ s.eligible j = true ∧ j.lane = s.sched.live[i]
    (∀ (i h : Fin 32), s.walkPhases 32 start = some (i, h) →
      (∃ j, s.job? h.val = some j ∧ s.eligible j = true ∧ j.lane = s.sched.live[i] ∧
        ∀ h' j', s.job? h' = some j' → s.eligible j' = true → j'.lane = s.sched.live[i] →
          admittedBefore j'.seq j.seq = false) ∧
      ∀ k : Fin 32, k < i - start → ¬ offers (start + k)) ∧
    (s.walkPhases 32 start = none ↔ ∀ i, ¬ offers i)

/-- PANEL_REQUEST answered without a grant: WRONG_STATE under a PRINTING copy; otherwise the staged
table is loaded, and the answer is NONE with every gate that holds, or with the reasons of the walk
(R88, R89, R94, R124). The bytes of the answer rest on the model's reading of log 8, and the reason
ROLL_CHANGE on that of log 16. -/
def Obligations.PanelRequestNone : Prop :=
  ∀ (s : State) (tag : Byte), s.serves .panelRequest .engine [] = true →
    let u : State :=
      { s with
        sched :=
          if s.sched.loadPending then
            { s.sched with live := s.sched.staged, pointer := 0, loadPending := false }
          else s.sched }
    let answer (r : NoneReasons) : State :=
      State.noteOrders s (State.answered .engine .panelRequest tag [] (Reply.ok (noneReport u r))
        { u with media := { u.media with lastNone := true } })
    let gated := s.sched.power = .capped ∨ s.meter.confirmed = false ∨ s.sched.abort.isSome = true
    (s.printing.isSome = true → exec (.panelRequest .engine tag []) s =
      .next (s.answered .engine .panelRequest tag [] (Reply.refuse .wrongState))) ∧
    (s.printing = none → gated → exec (.panelRequest .engine tag []) s =
      .next (answer
        { NoneReasons.clear with
          capped := s.sched.power == .capped
          drops := !s.meter.confirmed
          abort := s.sched.abort.isSome })) ∧
    (s.printing = none → ¬ gated → u.walkPhases 32 u.sched.pointer = none →
      exec (.panelRequest .engine tag []) s = .next (answer u.walkReasons))

/-- PANEL_REQUEST answered with a grant: the copy is PRINTING under a fresh grant, the pointer passes
its phase, and the descriptor is answered (R11, R90, R95, R96, R114, R122, R157). -/
def Obligations.PanelRequestGrants : Prop :=
  ∀ (s : State) (tag : Byte) (i h : Fin 32) (j : Job) (n : Nat) (c : CopyRecord) (roll : Fin 2),
    s.serves .panelRequest .engine [] = true → s.printing = none → s.sched.power = .run →
    s.meter.confirmed = true → s.sched.abort = none →
    let u : State :=
      { s with
        sched :=
          if s.sched.loadPending then
            { s.sched with live := s.sched.staged, pointer := 0, loadPending := false }
          else s.sched }
    u.walkPhases 32 u.sched.pointer = some (i, h) → s.job? h.val = some j →
    j.copyChoice = some n → j.copy? n = some c → s.rollChoice j = some roll →
    let r : CopyRef := { handle := h.val, copy := n, attempt := c.attempt }
    ∃ (t : State) (j' : Job) (c' : CopyRecord),
      exec (.panelRequest .engine tag []) s = .next t ∧
      t.hasAnswer .engine .panelRequest tag
        (Reply.ok (descriptor r roll j (s.targetsOf r).length s.media.pos)) ∧
      t.sched = { u.sched with grant := some { ref := r, printing := true, roll := roll },
                               pointer := i + 1 } ∧
      t.printing = some r ∧ t.attempt? r = some (j', c') ∧ c'.state = .printing ∧
      c'.record.started = some { time := s.now, pos := s.media.pos } ∧
      c'.record.pauseLimit = (s.media.types[j.mediaType]).pauseLimit * 1000 ∧
      c'.record.pricedWidth = (s.media.rolls[roll]).width ∧
      t.media.rollInPath = some roll ∧ t.media.lastNone = false ∧
      t.scan = { s.scan with
                 running := s.scan.running.map fun x => { x with qualifying := false } } ∧
      SettingsKept s t ∧ t.meter = s.meter ∧ t.ink.bays = s.ink.bays ∧
      t.media.pos = s.media.pos ∧ t.media.rolls = s.media.rolls ∧ t.clock = s.clock ∧
      t.outside = s.outside

/-- A grant onto a path with no marks and no measurement, by a job whose copy length and strip lie in
the ranges of R4 and R5: the copy's own marks are inserted ahead of the path, its CUT marks are
counted, its measure is pending where its job checks colour, and its job is CLOSING where it was the
last PENDING copy (R9, R11, R13, R114, R131). -/
def Obligations.GrantOnAClearPath : Prop :=
  ∀ (s : State) (tag : Byte) (i h : Fin 32) (j : Job) (n : Nat) (c : CopyRecord) (roll : Fin 2),
    s.serves .panelRequest .engine [] = true → s.printing = none → s.sched.power = .run →
    s.meter.confirmed = true → s.sched.abort = none → s.sched.loadPending = false →
    s.walkPhases 32 s.sched.pointer = some (i, h) → s.job? h.val = some j →
    j.copyChoice = some n → j.copy? n = some c → s.rollChoice j = some roll →
    s.media.marks = [] → s.colour.measurement = none → s.colour.strips = [] →
    s.store.waitList = [] → FiguresSound s →
    (∀ c : Fin 12, s.ink.channels[c].short = false ∧ s.ink.channels[c].reserved ≤ s.ink.usable c) →
    100 ≤ j.copyLength → j.copyLength ≤ 300000 →
    (∀ k, j.check = some k → k.stripOffset + k.stripLength ≤ j.copyLength) →
    let r : CopyRef := { handle := h.val, copy := n, attempt := c.attempt }
    let unfired (d : Nat) (kind : MarkKind) : Mark :=
      { pos := s.media.pos + BitVec.ofNat 32 d, kind := kind, owners := [r], fired := false,
        service := .notBegun, captured := none }
    let lead := if j.leadCut then [unfired s.media.settings.dCut .cut] else []
    let strip := (j.check.map fun k =>
      [unfired (k.stripOffset + s.media.settings.dHead) .measure]).getD []
    let trail := if j.trailCut then [unfired (j.copyLength + s.media.settings.dCut) .cut] else []
    ∃ (t : State) (j' : Job) (c' : CopyRecord),
      exec (.panelRequest .engine tag []) s = .next t ∧
      t.media.marks.Perm (lead ++ strip ++ trail) ∧
      t.attempt? r = some (j', c') ∧ c'.record.outstandingCuts = lead.length + trail.length ∧
      c'.record.measure = (if j.check.isSome then .pending else .none) ∧
      t.colour.strips = (j.check.map fun _ =>
        [({ ref := r, mediaType := j.mediaType, clock := none } : StripEntry)]).getD [] ∧
      (j.countIn .pending = 1 → j'.state = .closing) ∧
      (1 < j.countIn .pending → j'.state = .queued) ∧ t.ink = s.ink

/-- The end of printing by the engine's request leaves the schedule so (R85, R95, R97, R98). -/
def endedSchedule (s : State) (g : Grant) : Schedule :=
  { s.sched with
    grant := some { g with printing := false }
    power := if s.sched.pendingCap then .capped else s.sched.power
    pendingCap := false }

/-- PANEL_DONE for the printing copy: the attempt ends DONE, its strip's dry clock starts with the
factor of the moment, and COPY_END triggers a scan (R12, R68, R81, R85, R97, R132). -/
def doneEnds : Prop :=
  ∀ (s : State) (tag : Byte) (pl : List Byte) (g : Grant),
    s.serves .panelDone .engine pl = true → pl.length = 3 → s.sched.grant = some g →
    g.printing = true → g.ref = refAt pl 0 →
    let factor := dryFactor s.now s.scan.samples[(24 : Fin 25)]
    ∃ t : State, exec (.panelDone .engine tag pl) s = .next t ∧
      t.hasAnswer .engine .panelDone tag (Reply.ok []) ∧ t.sched = endedSchedule s g ∧
      (∀ j c j' c', s.attempt? g.ref = some (j, c) → t.attempt? g.ref = some (j', c') →
        c'.state ≠ .printing ∧ c'.record.endCause = some .done ∧
        c'.record.ended = some { time := s.now, pos := s.media.pos }) ∧
      (∀ x ∈ t.colour.strips, x.ref = g.ref → x.clock = some
        { start := s.now, factor := factor,
          required := ((s.media.types[x.mediaType]).dryBase * 1000 * factor + 99) / 100 }) ∧
      (s.scan.config.onCopyEnd = false → t.scan = s.scan) ∧
      (s.scan.config.onCopyEnd = true → s.scan.running = none → t.scan =
        { s.scan with
          running := some
            { kind := .copyEnd, first := s.scan.config.first, last := s.scan.config.last,
              start := s.now, qualifying := true, next := s.scan.config.first.val } }) ∧
      (s.scan.config.onCopyEnd = true → s.scan.running.isSome = true →
        t.scan = { s.scan with overlap := true }) ∧
      SettingsKept s t ∧ t.meter = s.meter ∧ t.ink.bays = s.ink.bays ∧ t.media.pos = s.media.pos ∧
      t.media.rolls = s.media.rolls ∧ t.clock = s.clock ∧ t.outside = s.outside

/-- What the close of an attempt that ended its printing now, with this cause, leaves: its class, the
next state of its copy, its booking in the job and in the two accounts, and COPY_DONE on every port that
takes it (R15, R16, R158, R159). -/
def attemptCloses (s t : State) (r : CopyRef) (j : Job) (c : CopyRecord) (cause : EndCause) : Prop :=
  let a : Attempt :=
    { c.record with ended := some { time := s.now, pos := s.media.pos }, endCause := some cause }
  let sound : Prop := cause = .done ∧ (j.check = none ∨ a.measure = .pass ∨
    ∃ k why, j.check = some k ∧ a.measure = .unmeasured why ∧ k.unmeasured = .accept)
  let total := attemptTotal s.cost.prices[j.priceSet] j.mediaType a
  ∃ (cls : AttemptClass) (next : CopyState) (client : Nat) (j' : Job) (c' : CopyRecord),
    (cls = .cancelled ↔ a.measureDropped = true) ∧
    (cls = .accepted ↔ a.measureDropped = false ∧ sound) ∧
    next = (match cls with
      | .accepted => .accepted
      | .cancelled => .cancelled
      | .waste =>
        if c.attempt < j.reprintLimit + 1 then (if j.cancelled then .cancelled else .pending)
        else .rejected) ∧
    client = (if cls = .waste then
      (match j.waste with
        | .client => total
        | .house => 0
        | .shared => total / 2)
      else total) ∧
    t.job? r.handle = some j' ∧ j'.copy? r.copy = some c' ∧ c'.state = next ∧
    (next = .pending → c'.attempt = c.attempt + 1 ∧ c'.record = Attempt.fresh) ∧
    (next ≠ .pending → c'.attempt = c.attempt ∧ c'.record.ended = a.ended ∧
      c'.record.endCause = a.endCause ∧
      c'.record.booked = some { total := total, client := client, house := total - client }) ∧
    j'.clientBooked = j.clientBooked + client ∧ j'.houseBooked = j.houseBooked + (total - client) ∧
    j'.acceptedCount = j.acceptedCount + (if next = .accepted then 1 else 0) ∧
    j'.rejectedCount = j.rejectedCount + (if next = .rejected then 1 else 0) ∧
    j'.cancelledCount = j.cancelledCount + (if next = .cancelled then 1 else 0) ∧
    (∀ i : Fin 32, (t.cost.accounts[i]).charged =
      let x := if i = j.account then add64 (s.cost.accounts[i]).charged client
        else (s.cost.accounts[i]).charged
      if i = 0 then add64 x (total - client) else x) ∧
    (∀ p : Port, s.portHeld p = false →
      0 < (s.ports.unit p).levels[NoticeKind.index .copyDone] →
      ∃ x ∈ (t.ports.unit p).queue, x.notice =
        { kind := .copyDone, subject := .attempt r, detail := cls.code + 256 * next.code })

/-- An attempt with no measure to resolve and no cut marks closes in the event that ends its printing:
here by PANEL_DONE and by PANEL_ABORT, on a path with no marks (R15, R16, R158, R159). That PANEL_ABORT's
cause byte is 0 for ENGINE_FAULT and 1 for ENGINE_REQUEST is the model's reading (log 13). -/
def closesAtTheEnd : Prop :=
  ∀ (s : State) (tag : Byte) (pl : List Byte) (b : Byte) (g : Grant) (j : Job) (c : CopyRecord),
    pl.length = 3 → s.sched.grant = some g → g.printing = true → g.ref = refAt pl 0 →
    s.attempt? g.ref = some (j, c) → c.record.outstandingCuts = 0 → c.record.measure ≠ .pending →
    s.media.marks = [] →
    (s.serves .panelDone .engine pl = true →
      ∃ t : State, exec (.panelDone .engine tag pl) s = .next t ∧ attemptCloses s t g.ref j c .done) ∧
    (s.serves .panelAbort .engine (pl ++ [b]) = true → b.toNat < 2 →
      ∃ t : State, exec (.panelAbort .engine tag (pl ++ [b])) s = .next t ∧
        attemptCloses s t g.ref j c (if b = 0 then .engineFault else .engineRequest))

/-- PANEL_DONE for the printing copy, and the close of an attempt that nothing keeps open at the end of
its printing (R12, R15, R16, R68, R81, R85, R97, R132, R158, R159; the codes of PANEL_ABORT's cause are
the model's reading, log 13). -/
def Obligations.PanelDoneEnds : Prop := doneEnds ∧ closesAtTheEnd

/-- PANEL_ABORT for the printing copy: the attempt ends with the cause given, and its unfired MEASURE
mark is gone (R12, R85, R98, R100). Its cause byte is 0 for ENGINE_FAULT and 1 for ENGINE_REQUEST
(log 13). -/
def abortEnds : Prop :=
  ∀ (s : State) (tag : Byte) (pl : List Byte) (b : Byte) (g : Grant),
    s.serves .panelAbort .engine (pl ++ [b]) = true → pl.length = 3 → s.sched.grant = some g →
    g.printing = true → g.ref = refAt pl 0 →
    (b.toNat < 2 → ∃ t : State, exec (.panelAbort .engine tag (pl ++ [b])) s = .next t ∧
      t.hasAnswer .engine .panelAbort tag (Reply.ok []) ∧ t.sched = endedSchedule s g ∧
      (∀ j c j' c', s.attempt? g.ref = some (j, c) → t.attempt? g.ref = some (j', c') →
        c'.state ≠ .printing ∧
        c'.record.endCause = some (if b = 0 then .engineFault else .engineRequest) ∧
        c'.record.ended = some { time := s.now, pos := s.media.pos }) ∧
      ((s.job? g.ref.handle).isSome = true →
        ∀ m ∈ t.media.marks, m.kind = .measure → g.ref ∈ m.owners → m.fired = true) ∧
      SettingsKept s t ∧ t.scan = s.scan ∧ t.meter = s.meter ∧ t.ink.bays = s.ink.bays ∧
      t.media.pos = s.media.pos ∧ t.media.rolls = s.media.rolls ∧ t.clock = s.clock ∧
      t.outside = s.outside) ∧
    (2 ≤ b.toNat → exec (.panelAbort .engine tag (pl ++ [b])) s =
      .next (s.answered .engine .panelAbort tag (pl ++ [b]) (Reply.refuse .badValue)))

/-- The move of the trailing cut at an ABORT taken while the hold is not TAKEN: the attempt gives up its
unfired trailing CUT, and a CUT at the end position plus D_cut takes its place; at a CUT it owns already
none is placed and its outstanding cuts fall by one; at a CUT with one owner it becomes the second; past
CUTs with two owners it goes to the first position without one. A fired trailing CUT stays (R100). That a
CUT of its own met past such CUTs counts as one it owns already is the model's choice (log 32). -/
def trailingCutMoves : Prop :=
  ∀ (s : State) (tag : Byte) (pl : List Byte) (b : Byte) (g : Grant) (j : Job),
    s.serves .panelAbort .engine (pl ++ [b]) = true → pl.length = 3 → b.toNat < 2 →
    s.sched.grant = some g → g.printing = true → g.ref = refAt pl 0 →
    s.job? g.ref.handle = some j → s.media.hold.state ≠ .taken →
    (∀ m ∈ s.media.marks, m.kind = .measure → g.ref ∈ m.owners → m.fired = false) →
    let r := g.ref
    let shape (k : Mark) : Pos × MarkKind × List CopyRef := (k.pos, k.kind, k.owners)
    let rest := s.media.marks.filter fun k => !(k.kind == .measure && k.owners.contains r)
    ∃ t : State, exec (.panelAbort .engine tag (pl ++ [b])) s = .next t ∧
      ((∀ m, trailingCut r j s.media.marks = some m → m.fired = true) →
        t.media.marks.map shape = rest.map shape) ∧
      (∀ m, trailingCut r j s.media.marks = some m → m.fired = false →
        let kept := disownCut r m.pos rest
        let cut (q : Pos) (P : List CopyRef → Prop) : Prop :=
          ∃ k ∈ kept, k.kind = .cut ∧ k.pos = q ∧ P k.owners
        let full (q : Pos) : Prop := cut q fun os => 2 ≤ os.length
        let owned (q : Pos) : Prop := cut q fun os => r ∈ os
        let place (n : Nat) : Pos := s.media.pos + BitVec.ofNat 32 (s.media.settings.dCut + n)
        let outstanding (d : Nat) : Prop :=
          ∀ i c i' c', s.attempt? r = some (i, c) → t.attempt? r = some (i', c') →
            c'.record.outstandingCuts = c.record.outstandingCuts - d
        (owned (place 0) → t.media.marks.map shape = kept.map shape ∧ outstanding 1) ∧
        (∀ n : Nat, n ≤ kept.length → ¬ owned (place 0) → (∀ i, i < n → full (place i)) →
          ¬ full (place n) →
          (owned (place n) → t.media.marks.map shape = kept.map shape ∧ outstanding 1) ∧
          ((¬ cut (place n) fun _ => True) →
            (t.media.marks.map shape).Perm ((place n, .cut, [r]) :: kept.map shape) ∧
            outstanding 0) ∧
          ((cut (place n) fun _ => True) → ¬ owned (place n) →
            t.media.marks.map shape = kept.map (fun k =>
              if k.kind = .cut ∧ k.pos = place n then (k.pos, k.kind, k.owners ++ [r]) else shape k) ∧
            outstanding 0)))

/-- PANEL_ABORT for the printing copy: the end of its attempt, and the move of its trailing cut (R12,
R85, R98, R100; the codes of the cause are log 13, and one corner of the move log 32). -/
def Obligations.PanelAbortEnds : Prop := abortEnds ∧ trailingCutMoves

/-- PANEL_DONE and PANEL_ABORT as the answer to the ABORT order clear it and change nothing else; an
ending request that matches no current attempt is refused STALE_REF with its fault (R97, R98, R99). That
PANEL_ABORT carries a cause byte of 0 or 1 is the model's reading (log 13). -/
def Obligations.EndingsAfterTheEnd : Prop :=
  ∀ (s : State) (tag : Byte) (pl : List Byte) (b : Byte), pl.length = 3 → b.toNat < 2 →
    let r := refAt pl 0
    let cleared : State := { s with sched := { s.sched with abort := none } }
    let fault (k : ReqKind) (pl : List Byte) : State :=
      s.noteFault .engine .staleRef (some (requestHeader k tag pl))
    ((∃ g, s.sched.grant = some g ∧ g.ref = r ∧ g.printing = false) → s.sched.abort = some r →
      (s.serves .panelDone .engine pl = true → exec (.panelDone .engine tag pl) s =
        .next (State.noteOrders s (cleared.answered .engine .panelDone tag pl (Reply.ok [])))) ∧
      (s.serves .panelAbort .engine (pl ++ [b]) = true →
        exec (.panelAbort .engine tag (pl ++ [b])) s =
          .next (State.noteOrders s (cleared.answered .engine .panelAbort tag (pl ++ [b]) (Reply.ok []))))) ∧
    ((∀ g, s.sched.grant = some g → g.ref = r → g.printing = false ∧ s.sched.abort ≠ some r) →
      s.stops .engine .staleRef = false →
      (s.serves .panelDone .engine pl = true → exec (.panelDone .engine tag pl) s =
        .next ((fault .panelDone pl).answered .engine .panelDone tag pl (Reply.refuse .staleRef))) ∧
      (s.serves .panelAbort .engine (pl ++ [b]) = true →
        exec (.panelAbort .engine tag (pl ++ [b])) s = .next
          ((fault .panelAbort (pl ++ [b])).answered .engine .panelAbort tag (pl ++ [b])
            (Reply.refuse .staleRef))))

/-- The requests of the schedule: SET_POWER, WRITE_PHASES, LOAD_PHASES and SET_CLASS_MAP (R84, R86 to
R88). -/
def Obligations.ScheduleRequests : Prop :=
  ∀ (s : State) (tag : Byte),
    (s.serves .setPower .desk [0] = true → exec (.setPower .desk tag [0]) s =
      .next (State.noteOrders s (State.answered .desk .setPower tag [0] (Reply.ok [0, 0])
        { s with sched := { s.sched with power := .run, pendingCap := false } }))) ∧
    (s.serves .setPower .desk [1] = true → exec (.setPower .desk tag [1]) s =
      .next (
        if s.sched.power = .capped then
          s.answered .desk .setPower tag [1] (Reply.ok (1 :: flagByte s.sched.pendingCap))
        else if s.printing.isSome then
          State.answered .desk .setPower tag [1] (Reply.ok [0, 1])
            { s with sched := { s.sched with pendingCap := true } }
        else State.noteOrders s (State.answered .desk .setPower tag [1] (Reply.ok [1, 0])
          { s with sched := { s.sched with power := .capped, pendingCap := false } }))) ∧
    (∀ b : Byte, 2 ≤ b.toNat → s.serves .setPower .desk [b] = true →
      exec (.setPower .desk tag [b]) s =
        .next (s.answered .desk .setPower tag [b] (Reply.refuse .badValue))) ∧
    (∀ v : Vector (Fin 4) 32, s.serves .writePhases .desk (lanes v) = true →
      exec (.writePhases .desk tag (lanes v)) s =
        .next (State.answered .desk .writePhases tag (lanes v)
          (Reply.ok (lanes v ++ flagByte s.sched.loadPending))
          { s with sched := { s.sched with staged := v } })) ∧
    (s.serves .loadPhases .desk [] = true → exec (.loadPhases .desk tag []) s =
      .next (State.answered .desk .loadPhases tag []
        (Reply.ok (lanes s.sched.live ++ lanes s.sched.staged ++ leBytes 1 s.sched.pointer.val))
        { s with sched := { s.sched with loadPending := true } })) ∧
    (∀ v : Vector (Fin 4) 8, s.serves .setClassMap .desk (lanes v) = true →
      exec (.setClassMap .desk tag (lanes v)) s =
        .next (State.answered .desk .setClassMap tag (lanes v) (Reply.ok (lanes v))
          { s with sched := { s.sched with classMap := v } })) ∧
    (∀ pl : List Byte, (∃ b ∈ pl, 4 ≤ b.toNat) →
      (s.serves .writePhases .desk pl = true → exec (.writePhases .desk tag pl) s =
        .next (s.answered .desk .writePhases tag pl (Reply.refuse .badValue))) ∧
      (s.serves .setClassMap .desk pl = true → exec (.setClassMap .desk tag pl) s =
        .next (s.answered .desk .setClassMap tag pl (Reply.refuse .badValue))))

/-! ### Reads -/

/-- The requests that only read: ENGINE_STATUS, READ_HISTORY, READ_ACCOUNT and READ_FAULTS change no
state, and READ_INK clears the overlap flag it reports (R48, R71, R104, R148, R153, R176). The bytes of
their responses rest on the model's choices of logs 8, 36 and 37. -/
def Obligations.ReadRequests : Prop :=
  ∀ (s : State) (tag : Byte),
    (s.serves .engineStatus .engine [] = true → exec (.engineStatus .engine tag []) s =
      .next (s.answered .engine .engineStatus tag [] (Reply.ok (statusReport s)))) ∧
    (s.serves .readInk .desk [] = true → exec (.readInk .desk tag []) s =
      .next (State.answered .desk .readInk tag [] (Reply.ok (inkReport s))
        { s with scan := { s.scan with overlap := false } })) ∧
    (∀ n skip : Byte, s.serves .readHistory .desk [n, skip] = true →
      exec (.readHistory .desk tag [n, skip]) s = .next
        (if 1 ≤ n.toNat ∧ n.toNat ≤ 32 then
          s.answered .desk .readHistory tag [n, skip] (Reply.ok (historyReport s n.toNat skip.toNat))
        else s.answered .desk .readHistory tag [n, skip] (Reply.refuse .badValue))) ∧
    (∀ a : Fin 32, s.serves .readAccount .desk [BitVec.ofNat 8 a.val] = true →
      exec (.readAccount .desk tag [BitVec.ofNat 8 a.val]) s =
        .next (s.answered .desk .readAccount tag [BitVec.ofNat 8 a.val] (Reply.ok (accountReport s a)))) ∧
    (∀ b : Byte, 32 ≤ b.toNat → s.serves .readAccount .desk [b] = true →
      exec (.readAccount .desk tag [b]) s =
        .next (s.answered .desk .readAccount tag [b] (Reply.refuse .badValue))) ∧
    (∀ p : Port, s.serves .readFaults p [] = true → exec (.readFaults p tag []) s =
      .next (s.answered p .readFaults tag []
        (Reply.ok (faultsReport p (s.ports.modifyUnit p fun u => { u with badCount := 0 })))))

/-! ### The feed hold -/

/-- A service of the head MEASURE mark has ended with a result (R13, R115, R144, R147). -/
def reported (s t : State) (owner : CopyRef) (now : TimeBase) (res : MeasureResult) (f : Figures) :
    Prop :=
  t.colour.measurement = none ∧ t.colour.dryTimer = none ∧ t.colour.headTimer = none ∧
  t.media.marks = s.media.marks.tail ∧ (∀ x ∈ t.colour.strips, x.ref ≠ owner) ∧
  t.colour.history =
    ({ seq := s.colour.histSeq, day := now.day, ms := now.ms, ref := owner, result := res,
        absMean := f.absMean, absMax := f.absMax, editionMax := f.editionMax,
        validRecords := f.valid } :: s.colour.history).take s.colour.histSize ∧
  t.colour.histSeq = s.colour.histSeq + 1 ∧
  (∀ j c j' c', s.attempt? owner = some (j, c) → t.attempt? owner = some (j', c') →
    c'.record.measure = res.outcome) ∧
  SettingsKept s t ∧ t.meter = s.meter ∧ t.scan = s.scan ∧ t.sched = s.sched ∧
  t.ink.bays = s.ink.bays ∧ t.media.pos = s.media.pos ∧ t.media.rolls = s.media.rolls ∧
  t.clock = now ∧ t.outside = s.outside

/-- HOLD_TAKEN in REQUESTED makes the hold TAKEN at the path position, and FREE again where no reason
is left at the end of the event; a pause begins under a PRINTING copy (R117, R118, R122, R123). -/
def holdTakenInRequested : Prop :=
  ∀ (s : State) (tag : Byte), s.serves .holdTaken .engine [] = true →
    s.media.hold.state = .requested →
    ∃ t : State, exec (.holdTaken .engine tag []) s = .next t ∧
      t.hasAnswer .engine .holdTaken tag (Reply.ok []) ∧
      (t.holdReasons.any = true → t.media.hold =
        { reasons := t.holdReasons, state := .taken, captured := some s.media.pos,
          ackTimer := none }) ∧
      (t.holdReasons.any = false → t.media.hold =
        { reasons := t.holdReasons, state := .free, captured := none, ackTimer := none }) ∧
      (s.media.pause = none → t.media.hold.state = .taken → s.printing.isSome = true →
        t.media.pause = some { start := s.now, due := s.now + s.allowance }) ∧
      SettingsKept s t ∧ t.sched = s.sched ∧ t.scan = s.scan ∧ t.meter = s.meter ∧
      t.ink.bays = s.ink.bays ∧ t.media.pos = s.media.pos ∧ t.media.rolls = s.media.rolls ∧
      t.clock = s.clock ∧ t.outside = s.outside

/-- The service of a fired MEASURE mark begins when the hold is taken. An overshoot below 0 or beyond
the strip length less 60 gives MISSED. In range, a strip that needs no drying any more is exchanged at
once, one whose dry remaining the pause allowance covers, or under no PRINTING copy, waits for dry, and
any other is WET (R118, R134 to R137). The bytes sent are the model's record (log 23). -/
def measureBegins : Prop :=
  ∀ (s : State) (tag : Byte) (k : Mark) (ms : List Mark) (r : CopyRef) (j : Job) (p : CheckPolicy),
    s.serves .holdTaken .engine [] = true → s.media.hold.state = .requested →
    s.media.marks = k :: ms → k.kind = .measure → k.owners = [r] → k.fired = true →
    k.service = .notBegun → s.job? r.handle = some j → j.check = some p →
    let overshoot := (s.media.pos - k.pos).toInt
    let begun : Measurement :=
      { owner := r, markPos := k.pos, captured := s.media.pos, overshoot := overshoot, phase := .drying,
        discard := false }
    let served : List Mark :=
      { k with service := .inService, captured := some s.media.pos } :: ms
    let number := s.colour.exchange + 1
    let inRange : Prop := 0 ≤ overshoot ∧ overshoot + 60 ≤ p.stripLength
    let dryBase := (s.media.types[j.mediaType]).dryBase
    let gone (res : MeasureResult) : Prop :=
      s.restAhead → (∀ y ∈ ms, r ∈ y.owners → y.kind = .cut) →
      ∃ t : State, exec (.holdTaken .engine tag []) s = .next t ∧
        reported s t r s.clock res Figures.none
    let exchanged : Prop :=
      ∃ t : State, exec (.holdTaken .engine tag []) s = .next t ∧ t.media.marks = served ∧
        t.colour = { s.colour with
          exchange := number
          measurement := some { begun with phase := .exchanging number [] }
          dryTimer := none
          headTimer := some (s.now + s.media.settings.headTimeout)
          sent := withCheck ([1, number, BitVec.ofNat 8 (s.targetsOf r).length] ++
            List.replicate 7 0) }
    let waits (left : Nat) : Prop :=
      ∃ t : State, exec (.holdTaken .engine tag []) s = .next t ∧ t.media.marks = served ∧
        t.colour = { s.colour with measurement := some begun, dryTimer := some (s.now + left) }
    ((overshoot < 0 ∨ (p.stripLength : Int) < overshoot + 60) → gone (.unmeasured .missed)) ∧
    (inRange → s.dryClock r = none → dryBase = 0 → exchanged) ∧
    (inRange → s.dryClock r = none → 0 < dryBase → gone (.unmeasured .wet)) ∧
    (∀ d, inRange → s.dryClock r = some d →
      let left := d.required - (s.now - d.start)
      (left = 0 → exchanged) ∧
      (0 < left → (s.printing = none ∨ left ≤ s.allowance) → waits left) ∧
      (s.printing.isSome = true → s.allowance < left → gone (.unmeasured .wet)))

/-- HOLD_TAKEN in REQUESTED: the hold, the pause, and the service of a fired MEASURE mark that it begins
(R117, R118, R122, R123, R134 to R137; the record of the bytes sent is log 23). -/
def Obligations.HoldTakenInRequested : Prop := holdTakenInRequested ∧ measureBegins

/-- HOLD_TAKEN in FREE or TAKEN is refused with the UNEXPECTED_HOLD fault; the acknowledge timer's
expiry records HOLD_IGNORED and does not restart the timer, and where HOLD_IGNORED is blocking the
Engine port faults and the engine is lost (R118, R119, R175, R102). That the expiry moves the count to
the moment the timer was due, or leaves it where that has passed, is the model's choice (log 3). -/
def holdFaults : Prop :=
  (∀ (s : State) (tag : Byte), s.serves .holdTaken .engine [] = true →
    s.media.hold.state ≠ .requested → s.stops .engine .unexpectedHold = false →
    exec (.holdTaken .engine tag []) s =
      .next (State.answered .engine .holdTaken tag [] (Reply.refuse .wrongState)
        (s.noteFault .engine .unexpectedHold (some (requestHeader .holdTaken tag []))))) ∧
  (∀ (s : State) (d : Nat), s.pins.reset = false → s.portHeld .engine = false →
    s.media.hold.ackTimer = some d →
    let u : State :=
      { s with
        clock := s.clock.advance (d - s.clock.mono)
        media := { s.media with hold := { s.media.hold with ackTimer := none } } }
    (s.stops .engine .holdIgnored = false →
      exec .holdAckExpiry s = .next (u.noteFault .engine .holdIgnored none)) ∧
    (s.stops .engine .holdIgnored = true →
      ∃ t : State, exec .holdAckExpiry s = .next t ∧ t.ports.engine.state = .faulted ∧
        t.clock = u.clock ∧ t.ports.engine.status[FaultKind.index .holdIgnored] =
          (s.ports.engine.status[FaultKind.index .holdIgnored]).note ∧
        EngineLost u t ∧ SettingsKept s t))

/-- The pause timer's expiry ends the printing attempt PAUSE_EXPIRED with its accrued pause at its
limit, and sets the ABORT order (R12, R85, R101, R123). The model's choices here: that the expiry moves
the count to the due time, or leaves it where that has passed (log 3), and that the accrued pause is the
limit however late the expiry is taken (log 29). -/
def pauseExpires : Prop :=
  ∀ (s : State) (q : PausePeriod) (g : Grant), s.pins.reset = false → s.media.pause = some q →
    s.sched.grant = some g → g.printing = true →
    ∃ t : State, exec .pauseExpiry s = .next t ∧
      t.clock = s.clock.advance (q.due - s.clock.mono) ∧
      t.sched = { endedSchedule s g with abort := some g.ref } ∧ t.media.pause = none ∧
      (∀ j c j' c', s.attempt? g.ref = some (j, c) → t.attempt? g.ref = some (j', c') →
        c'.state ≠ .printing ∧ c'.record.accruedPause = c.record.pauseLimit ∧
        c'.record.endCause = some .pauseExpired ∧
        c'.record.ended = some { time := t.clock.mono, pos := s.media.pos }) ∧
      SettingsKept s t ∧ t.scan = s.scan ∧ t.meter = s.meter ∧ t.ink.bays = s.ink.bays ∧
      t.media.pos = s.media.pos ∧ t.media.rolls = s.media.rolls ∧ t.outside = s.outside

/-- The hold's faults and the two timers of the hold and of the pause (R118, R119, R123, R175; the
model's choices of logs 3 and 29). -/
def Obligations.HoldAndPauseTimers : Prop := holdFaults ∧ pauseExpires

/-! ### Ink -/

/-- DECLARE_CARTRIDGE on an INSERTED bay (R29, R30, R31). -/
def Obligations.DeclareCartridge : Prop :=
  ∀ (s : State) (tag : Byte) (b : Fin 24) (volume lot expiry : Nat),
    1 ≤ volume → volume ≤ 1000000000 → lot < 4294967296 → expiry < 65536 →
    s.ink.bays[b].state = .inserted →
    let pl := leBytes 1 b.val ++ leBytes 4 volume ++ leBytes 4 lot ++ leBytes 2 expiry
    s.serves .declareCartridge .desk pl = true →
    let ch := s.ink.channels[channelOf b]
    ∃ t : State, exec (.declareCartridge .desk tag pl) s = .next t ∧
      t.ink.bays[b] =
        { s.ink.bays[b] with
          state :=
            if expiry < s.clock.day then .expired
            else if ch.active.isSome then .ready
            else if volume ≤ ch.dead then .spent else .active
          uncertain := false
          cart := some
            { declared := volume, level := volume, drawn := 0, writtenOff := 0,
              lot := BitVec.ofNat 32 lot, expiry := expiry, declaredAt := s.now } } ∧
      (s.clock.day ≤ expiry → ch.active = none → ch.dead < volume →
        (t.ink.channels[channelOf b]).active = some (sideOf b) ∧
        (t.ink.channels[channelOf b]).lastActive = some (sideOf b)) ∧
      t.hasAnswer .desk .declareCartridge tag
        (Reply.ok (leBytes 1 (t.ink.bays[b].state.code) ++ leBytes 4 (t.ink.usable (channelOf b)))) ∧
      (∀ x : Fin 24, channelOf x ≠ channelOf b → t.ink.bays[x] = s.ink.bays[x]) ∧
      SettingsKept s t ∧ t.meter = s.meter ∧ t.scan = s.scan ∧ t.sched = s.sched ∧
      t.cost = s.cost ∧ t.colour = s.colour ∧ t.media.sameButHold s.media ∧ t.clock = s.clock ∧
      t.outside = s.outside

/-- DECLARE_CARTRIDGE refused, in the order of R29: a bay above 23 or a volume out of range, then an
EMPTY bay, then a bay that holds a declared cartridge. -/
def declarationRefusals : Prop :=
  ∀ (s : State) (tag : Byte) (bay volume lot expiry : Nat),
    bay < 256 → volume < 4294967296 → lot < 4294967296 → expiry < 65536 →
    let pl := leBytes 1 bay ++ leBytes 4 volume ++ leBytes 4 lot ++ leBytes 2 expiry
    let refused (c : ResultCode) := s.answered .desk .declareCartridge tag pl (Reply.refuse c)
    s.serves .declareCartridge .desk pl = true →
    ((24 ≤ bay ∨ volume = 0 ∨ 1000000000 < volume) →
      exec (.declareCartridge .desk tag pl) s = .next (refused .badValue)) ∧
    (∀ b : Fin 24, b.val = bay → 1 ≤ volume → volume ≤ 1000000000 →
      (s.ink.bays[b].state = .empty →
        exec (.declareCartridge .desk tag pl) s = .next (refused .notPresent)) ∧
      (s.ink.bays[b].state.declared = true →
        exec (.declareCartridge .desk tag pl) s = .next (refused .wrongState)))

/-- The refusals of SUBMIT_JOB and of DECLARE_CARTRIDGE, each with no effect (R4 to R6, R29, R155). -/
def Obligations.RefusalsChangeNothing : Prop := submitRefusals ∧ declarationRefusals

/-- SET_CHANNEL stores the four values clamped; a raised dead volume gives up an ACTIVE bay at or below
it, and no bay's figures change (R31, R47). -/
def Obligations.SetChannel : Prop :=
  ∀ (s : State) (tag : Byte) (c : Fin 12) (dead tol dens low : Nat),
    dead < 4294967296 → tol < 4294967296 → dens < 65536 → low < 4294967296 →
    let pl := leBytes 1 c.val ++ leBytes 4 dead ++ leBytes 4 tol ++ leBytes 2 dens ++ leBytes 4 low
    s.serves .setChannel .desk pl = true →
    let dead' := min dead 50000000
    let tol' := max 100000 (min tol 50000000)
    let dens' := max 800 (min dens 1500)
    let low' := min low 2000000000
    ∃ t : State, exec (.setChannel .desk tag pl) s = .next t ∧
      (t.ink.channels[c]).settings = (dead', tol', dens', low') ∧
      t.hasAnswer .desk .setChannel tag (Reply.ok
        (leBytes 4 dead' ++ leBytes 4 tol' ++ leBytes 2 dens' ++ leBytes 4 low')) ∧
      (∀ x : Fin 12, x ≠ c → (t.ink.channels[x]).settings = (s.ink.channels[x]).settings) ∧
      (∀ b : Fin 24, t.ink.bays[b] = { s.ink.bays[b] with state := t.ink.bays[b].state }) ∧
      (dead' ≤ s.ink.channels[c].dead → t.ink.bays = s.ink.bays) ∧
      (∀ sd, s.ink.channels[c].dead < dead' → s.ink.channels[c].active = some sd →
        s.ink.bays[bayOf c sd].level ≤ dead' → t.ink.bays[bayOf c sd].state = .spent) ∧
      t.pathSettings = s.pathSettings ∧ t.locked = s.locked ∧ t.roster = s.roster ∧
      (∀ p, t.portSettings p = s.portSettings p) ∧ t.meter = s.meter ∧ t.scan = s.scan ∧
      t.sched = s.sched ∧ t.cost = s.cost ∧ t.colour = s.colour ∧ t.media.sameButHold s.media ∧
      t.clock = s.clock ∧ t.outside = s.outside

/-- R28: the rising edge of a cartridge-present input, the sampling at reset, and the bay states that
follow the inputs. -/
def Obligations.CartridgeSeated : Prop :=
  (∀ (s : State) (b : Fin 24), s.pins.reset = false → s.ink.bays[b].state = .empty →
    ∃ t : State, exec (.cartridgePresentRise b) s = .next t ∧
      t = { s with
            pins := { s.pins with present := s.pins.present.set b.val true b.isLt }
            ink := { s.ink with
              bays := s.ink.bays.set b.val { s.ink.bays[b] with state := .inserted } b.isLt } } ∧
      (∀ c : Fin 12, t.ink.usable c = s.ink.usable c)) ∧
  (∀ s : State, ∃ t : State, exec .resetRelease s = .next t ∧ ∀ b : Fin 24,
    t.ink.bays[b].state = if s.pins.present[b] then .inserted else .empty) ∧
  StepKeeps BaysFollow ∧
  (∀ (s : State) (b : Fin 24), BaysFollow s → s.pins.reset = false →
    (s.pins.present[b] = false → s.ink.bays[b].state = .empty) ∧
    (s.pins.present[b] = true → s.ink.bays[b].state ≠ .empty))

/-- The falling edge of a cartridge-present input closes whatever the bay held: the removal record
takes its figures, and the other bay takes over where the removed one was ACTIVE (R44, R45). -/
def Obligations.CartridgeRemoved : Prop :=
  ∀ (s : State) (b : Fin 24), s.pins.reset = false → s.ink.bays[b].state ≠ .empty →
    let ch := s.ink.channels[channelOf b]
    let other := bayOf (channelOf b) (sideOf b).other
    ∃ t : State, exec (.cartridgePresentFall b) s = .next t ∧
      t.ink.bays[b] =
        { state := .empty, uncertain := false, cart := none, cal := s.ink.bays[b].cal
          removal := some
            { state := s.ink.bays[b].state, figures := s.ink.bays[b].cart, time := s.now } } ∧
      (s.ink.bays[b].state ≠ .active → t.ink.bays[other] = s.ink.bays[other]) ∧
      (s.ink.bays[b].state = .active → s.ink.bays[other].state = .ready →
        t.ink.bays[other] = { s.ink.bays[other] with
          state := if s.ink.bays[other].level ≤ ch.dead then .spent else .active } ∧
        (t.ink.channels[channelOf b]).active =
          (if s.ink.bays[other].level ≤ ch.dead then none else some (sideOf b).other) ∧
        (t.ink.channels[channelOf b]).lastActive = some (sideOf b).other) ∧
      (s.ink.bays[b].state = .active → s.ink.bays[other].state ≠ .ready →
        t.ink.bays[other] = s.ink.bays[other] ∧
        (ch.active = some (sideOf b) → (t.ink.channels[channelOf b]).active = none) ∧
        (ch.lastActive = some (sideOf b) → (t.ink.channels[channelOf b]).lastActive = none)) ∧
      (∀ x : Fin 24, channelOf x ≠ channelOf b → t.ink.bays[x] = s.ink.bays[x]) ∧
      t.pins = { s.pins with present := s.pins.present.set b.val false b.isLt } ∧
      SettingsKept s t ∧ t.meter = s.meter ∧ t.scan = s.scan ∧ t.sched = s.sched ∧
      t.cost = s.cost ∧ t.colour = s.colour ∧ t.media.sameButHold s.media ∧ t.clock = s.clock ∧
      t.pending = s.pending

/-! ### The scan -/

/-- SET_BAY_CAL and SET_SCAN store their values clamped; START_SCAN starts a scan, or is dropped with
SCAN_OVERLAP on the flag's passage to set, or is refused while DESK is not a trigger (R67, R69, R71 to
R73). The model's choices here: that SET_SCAN takes any trigger byte and ignores its bits 3 to 7 (log
12), and that START_SCAN answers a flag, 1 for started and 0 for dropped (log 36). -/
def Obligations.ScanRequests : Prop :=
  ∀ (s : State) (tag : Byte),
    (∀ (b : Fin 24) (z scale tare : Nat), z < 65536 → scale < 4294967296 →
      tare < 4294967296 →
      let pl := leBytes 1 b.val ++ leBytes 2 z ++ leBytes 4 scale ++ leBytes 4 tare
      let k : Calibration :=
        { zero := min z 4095, scale := max 1 (min scale 1000000), tare := min tare 2000000,
          calibrated := true }
      s.serves .setBayCal .desk pl = true → exec (.setBayCal .desk tag pl) s =
        .next (State.answered .desk .setBayCal tag pl
          (Reply.ok (leBytes 2 k.zero ++ leBytes 4 k.scale ++ leBytes 4 k.tare))
          { s with ink := { s.ink with
            bays := s.ink.bays.set b.val { s.ink.bays[b] with cal := k } b.isLt } })) ∧
    (∀ (first last seconds : Nat) (set : Byte), first < 256 → last < 256 → seconds < 65536 →
      let pl := leBytes 1 first ++ leBytes 1 last ++ [set] ++ leBytes 2 seconds
      s.serves .setScan .desk pl = true →
      ((24 < first ∨ 24 < last ∨ last < first) → exec (.setScan .desk tag pl) s =
        .next (s.answered .desk .setScan tag pl (Reply.refuse .badValue))) ∧
      (∀ f l : Fin 25, f.val = first → l.val = last → first ≤ last →
        let k : ScanConfig :=
          { first := f, last := l, onDesk := set.getLsbD 0, onInterval := set.getLsbD 1,
            onCopyEnd := set.getLsbD 2, seconds := max 1 (min seconds 3600) }
        exec (.setScan .desk tag pl) s = .next
          (State.answered .desk .setScan tag pl (Reply.ok (scanConfigBytes k))
            { s with scan := { s.scan with
              config := k
              timer := if k.onInterval then some (s.now + k.seconds * 1000) else none } }))) ∧
    (s.serves .startScan .desk [] = true →
      (s.scan.config.onDesk = false → exec (.startScan .desk tag []) s =
        .next (s.answered .desk .startScan tag [] (Reply.refuse .wrongState))) ∧
      (s.scan.config.onDesk = true → s.scan.running = none → exec (.startScan .desk tag []) s =
        .next (State.answered .desk .startScan tag [] (Reply.ok [1])
          { s with scan := { s.scan with
            running := some
              { kind := .desk, first := s.scan.config.first, last := s.scan.config.last,
                start := s.now, qualifying := s.printing.isNone,
                next := s.scan.config.first.val } } })) ∧
      (s.scan.config.onDesk = true → s.scan.running.isSome = true →
        exec (.startScan .desk tag []) s = .next
          (State.notify
            (if s.scan.overlap then [] else [{ kind := .scanOverlap, subject := .none, detail := 0 }])
            (State.answered .desk .startScan tag [] (Reply.ok [0])
              { s with scan := { s.scan with overlap := true } }))))

/-- SCAN_INTERVAL_EXPIRY restarts its timer and triggers a scan; SAMPLE_CONVERSION writes the entry of
the running scan's next input, valid for 1..4094 (R66, R68 to R72; log 3, log 19). -/
def Obligations.ScanProgress : Prop :=
  (∀ (s : State) (d : Nat), s.pins.reset = false → s.scan.timer = some d →
    let u : State := { s with clock := s.clock.advance (d - s.clock.mono) }
    let timer := some (u.clock.mono + s.scan.config.seconds * 1000)
    (s.scan.config.onInterval = true → s.scan.running = none →
      exec .scanIntervalExpiry s = .next { u with scan := { s.scan with
        timer := timer
        running := some
          { kind := .interval, first := s.scan.config.first, last := s.scan.config.last,
            start := u.clock.mono, qualifying := s.printing.isNone,
            next := s.scan.config.first.val } } }) ∧
    (s.scan.config.onInterval = true → s.scan.running.isSome = true →
      exec .scanIntervalExpiry s = .next (State.notify
        (if s.scan.overlap then [] else [{ kind := .scanOverlap, subject := .none, detail := 1 }])
        { u with scan := { s.scan with timer := timer, overlap := true } }))) ∧
  (∀ (s : State) (raw : BitVec 12) (r : RunningScan) (lt : r.next < 25), s.pins.reset = false →
    s.scan.running = some r → r.next ≤ r.last.val →
    exec (.sampleConversion raw) s = .next { s with scan := { s.scan with
      samples := s.scan.samples.set r.next
        { raw := raw.toNat, time := s.now, valid := 1 ≤ raw.toNat && raw.toNat ≤ 4094 } lt
      running := some { r with next := r.next + 1 } } })

/-- The scan-complete event: a qualifying scan compares the bays and writes off what the scale does
not find; the record is kept and the Scan unit is IDLE (R70, R75 to R78, R82). -/
def Obligations.ScanCompletes : Prop :=
  ∀ (s : State) (r : RunningScan), s.pins.reset = false → s.scan.running = some r →
    r.last.val < r.next →
    ∃ (t : State) (x : ScanRecord), exec .scanComplete s = .next t ∧ t.scan.running = none ∧
      t.scan.last = some x ∧ x.kind = r.kind ∧ x.first = r.first ∧ x.last = r.last ∧
      x.start = r.start ∧ x.completed = s.now ∧ x.qualified = r.qualifying ∧
      t.scan = { s.scan with running := none, last := some x } ∧
      (r.qualifying = false → t.ink.bays = s.ink.bays ∧ x.compared = 0) ∧
      (r.qualifying = true → ∀ b : Fin 24,
        (s.compares r b = none → t.ink.bays[b].cart = s.ink.bays[b].cart ∧
          t.ink.bays[b].uncertain = s.ink.bays[b].uncertain) ∧
        (∀ k, s.compares r b = some k →
          let m := measuredVolume (s.scan.samples[weighInput b]).raw s.ink.bays[b].cal
            (s.ink.channels[channelOf b]).density k.declared
          let tol := (s.ink.channels[channelOf b]).tolerance
          t.ink.bays[b].uncertain = false ∧
          t.ink.bays[b].cart = some
            (if m < k.level ∧ (s.ink.bays[b].uncertain = true ∨ m + tol < k.level) then
              { k with level := m, writtenOff := k.writtenOff + (k.level - m) }
            else k))) ∧
      SettingsKept s t ∧ t.meter = s.meter ∧ t.sched = s.sched ∧ t.cost = s.cost ∧
      t.colour = s.colour ∧ t.media.sameButHold s.media ∧ t.clock = s.clock ∧ t.outside = s.outside

/-- R74, the measured volume. -/
def Obligations.MeasuredVolume : Prop :=
  ∀ (raw : Nat) (k : Calibration) (density declared : Nat), raw ≤ 4095 → k.zero ≤ 4095 →
    k.scale ≤ 1000000 → 800 ≤ density →
    let M := measuredVolume raw k density declared
    ∃ weight ink : Nat,
      (k.zero < raw → weight = (raw - k.zero) * k.scale / 1000) ∧ (raw ≤ k.zero → weight = 0) ∧
      weight ≤ 4095000 ∧ (k.tare < weight → ink = weight - k.tare) ∧ (weight ≤ k.tare → ink = 0) ∧
      ink * 1000000 ≤ 4095000000000 ∧
      (ink * 1000000 / density ≤ declared → M = ink * 1000000 / density) ∧
      (declared < ink * 1000000 / density → M = declared)

/-! ### The media path -/

/-- MOUNT_ROLL, UNMOUNT_ROLL, SET_MEDIA_TYPE and SET_PATH (R106, R108 to R110). The bytes of their
responses rest on the model's choices of logs 8, 36 and 37. -/
def Obligations.MediaRequests : Prop :=
  ∀ (s : State) (tag : Byte),
    let locked (n : Fin 2) : Prop :=
      s.media.rollInPath = some n ∧ (s.media.marks ≠ [] ∨ s.printing.isSome = true)
    (∀ (n : Fin 2) (mt : Fin 16) (len : Nat), (s.media.types[mt]).defined = true → 1 ≤ len →
      len ≤ 1000000 →
      let pl := leBytes 1 n.val ++ leBytes 1 mt.val ++ leBytes 4 len
      let t : State :=
        { s with media := { s.media with rolls := s.media.rolls.set n.val (.mounted
          { mediaType := mt, width := (s.media.types[mt]).width, declared := len, remaining := len,
            netFed := 0, lowNoticed := len < 20000 }) n.isLt } }
      s.serves .mountRoll .desk pl = true →
      (locked n → exec (.mountRoll .desk tag pl) s =
        .next (s.answered .desk .mountRoll tag pl (Reply.refuse .inUse))) ∧
      (¬ locked n → exec (.mountRoll .desk tag pl) s =
        .next (t.answered .desk .mountRoll tag pl (Reply.ok (mediaReport t))))) ∧
    (∀ n : Fin 2,
      let pl : List Byte := [BitVec.ofNat 8 n.val]
      let t : State :=
        { s with media := { s.media with
          rolls := s.media.rolls.set n.val .empty n.isLt
          rollInPath := if s.media.rollInPath = some n then none else s.media.rollInPath } }
      s.serves .unmountRoll .desk pl = true →
      (locked n → exec (.unmountRoll .desk tag pl) s =
        .next (s.answered .desk .unmountRoll tag pl (Reply.refuse .inUse))) ∧
      (¬ locked n → s.media.rolls[n] = .empty → exec (.unmountRoll .desk tag pl) s =
        .next (s.answered .desk .unmountRoll tag pl (Reply.ok (mediaReport s)))) ∧
      (¬ locked n → s.media.rolls[n] ≠ .empty → exec (.unmountRoll .desk tag pl) s =
        .next (t.answered .desk .unmountRoll tag pl
          (Reply.ok (unmountBytes s.media.rolls[n] ++ mediaReport t))))) ∧
    (∀ (mt : Fin 16) (width dry pause : Nat), width < 65536 → dry < 65536 → pause < 65536 →
      let pl := leBytes 1 mt.val ++ leBytes 2 width ++ leBytes 2 dry ++ leBytes 2 pause
      let k : MediaType :=
        { defined := true, width := max 1000 (min width 16256), dryBase := min dry 3600,
          pauseLimit := max 1 (min pause 600) }
      let t : State :=
        { s with media := { s.media with types := s.media.types.set mt.val k mt.isLt } }
      s.serves .setMediaType .desk pl = true → exec (.setMediaType .desk tag pl) s =
        .next (t.answered .desk .setMediaType tag pl (Reply.ok (mediaTypeBytes k ++ mediaReport t)))) ∧
    (∀ head cut tol ack cutter timeout : Nat, head < 65536 → cut < 65536 → tol < 65536 →
      ack < 281474976710656 → cutter < 281474976710656 → timeout < 281474976710656 →
      let pl := leBytes 2 head ++ leBytes 2 cut ++ leBytes 2 tol ++ leBytes 6 ack ++
        leBytes 6 cutter ++ leBytes 6 timeout
      let head' := max 100 (min head 20000)
      let k : PathSettings :=
        { dHead := head', dCut := max (head' + 100) (min cut 30000), cutTolerance := min tol 500,
          ackLimit := max 100 (min ack 10000), cutterTimeout := max 1000 (min cutter 20000),
          headTimeout := max 5000 (min timeout 60000) }
      let t : State := { s with media := { s.media with settings := k } }
      s.serves .setPath .desk pl = true → exec (.setPath .desk tag pl) s =
        .next (t.answered .desk .setPath tag pl (Reply.ok (pathBytes k ++ mediaReport t))))

/-- CLEAR_CUTTER in every state of the cutter, on another port and with a payload, and the CUT that
reaches the head while the cutter is READY, by a step of the feed under a TAKEN hold or by the hold's
becoming TAKEN (R116, R118, R126, R128, R168, R184). The bytes of the media report rest on the
model's choices of logs 8, 36 and 37. -/
def Obligations.ClearCutter : Prop :=
  (∀ (s : State) (tag : Byte), s.serves .clearCutter .desk [] = true →
    let t : State := { s with media := { s.media with cutter := .ready } }
    exec (.clearCutter .desk tag []) s = .next
      (match s.media.cutter with
        | .ready => s.answered .desk .clearCutter tag [] (Reply.ok (mediaReport s))
        | .fault =>
          if s.pins.cutHome then t.answered .desk .clearCutter tag [] (Reply.ok (mediaReport t))
          else s.answered .desk .clearCutter tag [] { code := .wrongState, payload := mediaReport s }
        | _ => s.answered .desk .clearCutter tag [] { code := .wrongState, payload := mediaReport s })) ∧
  (∀ (s : State) (p : Port) (tag : Byte) (pl : List Byte), pl.length ≤ 1020 → s.pins.reset = false →
    s.portHeld p = false → (s.ports.unit p).txn = .idle → (s.ports.unit p).state = .normal →
    (p ≠ .desk → exec (.clearCutter p tag pl) s =
      .next (s.answered p .clearCutter tag pl (Reply.refuse .notThisPort))) ∧
    (p = .desk → pl ≠ [] → exec (.clearCutter p tag pl) s =
      .next (s.answered p .clearCutter tag pl (Reply.refuse .badValue)))) ∧
  (∀ (s : State) (tag : Byte) (m : Mark) (ms : List Mark), s.pins.reset = false →
    s.media.marks = m :: ms → m.kind = .cut → s.media.cutter = .ready →
    let served (t : State) (q : Pos) : Prop :=
      t.media.cutter = .starting ∧ t.cutGo = true ∧
      t.media.cutterTimer = some (s.now + s.media.settings.cutterTimeout) ∧
      t.media.marks = { m with fired := true, service := .inService, captured := some q } :: ms
    (s.media.hold.state = .taken → m.fired = false → s.media.feeding = none →
      0 ≤ (s.media.pos + 1 - m.pos).toInt → s.stops .engine .feedWhileHeld = false →
      ∃ t : State, exec (.feedStep .forward) s = .next t ∧ served t (s.media.pos + 1)) ∧
    (s.media.hold.state = .requested → m.fired = true → m.service = .notBegun →
      s.serves .holdTaken .engine [] = true →
      ∃ t : State, exec (.holdTaken .engine tag []) s = .next t ∧ served t s.media.pos))

/-- A step of the feed while the hold is not TAKEN: a reverse step moves the position and the roll and
nothing else; a forward step that does not exhaust its roll also fires the head mark it reaches (R111,
R112, R116, R117). -/
def Obligations.FeedSteps : Prop :=
  ∀ s : State, s.pins.reset = false → s.media.hold.state ≠ .taken →
    (∃ t : State, exec (.feedStep .reverse) s = .next t ∧
      t = { s with media := { s.media with pos := s.media.pos - 1, rolls := t.media.rolls } } ∧
      (s.media.feeding = none → t.media.rolls = s.media.rolls) ∧
      (∀ n f, s.media.feeding = some (n, f) → t.media.rolls = s.media.rolls.set n.val (.mounted
        (if f.remaining < f.declared then
          { f with remaining := f.remaining + 1, netFed := f.netFed - 1 } else f)) n.isLt)) ∧
    ((∀ n f, s.media.feeding = some (n, f) → 1 < f.remaining) →
      ∃ t : State, exec (.feedStep .forward) s = .next t ∧ t.media.pos = s.media.pos + 1 ∧
        (s.media.feeding = none → t.media.rolls = s.media.rolls) ∧
        (∀ n f, s.media.feeding = some (n, f) → t.media.rolls = s.media.rolls.set n.val (.mounted
          { f with
            remaining := f.remaining - 1
            netFed := f.netFed + 1
            lowNoticed := f.lowNoticed || (20000 ≤ f.remaining && f.remaining - 1 < 20000) })
          n.isLt) ∧
        (∀ m ms, s.media.marks = m :: ms → t.media.marks =
          { m with fired := m.fired || 0 ≤ (s.media.pos + 1 - m.pos).toInt } :: ms) ∧
        (s.media.marks = [] → t.media.marks = []) ∧
        t.media.hold = s.media.hold.follow s.now s.media.settings.ackLimit t.holdReasons ∧
        t.media = { s.media with
                    pos := t.media.pos, rolls := t.media.rolls, marks := t.media.marks,
                    hold := t.media.hold, pause := t.media.pause } ∧
        SettingsKept s t ∧ t.ink.bays = s.ink.bays ∧ t.meter = s.meter ∧ t.scan = s.scan ∧
        t.sched = s.sched ∧ t.cost = s.cost ∧ t.colour = s.colour ∧ t.clock = s.clock ∧
        t.outside = s.outside)

/-- The forward step that exhausts the roll ends a PRINTING copy MEDIA_OUT and sets the ABORT order; a
step taken while the hold is TAKEN is counted and records FEED_WHILE_HELD (R101, R111, R112, R121). -/
def Obligations.RollEndsAndHeldFeed : Prop :=
  (∀ (s : State) (n : Fin 2) (f : RollFigures), s.pins.reset = false →
    s.media.feeding = some (n, f) → f.remaining = 1 → s.media.hold.state ≠ .taken →
    ∃ t : State, exec (.feedStep .forward) s = .next t ∧ t.media.pos = s.media.pos + 1 ∧
      (∃ f', t.media.rolls = s.media.rolls.set n.val (.exhausted f') n.isLt ∧ f'.remaining = 0 ∧
        f'.netFed = f.netFed + 1 ∧ f'.declared = f.declared) ∧
      (s.printing = none → t.sched = s.sched) ∧
      (∀ g, s.sched.grant = some g → g.printing = true →
        t.sched = { endedSchedule s g with abort := some g.ref } ∧
        ∀ j c j' c', s.attempt? g.ref = some (j, c) → t.attempt? g.ref = some (j', c') →
          c'.state ≠ .printing ∧ c'.record.endCause = some .mediaOut ∧
          c'.record.ended = some { time := s.now, pos := s.media.pos + 1 }) ∧
      SettingsKept s t ∧ t.ink.bays = s.ink.bays ∧ t.meter = s.meter ∧ t.scan = s.scan ∧
      t.clock = s.clock ∧ t.outside = s.outside) ∧
  (∀ (s : State) (d : Direction), s.pins.reset = false → s.media.hold.state = .taken →
    s.portHeld .engine = false → s.stops .engine .feedWhileHeld = false →
    ∃ t : State, exec (.feedStep d) s = .next t ∧
      t.media.pos = (match d with | .forward => s.media.pos + 1 | .reverse => s.media.pos - 1) ∧
      t.ports.engine.status[FaultKind.index .feedWhileHeld] =
        (s.ports.engine.status[FaultKind.index .feedWhileHeld]).note ∧
      SettingsKept s t ∧ t.ink.bays = s.ink.bays ∧ t.meter = s.meter ∧ t.scan = s.scan ∧
      t.clock = s.clock ∧ t.outside = s.outside)

/-- CUT_HOME falls: STARTING becomes RETURNING, READY becomes FAULT with CUTTER_FAULT, and nothing but
the line moves otherwise; CUT_HOME rises outside RETURNING: only the line moves (R125). That only the
line moves where R125 names no change is the model's choice (log 4). -/
def cutHomeEdges : Prop :=
  ∀ s : State, s.pins.reset = false →
    exec .cutHomeFall s = .next
      (match s.media.cutter with
        | .starting =>
          { s with pins := { s.pins with cutHome := false }
                   media := { s.media with cutter := .returning } }
        | .ready =>
          State.notify [{ kind := .cutterFault, subject := .none, detail := 0 }]
            { s with pins := { s.pins with cutHome := false }
                     media := { s.media with cutter := .fault } }
        | _ => { s with pins := { s.pins with cutHome := false } }) ∧
    (s.media.cutter ≠ .returning →
      exec .cutHomeRise s = .next { s with pins := { s.pins with cutHome := true } })

/-- The end of a stroke, where no other mark has been reached: CUT_HOME rising in RETURNING resolves
the cut DONE, with OFFSET beyond the tolerance and the cut charged to the earlier owner; the cutter
timer's expiry makes the cutter FAULT and the cut FAILED, with UNCUT and no charge (R14, R126, R127). That the
expiry moves the count to the due time, or leaves it where that has passed, is the model's choice
(log 3). -/
def strokesEnd : Prop :=
  ∀ (s : State) (m : Mark) (ms : List Mark), s.pins.reset = false → s.media.marks = m :: ms →
    m.kind = .cut → m.service = .inService → m.owners.Nodup → s.restAhead →
    let frame (t : State) : Prop :=
      t.media.marks = ms ∧ t.media.cutterTimer = none ∧ SettingsKept s t ∧ t.meter = s.meter ∧
      t.scan = s.scan ∧ t.sched = s.sched ∧ t.ink.bays = s.ink.bays ∧ t.colour = s.colour ∧
      t.media.pos = s.media.pos ∧ t.media.rolls = s.media.rolls ∧ t.pending = s.pending
    let owner (t : State) (P : CopyRef → Attempt → Attempt → Prop) : Prop :=
      ∀ r ∈ m.owners, ∀ j c j' c', s.attempt? r = some (j, c) → t.attempt? r = some (j', c') →
        c'.record.outstandingCuts = c.record.outstandingCuts - 1 ∧ P r c.record c'.record
    (s.media.cutter = .returning → ∃ t : State, exec .cutHomeRise s = .next t ∧
      t.media.cutter = .ready ∧ frame t ∧ t.clock = s.clock ∧
      t.pins = { s.pins with cutHome := true } ∧
      owner t fun r a a' =>
        a'.cutsCharged = (if m.owners.head? = some r then a.cutsCharged + 1 else a.cutsCharged) ∧
        a'.offset = (a.offset || ((s.media.settings.cutTolerance : Int) < m.overshoot)) ∧
        a'.uncut = a.uncut) ∧
    (∀ d, s.media.cutterTimer = some d → (s.media.cutter = .starting ∨ s.media.cutter = .returning) →
      ∃ t : State, exec .cutterTimerExpiry s = .next t ∧ t.media.cutter = .fault ∧ frame t ∧
      t.clock = s.clock.advance (d - s.clock.mono) ∧ t.pins = s.pins ∧
      owner t fun _ a a' => a'.cutsCharged = a.cutsCharged ∧ a'.offset = a.offset ∧ a'.uncut = true)

/-- The cutter: its home edges and the end of a stroke (R125 to R127; the model's choices of logs 3
and 4). -/
def Obligations.Cutter : Prop := cutHomeEdges ∧ strokesEnd

/-! ### Colour -/

/-- R140, the difference of two colours. -/
def Obligations.ColourDifference : Prop :=
  ∀ x y : Colour, x.inRange = true → y.inRange = true →
    let d : Int := (x.l - y.l) ^ 2 + (x.a - y.a) ^ 2 + (x.b - y.b) ^ 2
    let n := floorSqrt d.toNat
    (x.l - y.l) ^ 2 ≤ 100000000 ∧ (x.a - y.a) ^ 2 ≤ 1600000000 ∧ (x.b - y.b) ^ 2 ≤ 1600000000 ∧
    0 ≤ d ∧ d ≤ 3300000000 ∧ n * n ≤ d.toNat ∧ d.toNat < (n + 1) * (n + 1) ∧
    deltaE x y = (if d.toNat - n * n ≤ n then n else n + 1) ∧ deltaE x y ≤ 57446 ∧
    (d = 0 → deltaE x y = 0)

/-- R142, the tolerances: a strip whose figures have been computed passes exactly when all of them
hold. -/
def Obligations.Tolerances : Prop :=
  ∀ (p : CheckPolicy) (m : Option (List (Option Colour))) (targets : List Colour)
    (records : List PatchRecord),
    targets.length * 3 ≤ (records.filter PatchRecord.ok).length * 4 →
    ∃ mean top : Nat, (judge p m targets records).2.absMean = some mean ∧
      (judge p m targets records).2.absMax = some top ∧
      ((judge p m targets records).1 = .pass ∨ (judge p m targets records).1 = .fail) ∧
      ((judge p m targets records).1 = .pass ↔
        top ≤ p.absMax ∧ mean ≤ p.absMean ∧
          ∀ ed, (judge p m targets records).2.editionMax = some ed → ed ≤ p.editionMax)

/-- The messages of the head line: a well-formed PATCH is stored, a message with another exchange
number or outside an exchange is discarded, a byte after a gap begins a new message (R138, R186); and
the dry wait timer's expiry begins an exchange (R136, R137). The model's choices here: that the commands
act by their bytes, whatever the row's name (log 18), the record of a valid flag byte other than 0 or 1
(log 11), that the expiry moves the count to the due time, or leaves it where that has passed (log 3),
and the record of the bytes sent (log 23). -/
def Obligations.HeadMessages : Prop :=
  (∀ (s : State) (bytes : List Byte) (m : Measurement) (x : BitVec 8) (rs : List PatchRecord),
    s.pins.reset = false → bytes ≠ [] → (s.colour.gathered ++ bytes).length = 12 →
    let g := s.colour.gathered ++ bytes
    s.colour.measurement = some m → m.phase = .exchanging x rs → g.getD 0 0 = 2 → g.getD 1 0 = x →
    (g.getD 2 0).toNat = rs.length → rs.length < (s.targetsOf m.owner).length →
    (crc16 (g.take 10)).toNat = (g.getD 10 0).toNat + 256 * (g.getD 11 0).toNat →
    exec (.patch bytes) s = .next { s with colour := { s.colour with
      gathered := []
      measurement := some { m with phase := .exchanging x (rs ++ [patchRecord g]) } } }) ∧
  (∀ (s : State) (bytes : List Byte), s.pins.reset = false → bytes ≠ [] →
    (s.colour.gathered ++ bytes).length = 12 →
    (∀ m x rs, s.colour.measurement = some m → m.phase = .exchanging x rs →
      (s.colour.gathered ++ bytes).getD 1 0 ≠ x) →
    let t : State := { s with colour := { s.colour with gathered := [] } }
    exec (.patch bytes) s = .next t ∧ exec (.headEnd bytes) s = .next t ∧
      exec (.headOther bytes) s = .next t) ∧
  (∀ (s : State) (b : Byte), s.pins.reset = false →
    exec (.headByteGap b) s = .next { s with colour := { s.colour with gathered := [b] } }) ∧
  (∀ (s : State) (d : Nat) (m : Measurement), s.pins.reset = false → s.colour.dryTimer = some d →
    s.colour.measurement = some m → m.phase = .drying →
    let clock := s.clock.advance (d - s.clock.mono)
    let x := s.colour.exchange + 1
    exec .dryWaitExpiry s = .next { s with
      clock := clock
      colour := { s.colour with
        exchange := x
        measurement := some { m with phase := .exchanging x [] }
        dryTimer := none
        headTimer := some (clock.mono + s.media.settings.headTimeout)
        sent := withCheck ([1, x, BitVec.ofNat 8 (s.targetsOf m.owner).length] ++
          List.replicate 7 0) } })

/-- The end of an exchange whose mark is the head and where no other mark has been reached: a
well-formed END is judged; a malformed message and the head timer's expiry give UNMEASURED(HEAD);
after a cancel the records are discarded and no result is written (R138, R139, R143 to R145). That the
timer's expiry moves the count to the due time, or leaves it where that has passed, is the model's choice
(log 3), and so is that END and the other kinds act by their bytes (log 18). -/
def Obligations.ExchangesEnd : Prop :=
  ∀ (s : State) (k : Mark) (ms : List Mark) (m : Measurement) (x : BitVec 8)
    (rs : List PatchRecord) (j : Job) (p : CheckPolicy), s.pins.reset = false →
    s.media.marks = k :: ms → k.kind = .measure → k.owners = [m.owner] → s.restAhead →
    (∀ y ∈ ms, m.owner ∈ y.owners → y.kind = .cut) →
    s.colour.measurement = some m → m.phase = .exchanging x rs →
    s.job? m.owner.handle = some j → j.check = some p →
    let head : MeasureResult × Figures :=
      (.unmeasured .head, { Figures.none with valid := some rs.length })
    (∀ bytes : List Byte, bytes ≠ [] → (s.colour.gathered ++ bytes).length = 12 →
      let g := s.colour.gathered ++ bytes
      let good := (crc16 (g.take 10)).toNat = (g.getD 10 0).toNat + 256 * (g.getD 11 0).toNat ∧
        (g.getD 0 0).toNat = 3 ∧ (g.getD 2 0).toNat = (s.targetsOf m.owner).length ∧
        rs.length = (s.targetsOf m.owner).length
      g.getD 1 0 = x →
      (m.discard = false → good → ∃ t : State, exec (.headEnd bytes) s = .next t ∧
        t.colour.gathered = [] ∧
        reported s t m.owner s.clock (judge p j.editionMatch (s.targetsOf m.owner) rs).1
          (judge p j.editionMatch (s.targetsOf m.owner) rs).2) ∧
      (m.discard = false → 3 < (g.getD 0 0).toNat → ∃ t : State, exec (.headOther bytes) s = .next t ∧
        reported s t m.owner s.clock head.1 head.2) ∧
      (m.discard = true → good → ∃ t : State, exec (.headEnd bytes) s = .next t ∧
        t.colour.measurement = none ∧ t.colour.history = s.colour.history ∧
        t.media.marks = ms ∧
        ∀ i c i' c', s.attempt? m.owner = some (i, c) → t.attempt? m.owner = some (i', c') →
          c'.record.measure = .none ∧ c'.record.measureDropped = true)) ∧
    (∀ d, s.colour.headTimer = some d → m.discard = false →
      ∃ t : State, exec .headTimerExpiry s = .next t ∧
        reported s t m.owner (s.clock.advance (d - s.clock.mono)) head.1 head.2)

/-! ### Settings of colour, cost, time and ports -/

/-- SET_REFERENCE, SET_HISTORY_SIZE, SET_PRICES and SET_TIME (R130, R147, R150, R181). That the set as
stored, which the first and the third answer, leaves the in-use count out is the model's choice
(log 36). -/
def deskSettings : Prop :=
  ∀ (s : State) (tag : Byte),
    (∀ (r : Fin 16) (patches : List Colour), 1 ≤ patches.length → patches.length ≤ 48 →
      (∀ x ∈ patches, x.inRange = true) →
      let body := leBytes 1 patches.length ++ (patches.map colourBytes).flatten
      let pl := leBytes 1 r.val ++ body
      s.serves .setReference .desk pl = true → exec (.setReference .desk tag pl) s = .next
        (if (s.colour.refs[r]).inUse = 0 then
          State.answered .desk .setReference tag pl (Reply.ok body)
            { s with colour := { s.colour with
              refs := s.colour.refs.set r.val { patches := patches, inUse := 0 } r.isLt } }
        else s.answered .desk .setReference tag pl (Reply.refuse .inUse))) ∧
    (∀ n : Nat, n < 65536 → s.serves .setHistorySize .desk (leBytes 2 n) = true →
      exec (.setHistorySize .desk tag (leBytes 2 n)) s = .next
        (if n = 64 ∨ n = 128 ∨ n = 256 then
          State.answered .desk .setHistorySize tag (leBytes 2 n) (Reply.ok [])
            { s with colour := { s.colour with histSize := n, history := [] } }
        else s.answered .desk .setHistorySize tag (leBytes 2 n) (Reply.refuse .badValue))) ∧
    (∀ (n : Fin 4) (p : PriceSet), (∀ c : Fin 12, p.ink[c] ≤ 1000000) →
      (∀ t : Fin 16, p.media[t] ≤ 10000000) → p.cut ≤ 100000 → p.measurement ≤ 100000 →
      p.inUse = 0 →
      let pl := leBytes 1 n.val ++ priceBytes p
      s.serves .setPrices .desk pl = true → exec (.setPrices .desk tag pl) s = .next
        (if (s.cost.prices[n]).inUse = 0 then
          State.answered .desk .setPrices tag pl (Reply.ok (priceBytes p))
            { s with cost := { s.cost with prices := s.cost.prices.set n.val p n.isLt } }
        else s.answered .desk .setPrices tag pl (Reply.refuse .inUse))) ∧
    (∀ day ms : Nat, day < 65536 → ms < 4294967296 →
      let pl := leBytes 2 day ++ leBytes 4 ms
      s.serves .setTime .desk pl = true → exec (.setTime .desk tag pl) s = .next
        (if ms < 86400000 then
          State.answered .desk .setTime tag pl
            (Reply.ok (leBytes 2 day ++ leBytes 4 ms ++ leBytes 6 s.clock.mono))
            { s with clock := { s.clock with day := day, ms := ms } }
        else s.answered .desk .setTime tag pl (Reply.refuse .badValue)))

/-- SET_ACCOUNT replaces the enabled flag and the limit; where the limit changes, the overrun flag is
evaluated, with ACCOUNT_OVERRUN on its passage to set (R152, R161). Account 0 cannot be disabled. -/
def accountSettings : Prop :=
  ∀ (s : State) (tag : Byte) (i : Fin 32) (enabled : Bool) (limit : Nat), limit < 281474976710656 →
    let pl := leBytes 1 i.val ++ flagByte enabled ++ leBytes 6 limit
    s.serves .setAccount .desk pl = true →
    let a := s.cost.accounts[i]
    let now : Bool := limit < a.charged + a.committed && (i != 0 || 0 < limit)
    let a' : Account :=
      { a with enabled := enabled, limit := limit,
               overrun := if limit = a.limit then a.overrun else now }
    (i = 0 → enabled = false → exec (.setAccount .desk tag pl) s =
      .next (s.answered .desk .setAccount tag pl (Reply.refuse .badValue))) ∧
    ((i ≠ 0 ∨ enabled = true) → exec (.setAccount .desk tag pl) s = .next
      (State.notify
        (if limit ≠ a.limit ∧ now = true ∧ a.overrun = false then
          [{ kind := .accountOverrun, subject := .account i.val,
             detail := min (a.charged + a.committed - limit) 4294967295 }]
        else [])
        (State.answered .desk .setAccount tag pl (Reply.ok (accountBytes a'))
          { s with cost := { s.cost with
            accounts := s.cost.accounts.set i.val a' i.isLt } })))

/-- The desk station's settings of colour, prices, time and accounts (R130, R147, R150, R152, R161,
R181). -/
def Obligations.DeskSettings : Prop := deskSettings ∧ accountSettings

/-- SET_FAULT_POLICY, FETCH_NOTICES, SET_NOTICE_LEVELS and CLEAR_FAULTS (R172, R173, R176 to R178). The
order of SET_NOTICE_LEVELS's response and the places of the fault record in CLEAR_FAULTS's are the
model's choice (log 37). -/
def portRequests : Prop :=
  ∀ (s : State) (tag : Byte),
    (∀ (p : Port) (v : Vector Policy 11),
      let pl := leBytes 1 (portCode p) ++ policyBytes v
      s.serves .setFaultPolicy .desk pl = true → exec (.setFaultPolicy .desk tag pl) s =
        .next (State.answered .desk .setFaultPolicy tag pl (Reply.ok (policyBytes v))
          { s with ports := s.ports.modifyUnit p fun u => { u with policy := v } })) ∧
    (∀ p : Port, s.serves .fetchNotices p [] = true → exec (.fetchNotices p tag []) s =
      .next (State.answered p .fetchNotices tag []
        (Reply.ok (leBytes 1 (min 8 (s.ports.unit p).queue.length) ++
          leBytes 1 ((s.ports.unit p).queue.length - 8) ++ flagByte (s.ports.unit p).wrapped ++
          (((s.ports.unit p).queue.take 8).map entryBytes).flatten))
        { s with ports := s.ports.modifyUnit p fun u =>
          { u with queue := u.queue.drop 8, wrapped := false } })) ∧
    (∀ (p : Port) (threshold : Nat) (levels : Vector Nat 18), threshold < 256 →
      (∀ i : Fin 18, levels[i] < 256) →
      let pl := leBytes 1 threshold ++ tableBytes (leBytes 1) levels
      s.serves .setNoticeLevels p pl = true → exec (.setNoticeLevels p tag pl) s = .next
        (if 1 ≤ threshold ∧ threshold ≤ 7 ∧ ∀ i : Fin 18, levels[i] ≤ 7 then
          State.answered p .setNoticeLevels tag pl (Reply.ok pl)
            { s with ports := s.ports.modifyUnit p fun u =>
              { u with threshold := threshold, levels := levels } }
        else s.answered p .setNoticeLevels tag pl (Reply.refuse .badValue))) ∧
    (∀ p : Port, s.serves .clearFaults p [] = true →
      let ps := s.ports.modifyUnit p fun u =>
        { u with status := noFaults, capture := none, multiple := false, badCount := 0,
                 state := .normal }
      exec (.clearFaults p tag []) s = .next
        (State.answered p .clearFaults tag [] (Reply.ok (faultRecordBytes (s.ports.unit p)))
          { s with ports :=
            if p = .desk then { ps with summary := none, summaryMultiple := false } else ps }))

/-- A port unit once a notice has been offered to it: an entry with the port's level and the time joins
the queue where the level is above 0, and on a full queue the oldest entry gives way and the wrapped flag
is set (R171, R172). -/
def queuedNotice (now : Nat) (n : Notice) (u : PortUnit) : PortUnit :=
  let level := u.levels[n.kind.index]
  if level = 0 then u
  else
    { u with
      queue := (if u.queue.length < 32 then u.queue else u.queue.drop 1) ++
        [{ notice := n, level := level, time := now % 4294967296 }]
      wrapped := u.wrapped || 32 ≤ u.queue.length }

/-- A notice raised is offered to each of the three ports in its event, but to none that is held, here
the CUTTER_FAULT of a cutter that leaves home unbidden; and the notices of one event enter in the order
of their kinds, and within a kind of their subjects (R125, R171, R172). -/
def noticesQueue : Prop :=
  (∀ s : State, s.pins.reset = false → s.media.cutter = .ready →
    ∃ t : State, exec .cutHomeFall s = .next t ∧ ∀ p : Port, t.ports.unit p =
      if s.portHeld p then s.ports.unit p
      else queuedNotice s.now { kind := .cutterFault, subject := .none, detail := 0 } (s.ports.unit p)) ∧
  (∀ (e : Ev) (p : Port), e.finish.ports.unit p =
    if e.st.portHeld p then e.st.ports.unit p
    else (orderNotices e.raised).foldl (fun u n => queuedNotice e.st.now n u) (e.st.ports.unit p)) ∧
  (∀ l : List Notice, (orderNotices l).Perm l ∧ (orderNotices l).Pairwise fun x y =>
    x.kind.index < y.kind.index ∨
      (x.kind.index = y.kind.index ∧ x.subject.number ≤ y.subject.number))

/-- The requests of the ports, and the queues that notices enter (R171 to R173, R176 to R178). -/
def Obligations.PortRequests : Prop := portRequests ∧ noticesQueue
end

