-- ==== Sys2Proof/Laws/Bytes.lean ====
section
/-! SUPPORT. Laws of the bytes of frames: what a field reads back from bytes written in its place
(R184, R185). -/

namespace Sys2Proof.Machine

@[simp] theorem leBytes_length (n v : Nat) : (leBytes n v).length = n := by
  induction n generalizing v with
  | zero => rfl
  | succ n ih => simp [leBytes, ih]

/-- The bytes of a number read back, as far as they hold it. -/
theorem leNat_leBytes (n v : Nat) : leNat (leBytes n v) = v % 256 ^ n := by
  induction n generalizing v with
  | zero => simp [leBytes, leNat, Nat.mod_one]
  | succ n ih =>
    have e : (256 : Nat) ^ (n + 1) = 256 * 256 ^ n := by ring
    have b : (BitVec.ofNat 8 v).toNat = v % 256 := BitVec.toNat_ofNat v 8
    rw [e, Nat.mod_mul]
    show (BitVec.ofNat 8 v).toNat + 256 * leNat (leBytes n (v / 256)) = _
    rw [ih, b]

theorem leNat_leBytes_of_lt {n v : Nat} (h : v < 256 ^ n) : leNat (leBytes n v) = v := by
  rw [leNat_leBytes, Nat.mod_eq_of_lt h]

/-- A field reads the bytes that stand at its offset. -/
theorem field_mid {pre mid post : List Byte} {off n : Nat} (ho : pre.length = off)
    (hn : mid.length = n) : field (pre ++ (mid ++ post)) off n = leNat mid := by
  subst ho hn
  simp [field]

/-- A field past the first part of a payload. -/
theorem field_drop {pre post : List Byte} {off n : Nat} (ho : pre.length ≤ off) :
    field (pre ++ post) off n = field post (off - pre.length) n := by
  simp [field, List.drop_append, List.drop_eq_nil_of_le ho]

/-- A field within the first part of a payload. -/
theorem field_take {pre post : List Byte} {off n : Nat} (ho : off + n ≤ pre.length) :
    field (pre ++ post) off n = field pre off n := by
  have h1 : off ≤ pre.length := by omega
  simp only [field, List.drop_append_of_le_length h1]
  rw [List.take_append_of_le_length (by simp; omega)]

/-- A field reads the number written at its offset. -/
theorem field_number {pre post : List Byte} {off n v : Nat} (ho : pre.length = off) (h : v < 256 ^ n) :
    field (pre ++ (leBytes n v ++ post)) off n = v := by
  rw [field_mid ho (leBytes_length n v), leNat_leBytes_of_lt h]

/-- The bytes of a collection, seen at one entry. -/
theorem tableBytes_split {α : Type} {n size : Nat} (enc : α → List Byte) (v : Vector α n)
    (hs : ∀ x, (enc x).length = size) (i : Fin n) :
    ∃ pre post, tableBytes enc v = pre ++ (enc v[i] ++ post) ∧ pre.length = size * i.val := by
  have key : ∀ (l : List α) (k : Nat) (h : k < l.length),
      ∃ pre post, (l.map enc).flatten = pre ++ (enc l[k] ++ post) ∧ pre.length = size * k := by
    intro l
    induction l with
    | nil => intro k h; exact absurd h (by simp)
    | cons x xs ih =>
      intro k h
      cases k with
      | zero => exact ⟨[], (xs.map enc).flatten, by simp, by simp⟩
      | succ k =>
        obtain ⟨pre, post, he, hl⟩ := ih k (by simpa using h)
        refine ⟨enc x ++ pre, post, by simp [he], ?_⟩
        simp [hl, hs, Nat.mul_succ, Nat.add_comm]
  have hl : i.val < v.toList.length := by simp
  obtain ⟨pre, post, he, hp⟩ := key v.toList i.val hl
  exact ⟨pre, post, by simpa [tableBytes] using he, hp⟩

theorem tableBytes_length {α : Type} {n size : Nat} (enc : α → List Byte) (v : Vector α n)
    (hs : ∀ x, (enc x).length = size) : (tableBytes enc v).length = size * n := by
  have key : ∀ l : List α, ((l.map enc).flatten).length = size * l.length := by
    intro l
    induction l with
    | nil => simp
    | cons x xs ih => simp [hs, ih, Nat.mul_succ, Nat.add_comm] at *
  have h := key v.toList
  simpa [tableBytes] using h

@[simp] theorem flagByte_length (b : Bool) : (flagByte b).length = 1 := rfl

/-- A flag reads back. -/
theorem flag_flagByte (b : Bool) : flag? (leNat (flagByte b)) = some b := by
  cases b <;> rfl

@[simp] theorem refBytes_length (r : CopyRef) : (refBytes r).length = 3 := by
  simp [refBytes]

/-- An attempt reference reads back. -/
theorem refAt_refBytes (r : CopyRef) (h : r.handle < 256) (c : r.copy < 256) (a : r.attempt < 256) :
    refAt (refBytes r) 0 = r := by
  obtain ⟨x, y, z⟩ := r
  simp only at h c a
  have hx : field (refBytes ⟨x, y, z⟩) 0 1 = x := by
    simpa [refBytes] using field_number (pre := []) (post := leBytes 1 y ++ leBytes 1 z) rfl
      (n := 1) (v := x) (by simpa using h)
  have hy : field (refBytes ⟨x, y, z⟩) 1 1 = y := by
    simpa [refBytes] using field_number (pre := leBytes 1 x) (post := leBytes 1 z) (off := 1)
      (by simp) (n := 1) (v := y) (by simpa using c)
  have hz : field (refBytes ⟨x, y, z⟩) 2 1 = z := by
    simpa [refBytes] using field_number (pre := leBytes 1 x ++ leBytes 1 y) (post := []) (off := 2)
      (by simp) (n := 1) (v := z) (by simpa using a)
  simp [refAt, hx, hy, hz]

end Sys2Proof.Machine
end

