-- ==== Sys2Proof/Laws/State.lean ====
section
/-! SUPPORT. What each update of an event leaves in each field, so that no proof unfolds an update: one
lemma for each field and update. -/

namespace Sys2Proof.Machine

/-! ### Ev.mapStore -/

@[simp] theorem mapStore_store (f : JobStore → JobStore) (e : Ev) :
    (e.mapStore f).st.store = f e.st.store := rfl
@[simp] theorem mapStore_ink (f : JobStore → JobStore) (e : Ev) :
    (e.mapStore f).st.ink = e.st.ink := rfl
@[simp] theorem mapStore_meter (f : JobStore → JobStore) (e : Ev) :
    (e.mapStore f).st.meter = e.st.meter := rfl
@[simp] theorem mapStore_scan (f : JobStore → JobStore) (e : Ev) :
    (e.mapStore f).st.scan = e.st.scan := rfl
@[simp] theorem mapStore_sched (f : JobStore → JobStore) (e : Ev) :
    (e.mapStore f).st.sched = e.st.sched := rfl
@[simp] theorem mapStore_media (f : JobStore → JobStore) (e : Ev) :
    (e.mapStore f).st.media = e.st.media := rfl
@[simp] theorem mapStore_colour (f : JobStore → JobStore) (e : Ev) :
    (e.mapStore f).st.colour = e.st.colour := rfl
@[simp] theorem mapStore_cost (f : JobStore → JobStore) (e : Ev) :
    (e.mapStore f).st.cost = e.st.cost := rfl
@[simp] theorem mapStore_ports (f : JobStore → JobStore) (e : Ev) :
    (e.mapStore f).st.ports = e.st.ports := rfl
@[simp] theorem mapStore_clock (f : JobStore → JobStore) (e : Ev) :
    (e.mapStore f).st.clock = e.st.clock := rfl
@[simp] theorem mapStore_pins (f : JobStore → JobStore) (e : Ev) :
    (e.mapStore f).st.pins = e.st.pins := rfl
@[simp] theorem mapStore_pending (f : JobStore → JobStore) (e : Ev) :
    (e.mapStore f).st.pending = e.st.pending := rfl
@[simp] theorem mapStore_start (f : JobStore → JobStore) (e : Ev) :
    (e.mapStore f).start = e.start := rfl
@[simp] theorem mapStore_raised (f : JobStore → JobStore) (e : Ev) :
    (e.mapStore f).raised = e.raised := rfl
@[simp] theorem mapStore_due (f : JobStore → JobStore) (e : Ev) :
    (e.mapStore f).due = e.due := rfl
@[simp] theorem mapStore_lost (f : JobStore → JobStore) (e : Ev) :
    (e.mapStore f).lost = e.lost := rfl
@[simp] theorem mapStore_freed (f : JobStore → JobStore) (e : Ev) :
    (e.mapStore f).freed = e.freed := rfl

/-! ### Ev.mapInk -/

@[simp] theorem mapInk_store (f : InkUnit → InkUnit) (e : Ev) :
    (e.mapInk f).st.store = e.st.store := rfl
@[simp] theorem mapInk_ink (f : InkUnit → InkUnit) (e : Ev) :
    (e.mapInk f).st.ink = f e.st.ink := rfl
@[simp] theorem mapInk_meter (f : InkUnit → InkUnit) (e : Ev) :
    (e.mapInk f).st.meter = e.st.meter := rfl
@[simp] theorem mapInk_scan (f : InkUnit → InkUnit) (e : Ev) :
    (e.mapInk f).st.scan = e.st.scan := rfl
@[simp] theorem mapInk_sched (f : InkUnit → InkUnit) (e : Ev) :
    (e.mapInk f).st.sched = e.st.sched := rfl
@[simp] theorem mapInk_media (f : InkUnit → InkUnit) (e : Ev) :
    (e.mapInk f).st.media = e.st.media := rfl
@[simp] theorem mapInk_colour (f : InkUnit → InkUnit) (e : Ev) :
    (e.mapInk f).st.colour = e.st.colour := rfl
@[simp] theorem mapInk_cost (f : InkUnit → InkUnit) (e : Ev) :
    (e.mapInk f).st.cost = e.st.cost := rfl
@[simp] theorem mapInk_ports (f : InkUnit → InkUnit) (e : Ev) :
    (e.mapInk f).st.ports = e.st.ports := rfl
@[simp] theorem mapInk_clock (f : InkUnit → InkUnit) (e : Ev) :
    (e.mapInk f).st.clock = e.st.clock := rfl
@[simp] theorem mapInk_pins (f : InkUnit → InkUnit) (e : Ev) :
    (e.mapInk f).st.pins = e.st.pins := rfl
@[simp] theorem mapInk_pending (f : InkUnit → InkUnit) (e : Ev) :
    (e.mapInk f).st.pending = e.st.pending := rfl
@[simp] theorem mapInk_start (f : InkUnit → InkUnit) (e : Ev) :
    (e.mapInk f).start = e.start := rfl
@[simp] theorem mapInk_raised (f : InkUnit → InkUnit) (e : Ev) :
    (e.mapInk f).raised = e.raised := rfl
@[simp] theorem mapInk_due (f : InkUnit → InkUnit) (e : Ev) :
    (e.mapInk f).due = e.due := rfl
@[simp] theorem mapInk_lost (f : InkUnit → InkUnit) (e : Ev) :
    (e.mapInk f).lost = e.lost := rfl
@[simp] theorem mapInk_freed (f : InkUnit → InkUnit) (e : Ev) :
    (e.mapInk f).freed = e.freed := rfl

/-! ### Ev.mapMeter -/

@[simp] theorem mapMeter_store (f : Metering → Metering) (e : Ev) :
    (e.mapMeter f).st.store = e.st.store := rfl
@[simp] theorem mapMeter_ink (f : Metering → Metering) (e : Ev) :
    (e.mapMeter f).st.ink = e.st.ink := rfl
@[simp] theorem mapMeter_meter (f : Metering → Metering) (e : Ev) :
    (e.mapMeter f).st.meter = f e.st.meter := rfl
@[simp] theorem mapMeter_scan (f : Metering → Metering) (e : Ev) :
    (e.mapMeter f).st.scan = e.st.scan := rfl
@[simp] theorem mapMeter_sched (f : Metering → Metering) (e : Ev) :
    (e.mapMeter f).st.sched = e.st.sched := rfl
@[simp] theorem mapMeter_media (f : Metering → Metering) (e : Ev) :
    (e.mapMeter f).st.media = e.st.media := rfl
@[simp] theorem mapMeter_colour (f : Metering → Metering) (e : Ev) :
    (e.mapMeter f).st.colour = e.st.colour := rfl
@[simp] theorem mapMeter_cost (f : Metering → Metering) (e : Ev) :
    (e.mapMeter f).st.cost = e.st.cost := rfl
@[simp] theorem mapMeter_ports (f : Metering → Metering) (e : Ev) :
    (e.mapMeter f).st.ports = e.st.ports := rfl
@[simp] theorem mapMeter_clock (f : Metering → Metering) (e : Ev) :
    (e.mapMeter f).st.clock = e.st.clock := rfl
@[simp] theorem mapMeter_pins (f : Metering → Metering) (e : Ev) :
    (e.mapMeter f).st.pins = e.st.pins := rfl
@[simp] theorem mapMeter_pending (f : Metering → Metering) (e : Ev) :
    (e.mapMeter f).st.pending = e.st.pending := rfl
@[simp] theorem mapMeter_start (f : Metering → Metering) (e : Ev) :
    (e.mapMeter f).start = e.start := rfl
@[simp] theorem mapMeter_raised (f : Metering → Metering) (e : Ev) :
    (e.mapMeter f).raised = e.raised := rfl
@[simp] theorem mapMeter_due (f : Metering → Metering) (e : Ev) :
    (e.mapMeter f).due = e.due := rfl
@[simp] theorem mapMeter_lost (f : Metering → Metering) (e : Ev) :
    (e.mapMeter f).lost = e.lost := rfl
@[simp] theorem mapMeter_freed (f : Metering → Metering) (e : Ev) :
    (e.mapMeter f).freed = e.freed := rfl

/-! ### Ev.mapScan -/

@[simp] theorem mapScan_store (f : ScanUnit → ScanUnit) (e : Ev) :
    (e.mapScan f).st.store = e.st.store := rfl
@[simp] theorem mapScan_ink (f : ScanUnit → ScanUnit) (e : Ev) :
    (e.mapScan f).st.ink = e.st.ink := rfl
@[simp] theorem mapScan_meter (f : ScanUnit → ScanUnit) (e : Ev) :
    (e.mapScan f).st.meter = e.st.meter := rfl
@[simp] theorem mapScan_scan (f : ScanUnit → ScanUnit) (e : Ev) :
    (e.mapScan f).st.scan = f e.st.scan := rfl
@[simp] theorem mapScan_sched (f : ScanUnit → ScanUnit) (e : Ev) :
    (e.mapScan f).st.sched = e.st.sched := rfl
@[simp] theorem mapScan_media (f : ScanUnit → ScanUnit) (e : Ev) :
    (e.mapScan f).st.media = e.st.media := rfl
@[simp] theorem mapScan_colour (f : ScanUnit → ScanUnit) (e : Ev) :
    (e.mapScan f).st.colour = e.st.colour := rfl
@[simp] theorem mapScan_cost (f : ScanUnit → ScanUnit) (e : Ev) :
    (e.mapScan f).st.cost = e.st.cost := rfl
@[simp] theorem mapScan_ports (f : ScanUnit → ScanUnit) (e : Ev) :
    (e.mapScan f).st.ports = e.st.ports := rfl
@[simp] theorem mapScan_clock (f : ScanUnit → ScanUnit) (e : Ev) :
    (e.mapScan f).st.clock = e.st.clock := rfl
@[simp] theorem mapScan_pins (f : ScanUnit → ScanUnit) (e : Ev) :
    (e.mapScan f).st.pins = e.st.pins := rfl
@[simp] theorem mapScan_pending (f : ScanUnit → ScanUnit) (e : Ev) :
    (e.mapScan f).st.pending = e.st.pending := rfl
@[simp] theorem mapScan_start (f : ScanUnit → ScanUnit) (e : Ev) :
    (e.mapScan f).start = e.start := rfl
@[simp] theorem mapScan_raised (f : ScanUnit → ScanUnit) (e : Ev) :
    (e.mapScan f).raised = e.raised := rfl
@[simp] theorem mapScan_due (f : ScanUnit → ScanUnit) (e : Ev) :
    (e.mapScan f).due = e.due := rfl
@[simp] theorem mapScan_lost (f : ScanUnit → ScanUnit) (e : Ev) :
    (e.mapScan f).lost = e.lost := rfl
@[simp] theorem mapScan_freed (f : ScanUnit → ScanUnit) (e : Ev) :
    (e.mapScan f).freed = e.freed := rfl

/-! ### Ev.mapSched -/

@[simp] theorem mapSched_store (f : Schedule → Schedule) (e : Ev) :
    (e.mapSched f).st.store = e.st.store := rfl
@[simp] theorem mapSched_ink (f : Schedule → Schedule) (e : Ev) :
    (e.mapSched f).st.ink = e.st.ink := rfl
@[simp] theorem mapSched_meter (f : Schedule → Schedule) (e : Ev) :
    (e.mapSched f).st.meter = e.st.meter := rfl
@[simp] theorem mapSched_scan (f : Schedule → Schedule) (e : Ev) :
    (e.mapSched f).st.scan = e.st.scan := rfl
@[simp] theorem mapSched_sched (f : Schedule → Schedule) (e : Ev) :
    (e.mapSched f).st.sched = f e.st.sched := rfl
@[simp] theorem mapSched_media (f : Schedule → Schedule) (e : Ev) :
    (e.mapSched f).st.media = e.st.media := rfl
@[simp] theorem mapSched_colour (f : Schedule → Schedule) (e : Ev) :
    (e.mapSched f).st.colour = e.st.colour := rfl
@[simp] theorem mapSched_cost (f : Schedule → Schedule) (e : Ev) :
    (e.mapSched f).st.cost = e.st.cost := rfl
@[simp] theorem mapSched_ports (f : Schedule → Schedule) (e : Ev) :
    (e.mapSched f).st.ports = e.st.ports := rfl
@[simp] theorem mapSched_clock (f : Schedule → Schedule) (e : Ev) :
    (e.mapSched f).st.clock = e.st.clock := rfl
@[simp] theorem mapSched_pins (f : Schedule → Schedule) (e : Ev) :
    (e.mapSched f).st.pins = e.st.pins := rfl
@[simp] theorem mapSched_pending (f : Schedule → Schedule) (e : Ev) :
    (e.mapSched f).st.pending = e.st.pending := rfl
@[simp] theorem mapSched_start (f : Schedule → Schedule) (e : Ev) :
    (e.mapSched f).start = e.start := rfl
@[simp] theorem mapSched_raised (f : Schedule → Schedule) (e : Ev) :
    (e.mapSched f).raised = e.raised := rfl
@[simp] theorem mapSched_due (f : Schedule → Schedule) (e : Ev) :
    (e.mapSched f).due = e.due := rfl
@[simp] theorem mapSched_lost (f : Schedule → Schedule) (e : Ev) :
    (e.mapSched f).lost = e.lost := rfl
@[simp] theorem mapSched_freed (f : Schedule → Schedule) (e : Ev) :
    (e.mapSched f).freed = e.freed := rfl

/-! ### Ev.mapMedia -/

@[simp] theorem mapMedia_store (f : Media → Media) (e : Ev) :
    (e.mapMedia f).st.store = e.st.store := rfl
@[simp] theorem mapMedia_ink (f : Media → Media) (e : Ev) :
    (e.mapMedia f).st.ink = e.st.ink := rfl
@[simp] theorem mapMedia_meter (f : Media → Media) (e : Ev) :
    (e.mapMedia f).st.meter = e.st.meter := rfl
@[simp] theorem mapMedia_scan (f : Media → Media) (e : Ev) :
    (e.mapMedia f).st.scan = e.st.scan := rfl
@[simp] theorem mapMedia_sched (f : Media → Media) (e : Ev) :
    (e.mapMedia f).st.sched = e.st.sched := rfl
@[simp] theorem mapMedia_media (f : Media → Media) (e : Ev) :
    (e.mapMedia f).st.media = f e.st.media := rfl
@[simp] theorem mapMedia_colour (f : Media → Media) (e : Ev) :
    (e.mapMedia f).st.colour = e.st.colour := rfl
@[simp] theorem mapMedia_cost (f : Media → Media) (e : Ev) :
    (e.mapMedia f).st.cost = e.st.cost := rfl
@[simp] theorem mapMedia_ports (f : Media → Media) (e : Ev) :
    (e.mapMedia f).st.ports = e.st.ports := rfl
@[simp] theorem mapMedia_clock (f : Media → Media) (e : Ev) :
    (e.mapMedia f).st.clock = e.st.clock := rfl
@[simp] theorem mapMedia_pins (f : Media → Media) (e : Ev) :
    (e.mapMedia f).st.pins = e.st.pins := rfl
@[simp] theorem mapMedia_pending (f : Media → Media) (e : Ev) :
    (e.mapMedia f).st.pending = e.st.pending := rfl
@[simp] theorem mapMedia_start (f : Media → Media) (e : Ev) :
    (e.mapMedia f).start = e.start := rfl
@[simp] theorem mapMedia_raised (f : Media → Media) (e : Ev) :
    (e.mapMedia f).raised = e.raised := rfl
@[simp] theorem mapMedia_due (f : Media → Media) (e : Ev) :
    (e.mapMedia f).due = e.due := rfl
@[simp] theorem mapMedia_lost (f : Media → Media) (e : Ev) :
    (e.mapMedia f).lost = e.lost := rfl
@[simp] theorem mapMedia_freed (f : Media → Media) (e : Ev) :
    (e.mapMedia f).freed = e.freed := rfl

/-! ### Ev.mapColour -/

@[simp] theorem mapColour_store (f : ColourUnit → ColourUnit) (e : Ev) :
    (e.mapColour f).st.store = e.st.store := rfl
@[simp] theorem mapColour_ink (f : ColourUnit → ColourUnit) (e : Ev) :
    (e.mapColour f).st.ink = e.st.ink := rfl
@[simp] theorem mapColour_meter (f : ColourUnit → ColourUnit) (e : Ev) :
    (e.mapColour f).st.meter = e.st.meter := rfl
@[simp] theorem mapColour_scan (f : ColourUnit → ColourUnit) (e : Ev) :
    (e.mapColour f).st.scan = e.st.scan := rfl
@[simp] theorem mapColour_sched (f : ColourUnit → ColourUnit) (e : Ev) :
    (e.mapColour f).st.sched = e.st.sched := rfl
@[simp] theorem mapColour_media (f : ColourUnit → ColourUnit) (e : Ev) :
    (e.mapColour f).st.media = e.st.media := rfl
@[simp] theorem mapColour_colour (f : ColourUnit → ColourUnit) (e : Ev) :
    (e.mapColour f).st.colour = f e.st.colour := rfl
@[simp] theorem mapColour_cost (f : ColourUnit → ColourUnit) (e : Ev) :
    (e.mapColour f).st.cost = e.st.cost := rfl
@[simp] theorem mapColour_ports (f : ColourUnit → ColourUnit) (e : Ev) :
    (e.mapColour f).st.ports = e.st.ports := rfl
@[simp] theorem mapColour_clock (f : ColourUnit → ColourUnit) (e : Ev) :
    (e.mapColour f).st.clock = e.st.clock := rfl
@[simp] theorem mapColour_pins (f : ColourUnit → ColourUnit) (e : Ev) :
    (e.mapColour f).st.pins = e.st.pins := rfl
@[simp] theorem mapColour_pending (f : ColourUnit → ColourUnit) (e : Ev) :
    (e.mapColour f).st.pending = e.st.pending := rfl
@[simp] theorem mapColour_start (f : ColourUnit → ColourUnit) (e : Ev) :
    (e.mapColour f).start = e.start := rfl
@[simp] theorem mapColour_raised (f : ColourUnit → ColourUnit) (e : Ev) :
    (e.mapColour f).raised = e.raised := rfl
@[simp] theorem mapColour_due (f : ColourUnit → ColourUnit) (e : Ev) :
    (e.mapColour f).due = e.due := rfl
@[simp] theorem mapColour_lost (f : ColourUnit → ColourUnit) (e : Ev) :
    (e.mapColour f).lost = e.lost := rfl
@[simp] theorem mapColour_freed (f : ColourUnit → ColourUnit) (e : Ev) :
    (e.mapColour f).freed = e.freed := rfl

/-! ### Ev.mapCost -/

@[simp] theorem mapCost_store (f : CostUnit → CostUnit) (e : Ev) :
    (e.mapCost f).st.store = e.st.store := rfl
@[simp] theorem mapCost_ink (f : CostUnit → CostUnit) (e : Ev) :
    (e.mapCost f).st.ink = e.st.ink := rfl
@[simp] theorem mapCost_meter (f : CostUnit → CostUnit) (e : Ev) :
    (e.mapCost f).st.meter = e.st.meter := rfl
@[simp] theorem mapCost_scan (f : CostUnit → CostUnit) (e : Ev) :
    (e.mapCost f).st.scan = e.st.scan := rfl
@[simp] theorem mapCost_sched (f : CostUnit → CostUnit) (e : Ev) :
    (e.mapCost f).st.sched = e.st.sched := rfl
@[simp] theorem mapCost_media (f : CostUnit → CostUnit) (e : Ev) :
    (e.mapCost f).st.media = e.st.media := rfl
@[simp] theorem mapCost_colour (f : CostUnit → CostUnit) (e : Ev) :
    (e.mapCost f).st.colour = e.st.colour := rfl
@[simp] theorem mapCost_cost (f : CostUnit → CostUnit) (e : Ev) :
    (e.mapCost f).st.cost = f e.st.cost := rfl
@[simp] theorem mapCost_ports (f : CostUnit → CostUnit) (e : Ev) :
    (e.mapCost f).st.ports = e.st.ports := rfl
@[simp] theorem mapCost_clock (f : CostUnit → CostUnit) (e : Ev) :
    (e.mapCost f).st.clock = e.st.clock := rfl
@[simp] theorem mapCost_pins (f : CostUnit → CostUnit) (e : Ev) :
    (e.mapCost f).st.pins = e.st.pins := rfl
@[simp] theorem mapCost_pending (f : CostUnit → CostUnit) (e : Ev) :
    (e.mapCost f).st.pending = e.st.pending := rfl
@[simp] theorem mapCost_start (f : CostUnit → CostUnit) (e : Ev) :
    (e.mapCost f).start = e.start := rfl
@[simp] theorem mapCost_raised (f : CostUnit → CostUnit) (e : Ev) :
    (e.mapCost f).raised = e.raised := rfl
@[simp] theorem mapCost_due (f : CostUnit → CostUnit) (e : Ev) :
    (e.mapCost f).due = e.due := rfl
@[simp] theorem mapCost_lost (f : CostUnit → CostUnit) (e : Ev) :
    (e.mapCost f).lost = e.lost := rfl
@[simp] theorem mapCost_freed (f : CostUnit → CostUnit) (e : Ev) :
    (e.mapCost f).freed = e.freed := rfl

/-! ### Ev.mapPorts -/

@[simp] theorem mapPorts_store (f : Ports → Ports) (e : Ev) :
    (e.mapPorts f).st.store = e.st.store := rfl
@[simp] theorem mapPorts_ink (f : Ports → Ports) (e : Ev) :
    (e.mapPorts f).st.ink = e.st.ink := rfl
@[simp] theorem mapPorts_meter (f : Ports → Ports) (e : Ev) :
    (e.mapPorts f).st.meter = e.st.meter := rfl
@[simp] theorem mapPorts_scan (f : Ports → Ports) (e : Ev) :
    (e.mapPorts f).st.scan = e.st.scan := rfl
@[simp] theorem mapPorts_sched (f : Ports → Ports) (e : Ev) :
    (e.mapPorts f).st.sched = e.st.sched := rfl
@[simp] theorem mapPorts_media (f : Ports → Ports) (e : Ev) :
    (e.mapPorts f).st.media = e.st.media := rfl
@[simp] theorem mapPorts_colour (f : Ports → Ports) (e : Ev) :
    (e.mapPorts f).st.colour = e.st.colour := rfl
@[simp] theorem mapPorts_cost (f : Ports → Ports) (e : Ev) :
    (e.mapPorts f).st.cost = e.st.cost := rfl
@[simp] theorem mapPorts_ports (f : Ports → Ports) (e : Ev) :
    (e.mapPorts f).st.ports = f e.st.ports := rfl
@[simp] theorem mapPorts_clock (f : Ports → Ports) (e : Ev) :
    (e.mapPorts f).st.clock = e.st.clock := rfl
@[simp] theorem mapPorts_pins (f : Ports → Ports) (e : Ev) :
    (e.mapPorts f).st.pins = e.st.pins := rfl
@[simp] theorem mapPorts_pending (f : Ports → Ports) (e : Ev) :
    (e.mapPorts f).st.pending = e.st.pending := rfl
@[simp] theorem mapPorts_start (f : Ports → Ports) (e : Ev) :
    (e.mapPorts f).start = e.start := rfl
@[simp] theorem mapPorts_raised (f : Ports → Ports) (e : Ev) :
    (e.mapPorts f).raised = e.raised := rfl
@[simp] theorem mapPorts_due (f : Ports → Ports) (e : Ev) :
    (e.mapPorts f).due = e.due := rfl
@[simp] theorem mapPorts_lost (f : Ports → Ports) (e : Ev) :
    (e.mapPorts f).lost = e.lost := rfl
@[simp] theorem mapPorts_freed (f : Ports → Ports) (e : Ev) :
    (e.mapPorts f).freed = e.freed := rfl

/-! ### Ev.mapClock -/

@[simp] theorem mapClock_store (f : TimeBase → TimeBase) (e : Ev) :
    (e.mapClock f).st.store = e.st.store := rfl
@[simp] theorem mapClock_ink (f : TimeBase → TimeBase) (e : Ev) :
    (e.mapClock f).st.ink = e.st.ink := rfl
@[simp] theorem mapClock_meter (f : TimeBase → TimeBase) (e : Ev) :
    (e.mapClock f).st.meter = e.st.meter := rfl
@[simp] theorem mapClock_scan (f : TimeBase → TimeBase) (e : Ev) :
    (e.mapClock f).st.scan = e.st.scan := rfl
@[simp] theorem mapClock_sched (f : TimeBase → TimeBase) (e : Ev) :
    (e.mapClock f).st.sched = e.st.sched := rfl
@[simp] theorem mapClock_media (f : TimeBase → TimeBase) (e : Ev) :
    (e.mapClock f).st.media = e.st.media := rfl
@[simp] theorem mapClock_colour (f : TimeBase → TimeBase) (e : Ev) :
    (e.mapClock f).st.colour = e.st.colour := rfl
@[simp] theorem mapClock_cost (f : TimeBase → TimeBase) (e : Ev) :
    (e.mapClock f).st.cost = e.st.cost := rfl
@[simp] theorem mapClock_ports (f : TimeBase → TimeBase) (e : Ev) :
    (e.mapClock f).st.ports = e.st.ports := rfl
@[simp] theorem mapClock_clock (f : TimeBase → TimeBase) (e : Ev) :
    (e.mapClock f).st.clock = f e.st.clock := rfl
@[simp] theorem mapClock_pins (f : TimeBase → TimeBase) (e : Ev) :
    (e.mapClock f).st.pins = e.st.pins := rfl
@[simp] theorem mapClock_pending (f : TimeBase → TimeBase) (e : Ev) :
    (e.mapClock f).st.pending = e.st.pending := rfl
@[simp] theorem mapClock_start (f : TimeBase → TimeBase) (e : Ev) :
    (e.mapClock f).start = e.start := rfl
@[simp] theorem mapClock_raised (f : TimeBase → TimeBase) (e : Ev) :
    (e.mapClock f).raised = e.raised := rfl
@[simp] theorem mapClock_due (f : TimeBase → TimeBase) (e : Ev) :
    (e.mapClock f).due = e.due := rfl
@[simp] theorem mapClock_lost (f : TimeBase → TimeBase) (e : Ev) :
    (e.mapClock f).lost = e.lost := rfl
@[simp] theorem mapClock_freed (f : TimeBase → TimeBase) (e : Ev) :
    (e.mapClock f).freed = e.freed := rfl

/-! ### Raising a notice, and noting attempts to examine -/

@[simp] theorem raise_st (k : NoticeKind) (x : Subject) (d : Nat) (e : Ev) :
    (e.raise k x d).st = e.st := rfl
@[simp] theorem raise_start (k : NoticeKind) (x : Subject) (d : Nat) (e : Ev) :
    (e.raise k x d).start = e.start := rfl
@[simp] theorem raise_due (k : NoticeKind) (x : Subject) (d : Nat) (e : Ev) :
    (e.raise k x d).due = e.due := rfl
@[simp] theorem raise_lost (k : NoticeKind) (x : Subject) (d : Nat) (e : Ev) :
    (e.raise k x d).lost = e.lost := rfl
@[simp] theorem raise_freed (k : NoticeKind) (x : Subject) (d : Nat) (e : Ev) :
    (e.raise k x d).freed = e.freed := rfl
@[simp] theorem raise_raised (k : NoticeKind) (x : Subject) (d : Nat) (e : Ev) :
    (e.raise k x d).raised = e.raised ++ [{ kind := k, subject := x, detail := d }] := rfl
@[simp] theorem mayClose_st (rs : List CopyRef) (e : Ev) :
    (e.mayClose rs).st = e.st := rfl
@[simp] theorem mayClose_start (rs : List CopyRef) (e : Ev) :
    (e.mayClose rs).start = e.start := rfl
@[simp] theorem mayClose_raised (rs : List CopyRef) (e : Ev) :
    (e.mayClose rs).raised = e.raised := rfl
@[simp] theorem mayClose_due (rs : List CopyRef) (e : Ev) :
    (e.mayClose rs).due = e.due ++ rs := rfl
@[simp] theorem mayClose_lost (rs : List CopyRef) (e : Ev) :
    (e.mayClose rs).lost = e.lost := rfl
@[simp] theorem mayClose_freed (rs : List CopyRef) (e : Ev) :
    (e.mayClose rs).freed = e.freed := rfl
@[simp] theorem noteFreed_st (was : InkUnit) (e : Ev) :
    (e.noteFreed was).st = e.st := rfl
@[simp] theorem noteFreed_start (was : InkUnit) (e : Ev) :
    (e.noteFreed was).start = e.start := rfl
@[simp] theorem noteFreed_raised (was : InkUnit) (e : Ev) :
    (e.noteFreed was).raised = e.raised := rfl
@[simp] theorem noteFreed_due (was : InkUnit) (e : Ev) :
    (e.noteFreed was).due = e.due := rfl
@[simp] theorem noteFreed_lost (was : InkUnit) (e : Ev) :
    (e.noteFreed was).lost = e.lost := rfl
@[simp] theorem noteFreed_freed (was : InkUnit) (e : Ev) :
    (e.noteFreed was).freed = (e.freed || was.freeRose e.st.ink) := rfl

/-! ### The start of an event -/

@[simp] theorem begin_st (s : State) :
    (Ev.begin s).st = s := rfl
@[simp] theorem begin_start (s : State) :
    (Ev.begin s).start = s := rfl
@[simp] theorem begin_raised (s : State) :
    (Ev.begin s).raised = [] := rfl
@[simp] theorem begin_due (s : State) :
    (Ev.begin s).due = [] := rfl
@[simp] theorem begin_lost (s : State) :
    (Ev.begin s).lost = false := rfl
@[simp] theorem begin_freed (s : State) :
    (Ev.begin s).freed = false := rfl

/-! ### Updates of one record -/

@[simp] theorem modifyJob_store (h : Nat) (f : Job → Job) (e : Ev) :
    (e.modifyJob h f).st.store = e.st.store.modifyJob h f := rfl
@[simp] theorem modifyJob_ink (h : Nat) (f : Job → Job) (e : Ev) :
    (e.modifyJob h f).st.ink = e.st.ink := rfl
@[simp] theorem modifyJob_meter (h : Nat) (f : Job → Job) (e : Ev) :
    (e.modifyJob h f).st.meter = e.st.meter := rfl
@[simp] theorem modifyJob_scan (h : Nat) (f : Job → Job) (e : Ev) :
    (e.modifyJob h f).st.scan = e.st.scan := rfl
@[simp] theorem modifyJob_sched (h : Nat) (f : Job → Job) (e : Ev) :
    (e.modifyJob h f).st.sched = e.st.sched := rfl
@[simp] theorem modifyJob_media (h : Nat) (f : Job → Job) (e : Ev) :
    (e.modifyJob h f).st.media = e.st.media := rfl
@[simp] theorem modifyJob_colour (h : Nat) (f : Job → Job) (e : Ev) :
    (e.modifyJob h f).st.colour = e.st.colour := rfl
@[simp] theorem modifyJob_cost (h : Nat) (f : Job → Job) (e : Ev) :
    (e.modifyJob h f).st.cost = e.st.cost := rfl
@[simp] theorem modifyJob_ports (h : Nat) (f : Job → Job) (e : Ev) :
    (e.modifyJob h f).st.ports = e.st.ports := rfl
@[simp] theorem modifyJob_clock (h : Nat) (f : Job → Job) (e : Ev) :
    (e.modifyJob h f).st.clock = e.st.clock := rfl
@[simp] theorem modifyJob_pins (h : Nat) (f : Job → Job) (e : Ev) :
    (e.modifyJob h f).st.pins = e.st.pins := rfl
@[simp] theorem modifyJob_pending (h : Nat) (f : Job → Job) (e : Ev) :
    (e.modifyJob h f).st.pending = e.st.pending := rfl
@[simp] theorem modifyJob_start (h : Nat) (f : Job → Job) (e : Ev) :
    (e.modifyJob h f).start = e.start := rfl
@[simp] theorem modifyJob_raised (h : Nat) (f : Job → Job) (e : Ev) :
    (e.modifyJob h f).raised = e.raised := rfl
@[simp] theorem modifyJob_due (h : Nat) (f : Job → Job) (e : Ev) :
    (e.modifyJob h f).due = e.due := rfl
@[simp] theorem modifyJob_lost (h : Nat) (f : Job → Job) (e : Ev) :
    (e.modifyJob h f).lost = e.lost := rfl
@[simp] theorem modifyJob_freed (h : Nat) (f : Job → Job) (e : Ev) :
    (e.modifyJob h f).freed = e.freed := rfl

@[simp] theorem modifyChannel_store (c : Fin 12) (f : Channel → Channel) (e : Ev) :
    (e.modifyChannel c f).st.store = e.st.store := rfl
@[simp] theorem modifyChannel_ink (c : Fin 12) (f : Channel → Channel) (e : Ev) :
    (e.modifyChannel c f).st.ink = { e.st.ink with channels := modifyAt e.st.ink.channels c f } := rfl
@[simp] theorem modifyChannel_meter (c : Fin 12) (f : Channel → Channel) (e : Ev) :
    (e.modifyChannel c f).st.meter = e.st.meter := rfl
@[simp] theorem modifyChannel_scan (c : Fin 12) (f : Channel → Channel) (e : Ev) :
    (e.modifyChannel c f).st.scan = e.st.scan := rfl
@[simp] theorem modifyChannel_sched (c : Fin 12) (f : Channel → Channel) (e : Ev) :
    (e.modifyChannel c f).st.sched = e.st.sched := rfl
@[simp] theorem modifyChannel_media (c : Fin 12) (f : Channel → Channel) (e : Ev) :
    (e.modifyChannel c f).st.media = e.st.media := rfl
@[simp] theorem modifyChannel_colour (c : Fin 12) (f : Channel → Channel) (e : Ev) :
    (e.modifyChannel c f).st.colour = e.st.colour := rfl
@[simp] theorem modifyChannel_cost (c : Fin 12) (f : Channel → Channel) (e : Ev) :
    (e.modifyChannel c f).st.cost = e.st.cost := rfl
@[simp] theorem modifyChannel_ports (c : Fin 12) (f : Channel → Channel) (e : Ev) :
    (e.modifyChannel c f).st.ports = e.st.ports := rfl
@[simp] theorem modifyChannel_clock (c : Fin 12) (f : Channel → Channel) (e : Ev) :
    (e.modifyChannel c f).st.clock = e.st.clock := rfl
@[simp] theorem modifyChannel_pins (c : Fin 12) (f : Channel → Channel) (e : Ev) :
    (e.modifyChannel c f).st.pins = e.st.pins := rfl
@[simp] theorem modifyChannel_pending (c : Fin 12) (f : Channel → Channel) (e : Ev) :
    (e.modifyChannel c f).st.pending = e.st.pending := rfl
@[simp] theorem modifyChannel_start (c : Fin 12) (f : Channel → Channel) (e : Ev) :
    (e.modifyChannel c f).start = e.start := rfl
@[simp] theorem modifyChannel_raised (c : Fin 12) (f : Channel → Channel) (e : Ev) :
    (e.modifyChannel c f).raised = e.raised := rfl
@[simp] theorem modifyChannel_due (c : Fin 12) (f : Channel → Channel) (e : Ev) :
    (e.modifyChannel c f).due = e.due := rfl
@[simp] theorem modifyChannel_lost (c : Fin 12) (f : Channel → Channel) (e : Ev) :
    (e.modifyChannel c f).lost = e.lost := rfl
@[simp] theorem modifyChannel_freed (c : Fin 12) (f : Channel → Channel) (e : Ev) :
    (e.modifyChannel c f).freed = e.freed := rfl

@[simp] theorem modifyBay_store (b : Fin 24) (f : Bay → Bay) (e : Ev) :
    (e.modifyBay b f).st.store = e.st.store := rfl
@[simp] theorem modifyBay_ink (b : Fin 24) (f : Bay → Bay) (e : Ev) :
    (e.modifyBay b f).st.ink = { e.st.ink with bays := modifyAt e.st.ink.bays b f } := rfl
@[simp] theorem modifyBay_meter (b : Fin 24) (f : Bay → Bay) (e : Ev) :
    (e.modifyBay b f).st.meter = e.st.meter := rfl
@[simp] theorem modifyBay_scan (b : Fin 24) (f : Bay → Bay) (e : Ev) :
    (e.modifyBay b f).st.scan = e.st.scan := rfl
@[simp] theorem modifyBay_sched (b : Fin 24) (f : Bay → Bay) (e : Ev) :
    (e.modifyBay b f).st.sched = e.st.sched := rfl
@[simp] theorem modifyBay_media (b : Fin 24) (f : Bay → Bay) (e : Ev) :
    (e.modifyBay b f).st.media = e.st.media := rfl
@[simp] theorem modifyBay_colour (b : Fin 24) (f : Bay → Bay) (e : Ev) :
    (e.modifyBay b f).st.colour = e.st.colour := rfl
@[simp] theorem modifyBay_cost (b : Fin 24) (f : Bay → Bay) (e : Ev) :
    (e.modifyBay b f).st.cost = e.st.cost := rfl
@[simp] theorem modifyBay_ports (b : Fin 24) (f : Bay → Bay) (e : Ev) :
    (e.modifyBay b f).st.ports = e.st.ports := rfl
@[simp] theorem modifyBay_clock (b : Fin 24) (f : Bay → Bay) (e : Ev) :
    (e.modifyBay b f).st.clock = e.st.clock := rfl
@[simp] theorem modifyBay_pins (b : Fin 24) (f : Bay → Bay) (e : Ev) :
    (e.modifyBay b f).st.pins = e.st.pins := rfl
@[simp] theorem modifyBay_pending (b : Fin 24) (f : Bay → Bay) (e : Ev) :
    (e.modifyBay b f).st.pending = e.st.pending := rfl
@[simp] theorem modifyBay_start (b : Fin 24) (f : Bay → Bay) (e : Ev) :
    (e.modifyBay b f).start = e.start := rfl
@[simp] theorem modifyBay_raised (b : Fin 24) (f : Bay → Bay) (e : Ev) :
    (e.modifyBay b f).raised = e.raised := rfl
@[simp] theorem modifyBay_due (b : Fin 24) (f : Bay → Bay) (e : Ev) :
    (e.modifyBay b f).due = e.due := rfl
@[simp] theorem modifyBay_lost (b : Fin 24) (f : Bay → Bay) (e : Ev) :
    (e.modifyBay b f).lost = e.lost := rfl
@[simp] theorem modifyBay_freed (b : Fin 24) (f : Bay → Bay) (e : Ev) :
    (e.modifyBay b f).freed = e.freed := rfl

@[simp] theorem modifyAccount_store (a : Fin 32) (f : Account → Account) (e : Ev) :
    (e.modifyAccount a f).st.store = e.st.store := rfl
@[simp] theorem modifyAccount_ink (a : Fin 32) (f : Account → Account) (e : Ev) :
    (e.modifyAccount a f).st.ink = e.st.ink := rfl
@[simp] theorem modifyAccount_meter (a : Fin 32) (f : Account → Account) (e : Ev) :
    (e.modifyAccount a f).st.meter = e.st.meter := rfl
@[simp] theorem modifyAccount_scan (a : Fin 32) (f : Account → Account) (e : Ev) :
    (e.modifyAccount a f).st.scan = e.st.scan := rfl
@[simp] theorem modifyAccount_sched (a : Fin 32) (f : Account → Account) (e : Ev) :
    (e.modifyAccount a f).st.sched = e.st.sched := rfl
@[simp] theorem modifyAccount_media (a : Fin 32) (f : Account → Account) (e : Ev) :
    (e.modifyAccount a f).st.media = e.st.media := rfl
@[simp] theorem modifyAccount_colour (a : Fin 32) (f : Account → Account) (e : Ev) :
    (e.modifyAccount a f).st.colour = e.st.colour := rfl
@[simp] theorem modifyAccount_cost (a : Fin 32) (f : Account → Account) (e : Ev) :
    (e.modifyAccount a f).st.cost = { e.st.cost with accounts := modifyAt e.st.cost.accounts a f } := rfl
@[simp] theorem modifyAccount_ports (a : Fin 32) (f : Account → Account) (e : Ev) :
    (e.modifyAccount a f).st.ports = e.st.ports := rfl
@[simp] theorem modifyAccount_clock (a : Fin 32) (f : Account → Account) (e : Ev) :
    (e.modifyAccount a f).st.clock = e.st.clock := rfl
@[simp] theorem modifyAccount_pins (a : Fin 32) (f : Account → Account) (e : Ev) :
    (e.modifyAccount a f).st.pins = e.st.pins := rfl
@[simp] theorem modifyAccount_pending (a : Fin 32) (f : Account → Account) (e : Ev) :
    (e.modifyAccount a f).st.pending = e.st.pending := rfl
@[simp] theorem modifyAccount_start (a : Fin 32) (f : Account → Account) (e : Ev) :
    (e.modifyAccount a f).start = e.start := rfl
@[simp] theorem modifyAccount_raised (a : Fin 32) (f : Account → Account) (e : Ev) :
    (e.modifyAccount a f).raised = e.raised := rfl
@[simp] theorem modifyAccount_due (a : Fin 32) (f : Account → Account) (e : Ev) :
    (e.modifyAccount a f).due = e.due := rfl
@[simp] theorem modifyAccount_lost (a : Fin 32) (f : Account → Account) (e : Ev) :
    (e.modifyAccount a f).lost = e.lost := rfl
@[simp] theorem modifyAccount_freed (a : Fin 32) (f : Account → Account) (e : Ev) :
    (e.modifyAccount a f).freed = e.freed := rfl

@[simp] theorem modifyPort_store (p : Port) (f : PortUnit → PortUnit) (e : Ev) :
    (e.modifyPort p f).st.store = e.st.store := rfl
@[simp] theorem modifyPort_ink (p : Port) (f : PortUnit → PortUnit) (e : Ev) :
    (e.modifyPort p f).st.ink = e.st.ink := rfl
@[simp] theorem modifyPort_meter (p : Port) (f : PortUnit → PortUnit) (e : Ev) :
    (e.modifyPort p f).st.meter = e.st.meter := rfl
@[simp] theorem modifyPort_scan (p : Port) (f : PortUnit → PortUnit) (e : Ev) :
    (e.modifyPort p f).st.scan = e.st.scan := rfl
@[simp] theorem modifyPort_sched (p : Port) (f : PortUnit → PortUnit) (e : Ev) :
    (e.modifyPort p f).st.sched = e.st.sched := rfl
@[simp] theorem modifyPort_media (p : Port) (f : PortUnit → PortUnit) (e : Ev) :
    (e.modifyPort p f).st.media = e.st.media := rfl
@[simp] theorem modifyPort_colour (p : Port) (f : PortUnit → PortUnit) (e : Ev) :
    (e.modifyPort p f).st.colour = e.st.colour := rfl
@[simp] theorem modifyPort_cost (p : Port) (f : PortUnit → PortUnit) (e : Ev) :
    (e.modifyPort p f).st.cost = e.st.cost := rfl
@[simp] theorem modifyPort_ports (p : Port) (f : PortUnit → PortUnit) (e : Ev) :
    (e.modifyPort p f).st.ports = e.st.ports.modifyUnit p f := rfl
@[simp] theorem modifyPort_clock (p : Port) (f : PortUnit → PortUnit) (e : Ev) :
    (e.modifyPort p f).st.clock = e.st.clock := rfl
@[simp] theorem modifyPort_pins (p : Port) (f : PortUnit → PortUnit) (e : Ev) :
    (e.modifyPort p f).st.pins = e.st.pins := rfl
@[simp] theorem modifyPort_pending (p : Port) (f : PortUnit → PortUnit) (e : Ev) :
    (e.modifyPort p f).st.pending = e.st.pending := rfl
@[simp] theorem modifyPort_start (p : Port) (f : PortUnit → PortUnit) (e : Ev) :
    (e.modifyPort p f).start = e.start := rfl
@[simp] theorem modifyPort_raised (p : Port) (f : PortUnit → PortUnit) (e : Ev) :
    (e.modifyPort p f).raised = e.raised := rfl
@[simp] theorem modifyPort_due (p : Port) (f : PortUnit → PortUnit) (e : Ev) :
    (e.modifyPort p f).due = e.due := rfl
@[simp] theorem modifyPort_lost (p : Port) (f : PortUnit → PortUnit) (e : Ev) :
    (e.modifyPort p f).lost = e.lost := rfl
@[simp] theorem modifyPort_freed (p : Port) (f : PortUnit → PortUnit) (e : Ev) :
    (e.modifyPort p f).freed = e.freed := rfl

@[simp] theorem setRoll_store (n : Fin 2) (r : Roll) (e : Ev) :
    (e.setRoll n r).st.store = e.st.store := rfl
@[simp] theorem setRoll_ink (n : Fin 2) (r : Roll) (e : Ev) :
    (e.setRoll n r).st.ink = e.st.ink := rfl
@[simp] theorem setRoll_meter (n : Fin 2) (r : Roll) (e : Ev) :
    (e.setRoll n r).st.meter = e.st.meter := rfl
@[simp] theorem setRoll_scan (n : Fin 2) (r : Roll) (e : Ev) :
    (e.setRoll n r).st.scan = e.st.scan := rfl
@[simp] theorem setRoll_sched (n : Fin 2) (r : Roll) (e : Ev) :
    (e.setRoll n r).st.sched = e.st.sched := rfl
@[simp] theorem setRoll_media (n : Fin 2) (r : Roll) (e : Ev) :
    (e.setRoll n r).st.media = { e.st.media with rolls := e.st.media.rolls.set n.val r n.isLt } := rfl
@[simp] theorem setRoll_colour (n : Fin 2) (r : Roll) (e : Ev) :
    (e.setRoll n r).st.colour = e.st.colour := rfl
@[simp] theorem setRoll_cost (n : Fin 2) (r : Roll) (e : Ev) :
    (e.setRoll n r).st.cost = e.st.cost := rfl
@[simp] theorem setRoll_ports (n : Fin 2) (r : Roll) (e : Ev) :
    (e.setRoll n r).st.ports = e.st.ports := rfl
@[simp] theorem setRoll_clock (n : Fin 2) (r : Roll) (e : Ev) :
    (e.setRoll n r).st.clock = e.st.clock := rfl
@[simp] theorem setRoll_pins (n : Fin 2) (r : Roll) (e : Ev) :
    (e.setRoll n r).st.pins = e.st.pins := rfl
@[simp] theorem setRoll_pending (n : Fin 2) (r : Roll) (e : Ev) :
    (e.setRoll n r).st.pending = e.st.pending := rfl
@[simp] theorem setRoll_start (n : Fin 2) (r : Roll) (e : Ev) :
    (e.setRoll n r).start = e.start := rfl
@[simp] theorem setRoll_raised (n : Fin 2) (r : Roll) (e : Ev) :
    (e.setRoll n r).raised = e.raised := rfl
@[simp] theorem setRoll_due (n : Fin 2) (r : Roll) (e : Ev) :
    (e.setRoll n r).due = e.due := rfl
@[simp] theorem setRoll_lost (n : Fin 2) (r : Roll) (e : Ev) :
    (e.setRoll n r).lost = e.lost := rfl
@[simp] theorem setRoll_freed (n : Fin 2) (r : Roll) (e : Ev) :
    (e.setRoll n r).freed = e.freed := rfl

@[simp] theorem modifyCopy_ink (r : CopyRef) (f : CopyRecord → CopyRecord) (e : Ev) :
    (e.modifyCopy r f).st.ink = e.st.ink := rfl
@[simp] theorem modifyCopy_meter (r : CopyRef) (f : CopyRecord → CopyRecord) (e : Ev) :
    (e.modifyCopy r f).st.meter = e.st.meter := rfl
@[simp] theorem modifyCopy_scan (r : CopyRef) (f : CopyRecord → CopyRecord) (e : Ev) :
    (e.modifyCopy r f).st.scan = e.st.scan := rfl
@[simp] theorem modifyCopy_sched (r : CopyRef) (f : CopyRecord → CopyRecord) (e : Ev) :
    (e.modifyCopy r f).st.sched = e.st.sched := rfl
@[simp] theorem modifyCopy_media (r : CopyRef) (f : CopyRecord → CopyRecord) (e : Ev) :
    (e.modifyCopy r f).st.media = e.st.media := rfl
@[simp] theorem modifyCopy_colour (r : CopyRef) (f : CopyRecord → CopyRecord) (e : Ev) :
    (e.modifyCopy r f).st.colour = e.st.colour := rfl
@[simp] theorem modifyCopy_cost (r : CopyRef) (f : CopyRecord → CopyRecord) (e : Ev) :
    (e.modifyCopy r f).st.cost = e.st.cost := rfl
@[simp] theorem modifyCopy_ports (r : CopyRef) (f : CopyRecord → CopyRecord) (e : Ev) :
    (e.modifyCopy r f).st.ports = e.st.ports := rfl
@[simp] theorem modifyCopy_clock (r : CopyRef) (f : CopyRecord → CopyRecord) (e : Ev) :
    (e.modifyCopy r f).st.clock = e.st.clock := rfl
@[simp] theorem modifyCopy_pins (r : CopyRef) (f : CopyRecord → CopyRecord) (e : Ev) :
    (e.modifyCopy r f).st.pins = e.st.pins := rfl
@[simp] theorem modifyCopy_pending (r : CopyRef) (f : CopyRecord → CopyRecord) (e : Ev) :
    (e.modifyCopy r f).st.pending = e.st.pending := rfl
@[simp] theorem modifyCopy_start (r : CopyRef) (f : CopyRecord → CopyRecord) (e : Ev) :
    (e.modifyCopy r f).start = e.start := rfl
@[simp] theorem modifyCopy_raised (r : CopyRef) (f : CopyRecord → CopyRecord) (e : Ev) :
    (e.modifyCopy r f).raised = e.raised := rfl
@[simp] theorem modifyCopy_due (r : CopyRef) (f : CopyRecord → CopyRecord) (e : Ev) :
    (e.modifyCopy r f).due = e.due := rfl
@[simp] theorem modifyCopy_lost (r : CopyRef) (f : CopyRecord → CopyRecord) (e : Ev) :
    (e.modifyCopy r f).lost = e.lost := rfl
@[simp] theorem modifyCopy_freed (r : CopyRef) (f : CopyRecord → CopyRecord) (e : Ev) :
    (e.modifyCopy r f).freed = e.freed := rfl

@[simp] theorem modifyAttempt_ink (r : CopyRef) (f : Attempt → Attempt) (e : Ev) :
    (e.modifyAttempt r f).st.ink = e.st.ink := rfl
@[simp] theorem modifyAttempt_meter (r : CopyRef) (f : Attempt → Attempt) (e : Ev) :
    (e.modifyAttempt r f).st.meter = e.st.meter := rfl
@[simp] theorem modifyAttempt_scan (r : CopyRef) (f : Attempt → Attempt) (e : Ev) :
    (e.modifyAttempt r f).st.scan = e.st.scan := rfl
@[simp] theorem modifyAttempt_sched (r : CopyRef) (f : Attempt → Attempt) (e : Ev) :
    (e.modifyAttempt r f).st.sched = e.st.sched := rfl
@[simp] theorem modifyAttempt_media (r : CopyRef) (f : Attempt → Attempt) (e : Ev) :
    (e.modifyAttempt r f).st.media = e.st.media := rfl
@[simp] theorem modifyAttempt_colour (r : CopyRef) (f : Attempt → Attempt) (e : Ev) :
    (e.modifyAttempt r f).st.colour = e.st.colour := rfl
@[simp] theorem modifyAttempt_cost (r : CopyRef) (f : Attempt → Attempt) (e : Ev) :
    (e.modifyAttempt r f).st.cost = e.st.cost := rfl
@[simp] theorem modifyAttempt_ports (r : CopyRef) (f : Attempt → Attempt) (e : Ev) :
    (e.modifyAttempt r f).st.ports = e.st.ports := rfl
@[simp] theorem modifyAttempt_clock (r : CopyRef) (f : Attempt → Attempt) (e : Ev) :
    (e.modifyAttempt r f).st.clock = e.st.clock := rfl
@[simp] theorem modifyAttempt_pins (r : CopyRef) (f : Attempt → Attempt) (e : Ev) :
    (e.modifyAttempt r f).st.pins = e.st.pins := rfl
@[simp] theorem modifyAttempt_pending (r : CopyRef) (f : Attempt → Attempt) (e : Ev) :
    (e.modifyAttempt r f).st.pending = e.st.pending := rfl
@[simp] theorem modifyAttempt_start (r : CopyRef) (f : Attempt → Attempt) (e : Ev) :
    (e.modifyAttempt r f).start = e.start := rfl
@[simp] theorem modifyAttempt_raised (r : CopyRef) (f : Attempt → Attempt) (e : Ev) :
    (e.modifyAttempt r f).raised = e.raised := rfl
@[simp] theorem modifyAttempt_due (r : CopyRef) (f : Attempt → Attempt) (e : Ev) :
    (e.modifyAttempt r f).due = e.due := rfl
@[simp] theorem modifyAttempt_lost (r : CopyRef) (f : Attempt → Attempt) (e : Ev) :
    (e.modifyAttempt r f).lost = e.lost := rfl
@[simp] theorem modifyAttempt_freed (r : CopyRef) (f : Attempt → Attempt) (e : Ev) :
    (e.modifyAttempt r f).freed = e.freed := rfl

/-! ### Answers, notices and faults on a state -/

@[simp] theorem answered_store (p : Port) (k : ReqKind) (tag : Byte) (pl : List Byte) (r : Reply)
    (s : State) : (s.answered p k tag pl r).store = s.store := rfl
@[simp] theorem answered_ink (p : Port) (k : ReqKind) (tag : Byte) (pl : List Byte) (r : Reply)
    (s : State) : (s.answered p k tag pl r).ink = s.ink := rfl
@[simp] theorem answered_meter (p : Port) (k : ReqKind) (tag : Byte) (pl : List Byte) (r : Reply)
    (s : State) : (s.answered p k tag pl r).meter = s.meter := rfl
@[simp] theorem answered_scan (p : Port) (k : ReqKind) (tag : Byte) (pl : List Byte) (r : Reply)
    (s : State) : (s.answered p k tag pl r).scan = s.scan := rfl
@[simp] theorem answered_sched (p : Port) (k : ReqKind) (tag : Byte) (pl : List Byte) (r : Reply)
    (s : State) : (s.answered p k tag pl r).sched = s.sched := rfl
@[simp] theorem answered_media (p : Port) (k : ReqKind) (tag : Byte) (pl : List Byte) (r : Reply)
    (s : State) : (s.answered p k tag pl r).media = s.media := rfl
@[simp] theorem answered_colour (p : Port) (k : ReqKind) (tag : Byte) (pl : List Byte) (r : Reply)
    (s : State) : (s.answered p k tag pl r).colour = s.colour := rfl
@[simp] theorem answered_cost (p : Port) (k : ReqKind) (tag : Byte) (pl : List Byte) (r : Reply)
    (s : State) : (s.answered p k tag pl r).cost = s.cost := rfl
@[simp] theorem answered_clock (p : Port) (k : ReqKind) (tag : Byte) (pl : List Byte) (r : Reply)
    (s : State) : (s.answered p k tag pl r).clock = s.clock := rfl
@[simp] theorem answered_pins (p : Port) (k : ReqKind) (tag : Byte) (pl : List Byte) (r : Reply)
    (s : State) : (s.answered p k tag pl r).pins = s.pins := rfl
@[simp] theorem answered_pending (p : Port) (k : ReqKind) (tag : Byte) (pl : List Byte) (r : Reply)
    (s : State) : (s.answered p k tag pl r).pending = s.pending := rfl

@[simp] theorem notify_store (ns : List Notice) (s : State) :
    (s.notify ns).store = s.store := rfl
@[simp] theorem notify_ink (ns : List Notice) (s : State) :
    (s.notify ns).ink = s.ink := rfl
@[simp] theorem notify_meter (ns : List Notice) (s : State) :
    (s.notify ns).meter = s.meter := rfl
@[simp] theorem notify_scan (ns : List Notice) (s : State) :
    (s.notify ns).scan = s.scan := rfl
@[simp] theorem notify_sched (ns : List Notice) (s : State) :
    (s.notify ns).sched = s.sched := rfl
@[simp] theorem notify_media (ns : List Notice) (s : State) :
    (s.notify ns).media = s.media := rfl
@[simp] theorem notify_colour (ns : List Notice) (s : State) :
    (s.notify ns).colour = s.colour := rfl
@[simp] theorem notify_cost (ns : List Notice) (s : State) :
    (s.notify ns).cost = s.cost := rfl
@[simp] theorem notify_clock (ns : List Notice) (s : State) :
    (s.notify ns).clock = s.clock := rfl
@[simp] theorem notify_pins (ns : List Notice) (s : State) :
    (s.notify ns).pins = s.pins := rfl
@[simp] theorem notify_pending (ns : List Notice) (s : State) :
    (s.notify ns).pending = s.pending := rfl

@[simp] theorem noteFault_store (p : Port) (k : FaultKind) (h : Option Header) (s : State) :
    (s.noteFault p k h).store = s.store := rfl
@[simp] theorem noteFault_ink (p : Port) (k : FaultKind) (h : Option Header) (s : State) :
    (s.noteFault p k h).ink = s.ink := rfl
@[simp] theorem noteFault_meter (p : Port) (k : FaultKind) (h : Option Header) (s : State) :
    (s.noteFault p k h).meter = s.meter := rfl
@[simp] theorem noteFault_scan (p : Port) (k : FaultKind) (h : Option Header) (s : State) :
    (s.noteFault p k h).scan = s.scan := rfl
@[simp] theorem noteFault_sched (p : Port) (k : FaultKind) (h : Option Header) (s : State) :
    (s.noteFault p k h).sched = s.sched := rfl
@[simp] theorem noteFault_media (p : Port) (k : FaultKind) (h : Option Header) (s : State) :
    (s.noteFault p k h).media = s.media := rfl
@[simp] theorem noteFault_colour (p : Port) (k : FaultKind) (h : Option Header) (s : State) :
    (s.noteFault p k h).colour = s.colour := rfl
@[simp] theorem noteFault_cost (p : Port) (k : FaultKind) (h : Option Header) (s : State) :
    (s.noteFault p k h).cost = s.cost := rfl
@[simp] theorem noteFault_clock (p : Port) (k : FaultKind) (h : Option Header) (s : State) :
    (s.noteFault p k h).clock = s.clock := rfl
@[simp] theorem noteFault_pins (p : Port) (k : FaultKind) (h : Option Header) (s : State) :
    (s.noteFault p k h).pins = s.pins := rfl
@[simp] theorem noteFault_pending (p : Port) (k : FaultKind) (h : Option Header) (s : State) :
    (s.noteFault p k h).pending = s.pending := rfl

@[simp] theorem noteOrders_store (b s : State) :
    (State.noteOrders b s).store = s.store := rfl
@[simp] theorem noteOrders_ink (b s : State) :
    (State.noteOrders b s).ink = s.ink := rfl
@[simp] theorem noteOrders_meter (b s : State) :
    (State.noteOrders b s).meter = s.meter := rfl
@[simp] theorem noteOrders_scan (b s : State) :
    (State.noteOrders b s).scan = s.scan := rfl
@[simp] theorem noteOrders_sched (b s : State) :
    (State.noteOrders b s).sched = s.sched := rfl
@[simp] theorem noteOrders_media (b s : State) :
    (State.noteOrders b s).media = s.media := rfl
@[simp] theorem noteOrders_colour (b s : State) :
    (State.noteOrders b s).colour = s.colour := rfl
@[simp] theorem noteOrders_cost (b s : State) :
    (State.noteOrders b s).cost = s.cost := rfl
@[simp] theorem noteOrders_clock (b s : State) :
    (State.noteOrders b s).clock = s.clock := rfl
@[simp] theorem noteOrders_pins (b s : State) :
    (State.noteOrders b s).pins = s.pins := rfl
@[simp] theorem noteOrders_pending (b s : State) :
    (State.noteOrders b s).pending = s.pending := rfl

/-! ### One port unit -/

/-- The unit of a port after a change of one unit, by cases. -/
theorem unit_modifyUnit (p q : Port) (f : PortUnit → PortUnit) (ps : Ports) :
    (ps.modifyUnit p f).unit q = if q = p then f (ps.unit q) else ps.unit q := by
  cases p <;> cases q <;> rfl

@[simp] theorem unit_modifyUnit_self (p : Port) (f : PortUnit → PortUnit) (ps : Ports) :
    (ps.modifyUnit p f).unit p = f (ps.unit p) := by
  cases p <;> rfl

@[simp] theorem modifyUnit_orderChange (p : Port) (f : PortUnit → PortUnit) (ps : Ports) :
    (ps.modifyUnit p f).orderChange = ps.orderChange := by
  cases p <;> rfl

@[simp] theorem modifyUnit_summary (p : Port) (f : PortUnit → PortUnit) (ps : Ports) :
    (ps.modifyUnit p f).summary = ps.summary := by
  cases p <;> rfl

@[simp] theorem modifyUnit_summaryMultiple (p : Port) (f : PortUnit → PortUnit) (ps : Ports) :
    (ps.modifyUnit p f).summaryMultiple = ps.summaryMultiple := by
  cases p <;> rfl

/-- Two changes of one unit are one. -/
theorem modifyUnit_modifyUnit (p : Port) (f g : PortUnit → PortUnit) (ps : Ports) :
    (ps.modifyUnit p f).modifyUnit p g = ps.modifyUnit p fun u => g (f u) := by
  cases p <;> rfl

/-- A change that changes nothing. -/
theorem modifyUnit_id (p : Port) (f : PortUnit → PortUnit) (ps : Ports) (h : ∀ u, f u = u) :
    ps.modifyUnit p f = ps := by
  cases p <;> simp [Ports.modifyUnit, h]

end Sys2Proof.Machine
end

