-- ==== Sys2Proof/Laws/Tables.lean ====
section
/-! SUPPORT. Laws of the collections of fixed count: what an entry is after building or changing one,
and what the quantifiers over entries say. -/

namespace Sys2Proof.Machine

theorem tabulate_get {α : Type} {n : Nat} (f : Fin n → α) (i : Fin n) :
    (tabulate n f)[i] = f i := by
  simp [tabulate, Vector.getElem_mk]

@[simp] theorem tabulate_getElem {α : Type} {n : Nat} (f : Fin n → α) (i : Nat) (h : i < n) :
    (tabulate n f)[i] = f ⟨i, h⟩ := by
  simp [tabulate, Vector.getElem_mk]

theorem mapTable_get {α β : Type} {n : Nat} (f : α → β) (v : Vector α n) (i : Fin n) :
    (mapTable f v)[i] = f v[i] := by
  simp [mapTable, Vector.getElem_mk]

@[simp] theorem mapTable_getElem {α β : Type} {n : Nat} (f : α → β) (v : Vector α n) (i : Nat)
    (h : i < n) : (mapTable f v)[i] = f v[i] := by
  simp [mapTable, Vector.getElem_mk]

/-- Two collections with the same entries are the same. -/
theorem table_ext {α : Type} {n : Nat} {v w : Vector α n} (h : ∀ i : Fin n, v[i] = w[i]) : v = w := by
  apply Vector.ext
  intro i hi
  exact h ⟨i, hi⟩

theorem mapTable_congr {α β : Type} {n : Nat} {f : α → β} {v w : Vector α n}
    (h : ∀ i : Fin n, f v[i] = f w[i]) : mapTable f v = mapTable f w :=
  table_ext fun i => by simpa using h i

theorem modifyAt_eq_set {α : Type} {n : Nat} (v : Vector α n) (i : Fin n) (f : α → α) :
    modifyAt v i f = v.set i.val (f v[i]) i.isLt := rfl

theorem modifyAt_self {α : Type} {n : Nat} (v : Vector α n) (i : Fin n) (f : α → α) :
    (modifyAt v i f)[i] = f v[i] := by
  simp [modifyAt]

theorem modifyAt_other {α : Type} {n : Nat} (v : Vector α n) (i j : Fin n) (f : α → α) (h : j ≠ i) :
    (modifyAt v i f)[j] = v[j] := by
  have : i.val ≠ j.val := fun e => h (Fin.ext e.symm)
  simp [modifyAt, this]

/-- The entry of a changed collection, by cases. -/
theorem modifyAt_get {α : Type} {n : Nat} (v : Vector α n) (i j : Fin n) (f : α → α) :
    (modifyAt v i f)[j] = if j = i then f v[j] else v[j] := by
  by_cases h : j = i
  · subst h
    rw [modifyAt_self, if_pos rfl]
  · rw [modifyAt_other v i j f h, if_neg h]

/-- The same, for an entry named by a number. -/
@[simp] theorem modifyAt_getElem {α : Type} {n : Nat} (v : Vector α n) (i : Fin n) (j : Nat)
    (h : j < n) (f : α → α) : (modifyAt v i f)[j] = if j = i.val then f v[j] else v[j] := by
  have := modifyAt_get v i ⟨j, h⟩ f
  simpa [Fin.ext_iff] using this

/-- Changing an entry to what it is changes nothing. -/
theorem modifyAt_id {α : Type} {n : Nat} (v : Vector α n) (i : Fin n) (f : α → α) (h : f v[i] = v[i]) :
    modifyAt v i f = v := by
  apply table_ext
  intro j
  rw [modifyAt_get]
  split
  · next e => subst e; exact h
  · rfl

/-- A figure that a change of one entry keeps is the same over the whole collection. -/
theorem mapTable_modifyAt {α β : Type} {n : Nat} (g : α → β) (v : Vector α n) (i : Fin n) (f : α → α)
    (h : g (f v[i]) = g v[i]) : mapTable g (modifyAt v i f) = mapTable g v := by
  apply mapTable_congr
  intro j
  rw [modifyAt_get]
  split
  · next e => subst e; exact h
  · rfl

theorem anyOf_iff {n : Nat} (f : Fin n → Bool) : anyOf n f = true ↔ ∃ i, f i = true := by
  simp [anyOf]

theorem allOf_iff {n : Nat} (f : Fin n → Bool) : allOf n f = true ↔ ∀ i, f i = true := by
  simp [allOf]

theorem sumOver_congr {n : Nat} {f g : Fin n → Nat} (h : ∀ i, f i = g i) : sumOver n f = sumOver n g := by
  have : f = g := funext h
  rw [this]

theorem sumOver_eq_sum {n : Nat} (f : Fin n → Nat) : sumOver n f = ∑ i, f i := by
  simp [sumOver, Fin.sum_univ_def]

@[simp] theorem modifyList_length {α : Type} (l : List α) (i : Nat) (f : α → α) :
    (modifyList l i f).length = l.length := by
  induction l generalizing i with
  | nil => rfl
  | cons x xs ih => cases i <;> simp [modifyList, ih]

/-- An entry of a changed list, by cases. -/
theorem modifyList_get? {α : Type} (l : List α) (i j : Nat) (f : α → α) :
    (modifyList l i f)[j]? = if j = i then (l[j]?).map f else l[j]? := by
  induction l generalizing i j with
  | nil => cases i <;> simp [modifyList]
  | cons x xs ih =>
    cases i <;> cases j <;> simp [modifyList, ih]

/-- A property kept by each entry's step is kept by a walk over a list. -/
theorem foldl_keeps {α β : Type} (P : α → Prop) (f : α → β → α) (l : List β) (a : α)
    (step : ∀ a b, P a → P (f a b)) (start : P a) : P (l.foldl f a) := by
  induction l generalizing a with
  | nil => exact start
  | cons b bs ih => exact ih _ (step a b start)

end Sys2Proof.Machine
end

