-- ==== Sys2Proof/Laws/Events.lean ====
section
/-! SUPPORT. What the shared operations of every event do, once each: the event itself, its end, the
service of a request, the record of a fault, a scan trigger, the bytes of the head line. -/

namespace Sys2Proof.Machine

/-! ### An event and its end -/

theorem event_reset (f : Ev → Ev) (s : State) (h : s.pins.reset = true) : event f s = s := by
  simp [event, h]

theorem event_run (f : Ev → Ev) (s : State) (h : s.pins.reset = false) :
    event f s = (f (Ev.begin s)).close.finish := by
  simp [event, h]

/-- An event in which the engine was not lost has no consequences left to settle. -/
theorem close_quiet (e : Ev) (h : e.lost = false) : e.close = e := by
  simp [Ev.close, h]

/-- An event in which the engine was lost, and no consequences were settled since, settles them at its
end (R161). -/
theorem close_lost (e : Ev) (h : e.lost = true) : e.close = settle e := by
  simp [Ev.close, h]

/-- The end of an event offers the notices raised, then notes a change of the orders. -/
theorem finish_eq (e : Ev) :
    e.finish = State.noteOrders e.start (e.st.notify (orderNotices e.raised)) := rfl

theorem ordersDiffer_self (s : State) : ordersDiffer s s = false := by
  simp [ordersDiffer]

/-- Orders differ exactly where one of the four does (R170). -/
theorem ordersDiffer_iff (s t : State) : ordersDiffer s t = true ↔
    s.holdOrder ≠ t.holdOrder ∨ s.sched.abort ≠ t.sched.abort ∨ s.feedTo ≠ t.feedTo ∨
      s.capOrder ≠ t.capOrder := by
  simp [ordersDiffer, or_assoc]

/-- The orders follow from the schedule and the media path alone (R85, R101, R117, R124). -/
theorem ordersDiffer_congr (s t u : State) (hs : u.sched = t.sched) (hm : u.media = t.media) :
    ordersDiffer s u = ordersDiffer s t := by
  simp [ordersDiffer, State.holdOrder, State.feedTo, State.printing, State.capOrder, hs, hm]

/-- Orders that no event's part touched do not differ. -/
theorem ordersDiffer_same (s u : State) (hs : u.sched = s.sched) (hm : u.media = s.media) :
    ordersDiffer s u = false := by
  rw [ordersDiffer_congr s s u hs hm, ordersDiffer_self]

@[simp] theorem offerAll_nil (now : Nat) (held : Bool) (u : PortUnit) : offerAll now [] held u = u := by
  simp [offerAll]

@[simp] theorem notify_nil (s : State) : s.notify [] = s := by
  simp [State.notify, modifyUnit_id]

theorem noteOrders_same (b s : State) (h : ordersDiffer b s = false) : State.noteOrders b s = s := by
  simp [State.noteOrders, h]

@[simp] theorem orderNotices_nil : orderNotices [] = [] := rfl

@[simp] theorem orderNotices_one (n : Notice) : orderNotices [n] = [n] := rfl

/-- An event that raised nothing. -/
theorem finish_silent (e : Ev) (h : e.raised = []) : e.finish = State.noteOrders e.start e.st := by
  simp [finish_eq, h]

/-- An event that raised nothing and moved no order ends where it stands. -/
theorem finish_quiet (e : Ev) (h : e.raised = []) (o : ordersDiffer e.start e.st = false) :
    e.finish = e.st := by
  rw [finish_silent e h, noteOrders_same _ _ o]

/-- What the end of an event leaves of each block but the ports. -/
theorem finish_blocks (e : Ev) :
    e.finish = { e.st with ports := e.finish.ports } := rfl

@[simp] theorem finish_store (e : Ev) : e.finish.store = e.st.store := rfl
@[simp] theorem finish_ink (e : Ev) : e.finish.ink = e.st.ink := rfl
@[simp] theorem finish_meter (e : Ev) : e.finish.meter = e.st.meter := rfl
@[simp] theorem finish_scan (e : Ev) : e.finish.scan = e.st.scan := rfl
@[simp] theorem finish_sched (e : Ev) : e.finish.sched = e.st.sched := rfl
@[simp] theorem finish_media (e : Ev) : e.finish.media = e.st.media := rfl
@[simp] theorem finish_colour (e : Ev) : e.finish.colour = e.st.colour := rfl
@[simp] theorem finish_cost (e : Ev) : e.finish.cost = e.st.cost := rfl
@[simp] theorem finish_clock (e : Ev) : e.finish.clock = e.st.clock := rfl
@[simp] theorem finish_pins (e : Ev) : e.finish.pins = e.st.pins := rfl
@[simp] theorem finish_pending (e : Ev) : e.finish.pending = e.st.pending := rfl

/-- The order change flag after an event (R170). -/
theorem finish_orderChange (e : Ev) :
    e.finish.ports.orderChange = (e.st.ports.orderChange || ordersDiffer e.start e.st) := by
  simp [Ev.finish]

/-- Notices change a port unit's queue and wrapped flag, and nothing else of it (R171, R172). -/
theorem offer_other (now : Nat) (n : Notice) (u : PortUnit) :
    u.offer now n =
      { u with queue := (u.offer now n).queue, wrapped := (u.offer now n).wrapped } := by
  unfold PortUnit.offer
  dsimp only
  split
  · rfl
  · split <;> rfl

theorem offerAll_other (now : Nat) (ns : List Notice) (held : Bool) (u : PortUnit) :
    offerAll now ns held u =
      { u with queue := (offerAll now ns held u).queue,
               wrapped := (offerAll now ns held u).wrapped } := by
  cases held
  · simp only [offerAll, Bool.false_eq_true, if_false]
    induction ns generalizing u with
    | nil => rfl
    | cons n ns ih =>
      simp only [List.foldl_cons]
      have h := offer_other now n u
      have := ih (u.offer now n)
      rw [h] at this ⊢
      exact this
  · simp [offerAll]

/-- The unit of a port after the notices of an event. -/
theorem notify_unit (ns : List Notice) (s : State) (p : Port) :
    (s.notify ns).ports.unit p = offerAll s.now ns (s.portHeld p) (s.ports.unit p) := by
  cases p <;> rfl

/-- The unit of a port at the end of an event. -/
theorem finish_unit (e : Ev) (p : Port) :
    e.finish.ports.unit p =
      offerAll e.st.now (orderNotices e.raised) (e.st.portHeld p) (e.st.ports.unit p) := by
  cases p <;> rfl

/-- What a port unit keeps at the end of an event: all but its queue. -/
theorem finish_unit_kept (e : Ev) (p : Port) :
    e.finish.ports.unit p =
      { e.st.ports.unit p with
        queue := (e.finish.ports.unit p).queue
        wrapped := (e.finish.ports.unit p).wrapped } := by
  rw [finish_unit]
  exact offerAll_other _ _ _ _

/-! ### Requests -/

theorem serves_iff (s : State) (k : ReqKind) (p : Port) (pl : List Byte) :
    s.serves k p pl = true ↔ s.pins.reset = false ∧ s.portHeld p = false ∧
      (s.ports.unit p).txn = .idle ∧ pl.length ≤ Config.maxPayload ∧
      portRefusal k p (s.ports.unit p) = none := by
  simp [State.serves, payloadOk, and_assoc]

/-- The port itself refuses by its state and by the kind, whatever else it holds (R168). -/
theorem portRefusal_congr (k : ReqKind) (p : Port) (u v : PortUnit) (h : u.state = v.state) :
    portRefusal k p u = portRefusal k p v := by
  simp [portRefusal, h]

/-- The event in which the frame of a request with this payload has come in and passed its checks (R165,
R167). -/
def accepted (p : Port) (pl : List Byte) (s : State) : Ev :=
  ((Ev.begin s).modifyPort p (PortUnit.receive (pl.length + 6))).modifyPort p fun u =>
    { u with badCount := 0 }

/-- A request that its port serves is taken at its block, and the reply placed in the slot (R168). -/
theorem request_serves (k : ReqKind) (take : Take) (p : Port) (tag : Byte) (pl : List Byte) (s : State)
    (h : s.serves k p pl = true) :
    request k take p tag pl s =
      (respond p (requestHeader k tag pl)
        (take { port := p, header := requestHeader k tag pl, payload := pl }
          (accepted p pl s))).close.finish := by
  obtain ⟨hr, hh, ht, hl, hp⟩ := (serves_iff s k p pl).1 h
  have hp' : portRefusal k p ((accepted p pl s).st.ports.unit p) = none := by
    rw [← hp]; exact portRefusal_congr _ _ _ _ (by simp [accepted, PortUnit.receive])
  have hd : dropReply p (requestHeader k tag pl)
      ((Ev.begin s).modifyPort p (PortUnit.receive (pl.length + 6))) =
      (Ev.begin s).modifyPort p (PortUnit.receive (pl.length + 6)) := by
    simp [dropReply, PortUnit.receive, ht]
  have ha : takeFrame k take { port := p, header := requestHeader k tag pl, payload := pl }
      ((Ev.begin s).modifyPort p (PortUnit.receive (pl.length + 6))) =
      respond p (requestHeader k tag pl)
        (take { port := p, header := requestHeader k tag pl, payload := pl } (accepted p pl s)) := by
    unfold takeFrame
    rw [hd]
    change (match portRefusal k p ((accepted p pl s).st.ports.unit p) with
      | some c => _
      | none => _) = _
    rw [hp']
    rfl
  simp [request, event_run _ _ hr, arrive, hh, ht, Nat.not_lt.2 hl, ha]

/-- The same, where the block's effect loses no engine. -/
theorem request_served (k : ReqKind) (take : Take) (p : Port) (tag : Byte) (pl : List Byte) (s : State)
    (h : s.serves k p pl = true)
    (lost : (take { port := p, header := requestHeader k tag pl, payload := pl }
      (accepted p pl s)).1.lost = false) :
    request k take p tag pl s =
      (respond p (requestHeader k tag pl)
        (take { port := p, header := requestHeader k tag pl, payload := pl }
          (accepted p pl s))).finish := by
  rw [request_serves k take p tag pl s h, close_quiet]
  simpa [respond] using lost

/-- The reply of a request stands in the slot at the end of its event. -/
theorem respond_answer (k : ReqKind) (p : Port) (tag : Byte) (pl : List Byte) (x : Ev × Reply) :
    (respond p (requestHeader k tag pl) x).finish.hasAnswer p k tag x.2 := by
  unfold State.hasAnswer
  rw [finish_unit_kept]
  simp [respond, requestHeader]

/-- A request whose block refuses it at once is answered, and nothing else changes. -/
theorem respond_refuse (k : ReqKind) (p : Port) (tag : Byte) (pl : List Byte) (s : State) (r : Reply) :
    (respond p (requestHeader k tag pl) (accepted p pl s, r)).finish = s.answered p k tag pl r := by
  rw [finish_quiet _ rfl (ordersDiffer_same _ _ rfl rfl)]
  cases p <;> rfl

/-- A request whose effect raises nothing and moves no order: its effect on the blocks, and the
answer. -/
theorem respond_effect (k : ReqKind) (p : Port) (tag : Byte) (pl : List Byte) (s : State)
    (x : Ev × Reply) (start : x.1.start = s) (raised : x.1.raised = [])
    (ports : x.1.st.ports = (accepted p pl s).st.ports) (same : ordersDiffer s x.1.st = false) :
    (respond p (requestHeader k tag pl) x).finish =
      State.answered p k tag pl x.2 { x.1.st with ports := s.ports } := by
  rw [finish_quiet]
  · cases p <;> simp [respond, State.answered, requestHeader, Ev.modifyPort, Ev.mapPorts, ports,
      accepted, Ports.modifyUnit, PortUnit.answer, PortUnit.receive]
  · simpa [respond] using raised
  · have : ordersDiffer s (respond p (requestHeader k tag pl) x).st = ordersDiffer s x.1.st :=
      ordersDiffer_congr _ _ _ rfl rfl
    change ordersDiffer x.1.start (respond p (requestHeader k tag pl) x).st = false
    rw [start, this]
    exact same

/-! ### Transfers -/

/-- A port held by its reset line ignores a request transfer (R179). -/
theorem arrive_held (p : Port) (h : Header) (n : Nat) (discard : Bool) (go : Ev → Ev) (e : Ev)
    (held : e.st.portHeld p = true) : arrive p h n discard go e = e := by
  simp [arrive, held]

/-- A frame that no request in service meets is handled, its transfer's zeros sent (R165). -/
theorem arrive_go (p : Port) (h : Header) (n : Nat) (go : Ev → Ev) (e : Ev)
    (held : e.st.portHeld p = false) (free : ∀ x y, (e.st.ports.unit p).txn ≠ .inService x y) :
    arrive p h n false go e = go (e.modifyPort p (PortUnit.receive n)) := by
  unfold arrive
  rw [if_neg (by simp [held])]
  dsimp only
  split
  · next e => exact absurd e (free _ _)
  · rfl

/-- With no response unread nothing is dropped (R169). -/
theorem dropReply_none (p : Port) (h : Header) (e : Ev)
    (free : ∀ r, (e.st.ports.unit p).txn ≠ .responseReady r) : dropReply p h e = e := by
  unfold dropReply
  split
  · next e => exact absurd e (free _)
  · rfl

/-- An unread response is dropped with its fault (R169). -/
theorem dropReply_some (p : Port) (h : Header) (e : Ev) (r : Response)
    (ready : (e.st.ports.unit p).txn = .responseReady r) :
    dropReply p h e =
      recordFault p .replyDropped (some h) (e.modifyPort p fun u => { u with txn := .idle }) := by
  simp [dropReply, ready]

/-! ### Faults -/

/-- A fault that stops no port is noted in the port's fault record, and nothing else changes (R175). -/
theorem recordFault_quiet (p : Port) (k : FaultKind) (h : Option Header) (e : Ev)
    (held : e.st.portHeld p = false) (stops : e.st.stops p k = false) :
    recordFault p k h e = e.modifyPort p (PortUnit.note k h e.st.now) := by
  simp only [State.stops] at stops
  simp [recordFault, held, stops]

theorem recordFault_held (p : Port) (k : FaultKind) (h : Option Header) (e : Ev)
    (held : e.st.portHeld p = true) : recordFault p k h e = e := by
  simp [recordFault, held]

/-- A fault that stops the port (R175). -/
theorem recordFault_stops (p : Port) (k : FaultKind) (h : Option Header) (e : Ev)
    (held : e.st.portHeld p = false) (stops : e.st.stops p k = true) :
    recordFault p k h e = enterFaulted p k (e.modifyPort p (PortUnit.note k h e.st.now)) := by
  simp only [State.stops] at stops
  simp [recordFault, held, stops]

/-- A noted fault raises its kind's count and keeps everything but the fault record (R175). -/
theorem note_kept (k : FaultKind) (h : Option Header) (now : Nat) (u : PortUnit) :
    u.note k h now =
      { u with
        status := modifyAt u.status k.index FaultStatus.note
        capture := (u.note k h now).capture
        multiple := (u.note k h now).multiple } := by
  unfold PortUnit.note
  dsimp only
  split
  · rfl
  · split <;> rfl

/-! ### Scan triggers -/

/-- A trigger in IDLE starts a scan; in RUNNING it sets the overlap flag (R69, R71, R72). -/
theorem triggerScan_cases (k : TriggerKind) (e : Ev) :
    (e.st.scan.running = none ∧ triggerScan k e = startScan k e) ∨
      (e.st.scan.running.isSome = true ∧ triggerScan k e = dropTrigger k e) := by
  unfold triggerScan
  cases h : e.st.scan.running <;> simp

/-- A trigger changes the Scan unit, and nothing else of the state. -/
theorem triggerScan_st (k : TriggerKind) (e : Ev) :
    (triggerScan k e).st = { e.st with scan := (triggerScan k e).st.scan } := by
  obtain ⟨-, h⟩ | ⟨-, h⟩ := triggerScan_cases k e <;> rw [h]
  · rfl
  · unfold dropTrigger
    dsimp only
    split <;> rfl

/-! ### Marks -/

/-- A CUT with two owners stands on the list at a position. -/
def cutFull (ms : List Mark) (q : Pos) : Bool :=
  ms.any fun m => m.kind == .cut && m.pos == q && 2 ≤ m.owners.length

/-- The position found lies past every CUT with two owners that stands from `p` on without a gap (R100,
R114). -/
theorem cutPosition_spec (ms : List Mark) (n : Nat) (p : Pos) :
    ∃ k, k ≤ n ∧ cutPosition ms n p = p + BitVec.ofNat 32 k ∧
      (∀ i, i < k → cutFull ms (p + BitVec.ofNat 32 i) = true) ∧
      (k < n → cutFull ms (p + BitVec.ofNat 32 k) = false) := by
  induction n generalizing p with
  | zero => exact ⟨0, Nat.le_refl 0, by simp [cutPosition], by simp, by simp⟩
  | succ n ih =>
    by_cases full : cutFull ms p = true
    · obtain ⟨k, le, eq, before, stop⟩ := ih (p + 1)
      have next (i : Nat) : p + 1 + BitVec.ofNat 32 i = p + BitVec.ofNat 32 (i + 1) := by
        rw [Nat.add_comm i 1, BitVec.ofNat_add, BitVec.add_assoc]; rfl
      refine ⟨k + 1, Nat.succ_le_succ le, ?_, fun i lt => ?_, fun lt => ?_⟩
      · rw [← next, ← eq]
        exact if_pos full
      · cases i with
        | zero => simpa using full
        | succ i => rw [← next]; exact before i (by omega)
      · rw [← next]; exact stop (by omega)
    · refine ⟨0, Nat.zero_le _, ?_, by simp, fun _ => by simpa using full⟩
      have : cutPosition ms (n + 1) p = p := if_neg full
      simp [this]

/-! ### Ink figures -/

/-- A draw keeps the balance of a cartridge (R57). -/
theorem draw_balance (n : Nat) (k : Cartridge) :
    (k.draw n).level + (k.draw n).drawn + (k.draw n).writtenOff =
      k.level + k.drawn + k.writtenOff := by
  simp only [Cartridge.draw]
  omega

/-- A write-off to a lower level keeps the balance of a cartridge (R76). -/
theorem writeDown_balance (m : Nat) (k : Cartridge) (h : m ≤ k.level) :
    (k.writeDown m).level + (k.writeDown m).drawn + (k.writeDown m).writtenOff =
      k.level + k.drawn + k.writtenOff := by
  simp only [Cartridge.writeDown]
  omega

/-! ### The head line -/

/-- Bytes that do not complete a message are gathered (R186). -/
theorem headBytes_gather (bytes : List Byte) (e : Ev)
    (h : e.st.colour.gathered.length + bytes.length < 12) :
    headBytes bytes e =
      if bytes = [] then e
      else e.mapColour fun u => { u with gathered := u.gathered ++ bytes } := by
  induction bytes generalizing e with
  | nil => rfl
  | cons b bs ih =>
    simp only [List.length_cons] at h
    have hb : headByte b e = e.mapColour fun u => { u with gathered := u.gathered ++ [b] } := by
      have : (e.st.colour.gathered ++ [b]).length < 12 := by simp; omega
      simp only [headByte, this, if_true]
      rfl
    have hs : headBytes (b :: bs) e = headBytes bs (headByte b e) := rfl
    rw [hs, hb, ih]
    · by_cases hbs : bs = []
      · simp [hbs]
      · simp [hbs, Ev.mapColour]
    · simp; omega

/-- Bytes that complete a message: the twelve are examined and the gathering starts anew (R186). -/
theorem headBytes_complete (bytes : List Byte) (e : Ev) (ne : bytes ≠ [])
    (h : (e.st.colour.gathered ++ bytes).length = 12) :
    headBytes bytes e =
      examineMessage (e.st.colour.gathered ++ bytes)
        (e.mapColour fun u => { u with gathered := [] }) := by
  obtain ⟨init, last, rfl⟩ : ∃ init last, bytes = init ++ [last] :=
    ⟨bytes.dropLast, bytes.getLast ne, (List.dropLast_append_getLast ne).symm⟩
  have hs : headBytes (init ++ [last]) e = headByte last (headBytes init e) := by
    simp [headBytes]
  have hl : e.st.colour.gathered.length + init.length < 12 := by simp at h; omega
  rw [hs, headBytes_gather init e hl]
  by_cases hi : init = []
  · subst hi
    have : ¬ (e.st.colour.gathered ++ [last]).length < 12 := by simp at h ⊢; omega
    simp only [if_true, headByte, this, if_false, List.nil_append]
  · have : ¬ ((e.st.colour.gathered ++ init) ++ [last]).length < 12 := by simp at h ⊢; omega
    unfold headByte
    simp only [hi, if_false, mapColour_colour, this]
    simp [Ev.mapColour]

end Sys2Proof.Machine
end

