-- ==== Sys2Proof/Laws/Settle.lean ====
section
/-! SUPPORT. What the consequences at the end of an event can change: jobs, channels, accounts, the feed
hold and the pause, and nothing else (R15, R34 to R43, R117, R122, R159, R161). -/

namespace Sys2Proof.Machine

/-- What the end of an event leaves as it is. -/
structure Ev.Kept (e e' : Ev) : Prop where
  start : e'.start = e.start
  bays : e'.st.ink.bays = e.st.ink.bays
  meter : e'.st.meter = e.st.meter
  scan : e'.st.scan = e.st.scan
  sched : e'.st.sched = e.st.sched
  media : e'.st.media.sameButHold e.st.media
  colour : e'.st.colour = e.st.colour
  ports : e'.st.ports = e.st.ports
  clock : e'.st.clock = e.st.clock
  pins : e'.st.pins = e.st.pins
  pending : e'.st.pending = e.st.pending

theorem sameButHold_refl (x : Media) : x.sameButHold x := rfl

theorem sameButHold_trans {x y z : Media} (h : y.sameButHold x) (k : z.sameButHold y) :
    z.sameButHold x := by
  unfold Media.sameButHold at *
  rw [k, h]

theorem kept_refl (e : Ev) : e.Kept e := by
  constructor <;> rfl

theorem kept_trans {e f g : Ev} (h : e.Kept f) (k : f.Kept g) : e.Kept g where
  start := k.start.trans h.start
  bays := k.bays.trans h.bays
  meter := k.meter.trans h.meter
  scan := k.scan.trans h.scan
  sched := k.sched.trans h.sched
  media := sameButHold_trans h.media k.media
  colour := k.colour.trans h.colour
  ports := k.ports.trans h.ports
  clock := k.clock.trans h.clock
  pins := k.pins.trans h.pins
  pending := k.pending.trans h.pending

/-- A walk keeps what each of its steps keeps. -/
theorem kept_foldl {β : Type} (f : Ev → β → Ev) (l : List β) (e : Ev)
    (step : ∀ (e : Ev) (b : β), e.Kept (f e b)) : e.Kept (l.foldl f e) :=
  foldl_keeps (fun e' => e.Kept e') f l e (fun a b h => kept_trans h (step a b)) (kept_refl e)

/-- An event that differs from another in jobs, channels, accounts, the hold or the pause, in notices and
in the attempts still to examine. -/
theorem kept_of {e e' : Ev} (start : e'.start = e.start) (bays : e'.st.ink.bays = e.st.ink.bays)
    (media : e'.st.media.sameButHold e.st.media)
    (rest : e'.st = { e.st with
      store := e'.st.store, ink := e'.st.ink, cost := e'.st.cost, media := e'.st.media }) :
    e.Kept e' := by
  constructor <;> first | assumption | (rw [rest])

/-! ### The updates -/

theorem kept_mapStore (f : JobStore → JobStore) (e : Ev) : e.Kept (e.mapStore f) :=
  kept_of rfl rfl rfl rfl

theorem kept_modifyJob (h : Nat) (f : Job → Job) (e : Ev) : e.Kept (e.modifyJob h f) :=
  kept_mapStore _ e

theorem kept_modifyCopy (r : CopyRef) (f : CopyRecord → CopyRecord) (e : Ev) :
    e.Kept (e.modifyCopy r f) :=
  kept_mapStore _ e

theorem kept_modifyAttempt (r : CopyRef) (f : Attempt → Attempt) (e : Ev) :
    e.Kept (e.modifyAttempt r f) :=
  kept_mapStore _ e

theorem kept_modifyChannel (c : Fin 12) (f : Channel → Channel) (e : Ev) :
    e.Kept (e.modifyChannel c f) :=
  kept_of rfl rfl rfl rfl

theorem kept_mapReserved (f : Fin 12 → Nat → Nat) (e : Ev) :
    e.Kept (e.mapInk (InkUnit.mapReserved f)) :=
  kept_of rfl rfl rfl rfl

theorem kept_modifyAccount (a : Fin 32) (f : Account → Account) (e : Ev) :
    e.Kept (e.modifyAccount a f) :=
  kept_of rfl rfl rfl rfl

theorem kept_raise (k : NoticeKind) (x : Subject) (d : Nat) (e : Ev) : e.Kept (e.raise k x d) :=
  kept_of rfl rfl rfl rfl

theorem kept_hold (f : Hold → Hold) (e : Ev) :
    e.Kept (e.mapMedia fun m => { m with hold := f m.hold }) :=
  kept_of rfl rfl rfl rfl

theorem kept_pause (q : Option PausePeriod) (e : Ev) :
    e.Kept (e.mapMedia fun m => { m with pause := q }) :=
  kept_of rfl rfl rfl rfl

/-! ### Closes and bookings -/

theorem bookAttempt_kept (r : CopyRef) (cls : AttemptClass) (e : Ev) : e.Kept (bookAttempt r cls e) := by
  unfold bookAttempt
  split
  · exact kept_refl e
  · exact kept_trans (kept_trans (kept_trans (kept_modifyAttempt r _ e) (kept_modifyJob _ _ _))
      (kept_modifyAccount _ _ _)) (kept_modifyAccount _ _ _)

theorem takeReservation_kept (h : Nat) (j : Job) (e : Ev) : e.Kept (takeReservation h j e) :=
  kept_trans (kept_mapReserved _ e) (kept_modifyJob _ _ _)

theorem kept_noteFreed (was : InkUnit) (e : Ev) : e.Kept (e.noteFreed was) := kept_of rfl rfl rfl rfl

theorem releaseReservation_kept (h : Nat) (e : Ev) : e.Kept (releaseReservation h e) := by
  unfold releaseReservation
  split
  · exact kept_refl e
  · exact kept_trans (kept_trans (kept_mapReserved _ e) (kept_modifyJob _ _ _)) (kept_noteFreed _ _)

theorem joinWaitList_kept (h : Fin 32) (e : Ev) : e.Kept (joinWaitList h e) :=
  kept_trans (kept_modifyJob _ _ e) (kept_mapStore _ _)

theorem leaveWaitList_kept (h : Nat) (e : Ev) : e.Kept (leaveWaitList h e) := kept_mapStore _ e

theorem closeJob_kept (h : Nat) (e : Ev) : e.Kept (closeJob h e) := by
  unfold closeJob
  split
  · exact kept_refl e
  · exact kept_trans (kept_trans (kept_trans (kept_trans (releaseReservation_kept h e)
      (leaveWaitList_kept h _)) (kept_modifyAccount _ _ _)) (kept_modifyJob _ _ _)) (kept_raise _ _ _ _)

theorem closeJobIfDone_kept (h : Nat) (e : Ev) : e.Kept (closeJobIfDone h e) := by
  unfold closeJobIfDone
  split
  · exact kept_refl e
  · split
    · exact closeJob_kept h e
    · exact kept_refl e

theorem rejoin_kept (h : Nat) (e : Ev) : e.Kept (rejoin h e) := by
  unfold rejoin
  split
  · split
    · exact kept_refl e
    · split
      · exact kept_refl e
      · split
        · exact kept_modifyJob _ _ e
        · split
          · exact kept_trans (takeReservation_kept _ _ e) (kept_raise _ _ _ _)
          · exact kept_trans (joinWaitList_kept _ e) (kept_raise _ _ _ _)
  · exact kept_refl e

theorem closeAttempt_kept (r : CopyRef) (j : Job) (c : CopyRecord) (e : Ev) :
    e.Kept (closeAttempt r j c e) := by
  have h := kept_trans (kept_trans (kept_trans (bookAttempt_kept r (classOf j c.record) e)
    (kept_modifyCopy r (CopyRecord.advance (nextCopyState j c.attempt (classOf j c.record))) _))
    (kept_modifyJob r.handle (Job.countTerminal (nextCopyState j c.attempt (classOf j c.record))) _))
    (kept_raise .copyDone (.attempt r)
      ((classOf j c.record).code + 256 * (nextCopyState j c.attempt (classOf j c.record)).code) _)
  unfold closeAttempt
  dsimp only
  split
  · exact kept_trans h (rejoin_kept _ _)
  · exact kept_trans h (closeJobIfDone_kept _ _)

theorem closeIfReady_kept (r : CopyRef) (e : Ev) : e.Kept (closeIfReady r e) := by
  unfold closeIfReady
  split
  · exact kept_refl e
  · split
    · exact closeAttempt_kept _ _ _ e
    · exact kept_refl e

theorem settleCloses_kept (e : Ev) : e.Kept (settleCloses e) := by
  have start : e.Kept { e with due := [] } := kept_of rfl rfl rfl rfl
  exact kept_trans start (kept_foldl _ e.due _ fun e r => closeIfReady_kept r e)

/-! ### The ink -/

theorem evalDry_kept (c : Fin 12) (e : Ev) : e.Kept (evalDry c e) := by
  unfold evalDry
  split
  · exact kept_refl e
  · dsimp only
    split
    · exact kept_trans (kept_modifyChannel c _ e) (kept_raise _ _ _ _)
    · exact kept_modifyChannel c _ e

theorem evalLow_kept (c : Fin 12) (e : Ev) : e.Kept (evalLow c e) := by
  unfold evalLow
  dsimp only
  split
  · exact kept_refl e
  · split
    · exact kept_trans (kept_modifyChannel c _ e) (kept_raise _ _ _ _)
    · exact kept_modifyChannel c _ e

theorem evalFlags_kept (e : Ev) : e.Kept (evalFlags e) :=
  kept_foldl _ _ e fun e c => kept_trans (evalDry_kept c e) (evalLow_kept c _)

theorem trimJob_kept (h : Fin 32) (e : Ev) : e.Kept (trimJob h e) := by
  unfold trimJob
  dsimp only
  split
  · exact releaseReservation_kept _ e
  · split
    · exact kept_trans (kept_trans (releaseReservation_kept _ e) (joinWaitList_kept h _))
        (kept_raise _ _ _ _)
    · exact releaseReservation_kept _ e

theorem trim_kept (n : Nat) (any : Bool) (e : Ev) : e.Kept (trim n any e).2 := by
  induction n generalizing any e with
  | zero => exact kept_refl e
  | succ n ih =>
    unfold trim
    split
    · exact kept_refl e
    · exact kept_trans (trimJob_kept _ e) (ih true _)

theorem markShort_kept (c : Fin 12) (e : Ev) : e.Kept (markShort c e) := by
  unfold markShort
  split
  · exact kept_trans (kept_modifyChannel c _ e) (kept_raise _ _ _ _)
  · exact kept_refl e

theorem clearShort_kept (c : Fin 12) (e : Ev) : e.Kept (clearShort c e) := by
  unfold clearShort
  split
  · exact kept_modifyChannel c _ e
  · exact kept_refl e

theorem walkOne_kept (h : Fin 32) (e : Ev) : e.Kept (walkOne h e) := by
  unfold walkOne
  split
  · exact kept_refl e
  · split
    · exact kept_trans (kept_trans (takeReservation_kept _ _ e) (leaveWaitList_kept _ _))
        (kept_raise _ _ _ _)
    · exact kept_refl e

theorem walk_kept (e : Ev) : e.Kept (walk e) := kept_foldl _ _ e fun e h => walkOne_kept h e

theorem settleInk_kept (e : Ev) : e.Kept (settleInk e) := by
  have h := kept_trans (kept_trans (evalFlags_kept e) (trim_kept 32 false _))
    (kept_foldl (fun e c => clearShort c (markShort c e)) (List.finRange 12) _ fun e c =>
      kept_trans (markShort_kept c e) (clearShort_kept c _))
  unfold settleInk
  dsimp only
  split
  · exact kept_trans h (walk_kept _)
  · exact h

/-! ### The accounts, the hold, the pause -/

theorem evalOverrun_kept (i : Fin 32) (e : Ev) : e.Kept (evalOverrun i e) := by
  unfold evalOverrun
  dsimp only
  split
  · exact kept_refl e
  · split
    · exact kept_trans (kept_modifyAccount i _ e) (kept_raise _ _ _ _)
    · exact kept_modifyAccount i _ e

theorem settleAccounts_kept (e : Ev) : e.Kept (settleAccounts e) :=
  kept_foldl _ _ e fun e i => evalOverrun_kept i e

theorem syncHold_kept (e : Ev) : e.Kept (syncHold e) := kept_of rfl rfl rfl rfl

theorem syncPause_kept (e : Ev) : e.Kept (syncPause e) := by
  have end_ : e.Kept (endPause e) := by
    unfold endPause
    split
    · exact kept_trans (kept_modifyAttempt _ _ e) (kept_pause none _)
    · exact kept_pause none e
  unfold syncPause
  split
  · split
    · exact kept_refl e
    · exact kept_of rfl rfl rfl rfl
  · split
    · exact end_
    · exact kept_refl e

/-- What the consequences at the end of an event leave as it is. -/
theorem settle_kept (e : Ev) : e.Kept (settle e) := by
  have start : e.Kept { e with lost := false } := kept_of rfl rfl rfl rfl
  have closes := kept_trans start (settleCloses_kept { e with lost := false })
  have ink := kept_trans closes (settleInk_kept (settleCloses { e with lost := false }))
  have accounts := kept_trans ink (settleAccounts_kept _)
  exact kept_trans (kept_trans accounts (syncHold_kept _)) (syncPause_kept _)

/-- The consequences of an engine loss leave the same. -/
theorem close_kept (e : Ev) : e.Kept e.close := by
  unfold Ev.close
  split
  · exact settle_kept e
  · exact kept_refl e

/-- The reply of a request stands in the slot at the end of its event, the engine lost in it or not. -/
theorem respond_answer_close (k : ReqKind) (p : Port) (tag : Byte) (pl : List Byte) (x : Ev × Reply) :
    (respond p (requestHeader k tag pl) x).close.finish.hasAnswer p k tag x.2 := by
  unfold State.hasAnswer
  rw [finish_unit_kept, (close_kept _).ports]
  simp [respond, requestHeader]

end Sys2Proof.Machine
end

