-- ==== Sys2Proof/Tests/Slice0.lean ====
section
/-! SUPPORT. Tests of the model, by evaluation: what well-formedness refuses, worked figures of
spec/10_worked_sequences.md, and, for every statement with hypotheses, small states and operands that
meet them, clause by clause. -/

namespace Sys2Proof.Tests

section

-- One theorem at a time: together their kernel evaluations ask for too many threads.
set_option Elab.async false

open Sys2Proof.Machine

/-! ### Well-formed commands -/

/-- A payload of 1,020 bytes fits the length field, one of 1,021 does not (9.2). -/
theorem test_wellFormed_payload :
    (Instr.submitJob .job 1 (List.replicate 1020 0)).wellFormed = true ∧
      (Instr.submitJob .job 1 (List.replicate 1021 0)).wellFormed = false := by
  decide +kernel

/-- A request transfer has a first byte, and it is not 0 (R165). -/
theorem test_wellFormed_transfer :
    (Instr.badFrame .desk [1]).wellFormed = true ∧ (Instr.badFrame .desk [0, 1]).wellFormed = false ∧
      (Instr.overlap .desk []).wellFormed = false := by
  decide

/-- A message of the head line is twelve bytes of its kind, or the eleven after a first byte (R186). -/
theorem test_wellFormed_head :
    (Instr.patch (2 :: List.replicate 11 0)).wellFormed = true ∧
      (Instr.patch (3 :: List.replicate 11 0)).wellFormed = false ∧
      (Instr.headEnd (List.replicate 11 0)).wellFormed = true ∧
      (Instr.headEnd (3 :: List.replicate 9 0)).wellFormed = false ∧
      (Instr.headOther (2 :: List.replicate 11 0)).wellFormed = false := by
  decide

/-- A read transfer clocks at least one byte (R165). -/
theorem test_wellFormed_read :
    (Instr.readTransfer .job 1).wellFormed = true ∧
      (Instr.readTransfer .job 0).wellFormed = false := by
  decide

/-! ### Figures of the spec -/

/-- 10.2: the per-copy estimate of job 2 is 54,305 and of job 3 is 29,126. -/
theorem test_estimate_of_10_2 :
    let ps : PriceSet :=
      { ink := #v[480, 0, 450, 0, 0, 500, 0, 0, 0, 0, 0, 0],
        media := #v[0, 0, 42000, 0, 0, 0, 0, 0, 0, 0, 0, 0, 0, 0, 0, 0],
        cut := 1500, measurement := 800, inUse := 0 }
    perCopyEstimate ps #v[12000000, 0, 0, 0, 0, 8000000, 0, 0, 0, 0, 0, 0] 9000 11176 2 1 true
        = 54305 ∧
      perCopyEstimate ps #v[0, 0, 18000000, 0, 0, 1500000, 0, 0, 0, 0, 0, 0] 4000 11176 2 1 false
        = 29126 := by
  decide +kernel

/-- 10.5: a waste of 54,405 under SHARED is 27,202 to the client; 10.4: 90 s at 150 %. -/
theorem test_shared_waste_of_10_5 : clientPart .waste .shared 54405 = 27202 := by decide

/-- R140: a colour differs from itself by 0, and by 300 from one 3 L away. -/
theorem test_deltaE :
    deltaE ⟨5000, 0, 0⟩ ⟨5000, 0, 0⟩ = 0 ∧ deltaE ⟨5000, 0, 0⟩ ⟨5300, 0, 0⟩ = 300 := by
  decide +kernel

/-- R167: the published check value of this polynomial and initial value over the digits 1 to 9. -/
theorem test_crc16 : crc16 [0x31, 0x32, 0x33, 0x34, 0x35, 0x36, 0x37, 0x38, 0x39] = 0x29B1 := by
  decide +kernel

/-- R80: the humidity entry 612 of 10.4 lies in the 150 % band of R81. -/
theorem test_humidity : humidity 2507 = 612 := by decide

/-! ### States to test on -/

/-- The state after a command. -/
def after (c : Instr) (s : State) : State :=
  match exec c s with
  | .next t => t
  | .refused _ => s

def policy : CheckPolicy where
  refSet := 0
  absMax := 250
  absMean := 200
  editionCheck := true
  editionMax := 100
  unmeasured := .accept
  stripOffset := 100
  stripLength := 150

def roll (remaining : Nat) : RollFigures where
  mediaType := 1
  width := 2000
  declared := 9000
  remaining := remaining
  netFed := 9000 - remaining
  lowNoticed := true

/-- Media type 1 is defined, roll 0 is mounted, the drops are confirmed, a cut costs 1,000, reference
set 0 holds two patches, and account 3 is enabled. -/
def base : State :=
  let s := State.reset
  { s with
    media :=
      { s.media with
        types := s.media.types.set 1 { defined := true, width := 2000, dryBase := 0, pauseLimit := 3 }
        rolls := s.media.rolls.set 0 (.mounted (roll 9000)) }
    meter := { s.meter with confirmed := true }
    colour :=
      { s.colour with
        refs := s.colour.refs.set 0 { patches := [⟨5000, 0, 0⟩, ⟨5000, 0, 0⟩], inUse := 0 } }
    cost :=
      { s.cost with
        prices := s.cost.prices.set 0 { PriceSet.atReset with cut := 1000 }
        accounts := s.cost.accounts.set 3 { Account.atReset true with limit := 4000 } } }

/-- A submission of two copies with lead and trail cuts, at 2,000 a copy. -/
def order (check : Option CheckPolicy) : Submission where
  account := 3
  cls := 0
  priceSet := 0
  mediaType := 1
  copies := 2
  reprintLimit := 1
  waste := .client
  leadCut := true
  trailCut := true
  margin := 10
  copyLength := 600
  check := check
  estimate := Vector.replicate 12 0

/-- The payload of such a submission with no check, of `copies` copies at an estimate (11.7). -/
def orderBytes (account copies estimate : Nat) : List Byte :=
  leBytes 1 account ++ [0, 0, 1] ++ leBytes 1 copies ++ [1, 0, 1, 1, 10] ++ leBytes 4 600 ++
    List.replicate 19 0 ++ tableBytes (leBytes 4) (Vector.replicate 12 estimate)

/-- A job admitted from the order, with these copies. -/
def job (st : JobState) (copies : List CopyRecord) : Job :=
  { newJob base (order (some policy)) with
    state := st
    reservationHeld := st = .queued
    copies := copies }

def copy (st : CopyState) (a : Attempt) : CopyRecord := { state := st, attempt := 1, record := a }

/-- The attempt of a copy that prints or has printed. -/
def attempt (cause : Option EndCause) : Attempt :=
  { Attempt.fresh with
    started := some { time := 0, pos := 0 }
    ended := cause.map fun _ => { time := 0, pos := 0 }
    endCause := cause
    measure := .pending
    outstandingCuts := 2
    pauseLimit := 3000
    pricedWidth := 2000 }

/-- The base with a job at handle 0, its ledgers and locks. -/
def withJob (j : Job) : State :=
  { base with
    store :=
      { jobs := base.store.jobs.set 0 (some j), freeCopies := 1024 - j.copies.length, nextSeq := 1,
        waitList := [] }
    colour := { base.colour with refs := modifyAt base.colour.refs 0 fun r => { r with inUse := 1 } }
    cost :=
      { base.cost with
        prices := modifyAt base.cost.prices 0 fun p => { p with inUse := 1 }
        accounts :=
          modifyAt base.cost.accounts 3 fun a =>
            { a with openJobs := 1, committed := j.commitment } } }

/-- The reference of copy 1 of the job at handle 0, in its first attempt. -/
def ref1 : CopyRef := { handle := 0, copy := 1, attempt := 1 }

def granted (printing : Bool) (s : State) : State :=
  { s with sched := { s.sched with grant := some { ref := ref1, printing := printing, roll := 0 } } }

/-- Two PENDING copies. -/
def queued : State :=
  withJob (job .queued (List.replicate 2 (copy .pending Attempt.fresh)))

/-- The same, with the last copy alone. -/
def lastCopy : State := withJob (job .queued [copy .pending Attempt.fresh])

/-- Copy 1 is PRINTING, copy 2 PENDING. -/
def printing : State :=
  granted true
    (withJob (job .queued [copy .printing (attempt none), copy .pending Attempt.fresh]))

/-- Copy 1 has ended and is FINISHING. -/
def ended : State :=
  granted false
    (withJob (job .queued [copy .finishing (attempt (some .done)), copy .pending Attempt.fresh]))

/-- Every copy is terminal. -/
def closed : State :=
  withJob (job .closed [copy .accepted (attempt (some .done)), copy .cancelled Attempt.fresh])

def mark (kind : MarkKind) (pos : Pos) (fired : Bool) (captured : Option Pos) : Mark where
  pos := pos
  kind := kind
  owners := [ref1]
  fired := fired
  service := if captured.isSome then .inService else .notBegun
  captured := captured

def withMarks (ms : List Mark) (s : State) : State := { s with media := { s.media with marks := ms } }

def withHold (st : HoldState) (s : State) : State :=
  { s with media := { s.media with hold := { s.media.hold with state := st } } }

/-- The port holds an unread response. -/
def answering (p : Port) (s : State) : State := s.answered p .queryJob 1 [0] (Reply.ok [])

/-- The port is held by its reset line. -/
def holding (p : Port) (s : State) : State := { s with pins := s.pins.setPortReset p true }

/-- RESET is asserted. -/
def inReset (s : State) : State := { s with pins := { s.pins with reset := true } }

/-- Engine fault policies all masked. -/
def masked (s : State) : State :=
  { s with
    ports :=
      s.ports.modifyUnit .engine fun u =>
        { u with policy := Vector.replicate 11 { masked := true, severity := .advisory } } }

/-- A cartridge of 10 mL. -/
def cartridge : Cartridge where
  declared := 10000000
  level := 10000000
  drawn := 0
  writtenOff := 0
  lot := 0
  expiry := 0
  declaredAt := 0

def bay (st : BayState) : Bay :=
  { Bay.atReset true Calibration.atPower with
    state := st, cart := if st.declared then some cartridge else none }

/-- Bay 0 holds a cartridge in one state, bay 1 in another, and channel 0 is active on side A where
bay 0 is ACTIVE. -/
def stocked (x y : BayState) : State :=
  let s := State.reset
  { s with
    pins := { s.pins with present := (s.pins.present.set 0 (x != .empty)).set 1 (y != .empty) }
    ink :=
      { bays := (s.ink.bays.set 0 (bay x)).set 1 (bay y)
        channels :=
          modifyAt s.ink.channels 0 fun ch =>
            if x = .active then { ch with active := some .a, lastActive := some .a } else ch } }

/-- Measurement of copy 1 of the job, exchanging under number 7. -/
def measuring (phase : MeasurePhase) (discard : Bool) (s : State) : State :=
  let s := withMarks [mark .measure 0 true (some 0), mark .cut 500 false none] s
  { s with
    colour :=
      { s.colour with
        strips := [{ ref := ref1, mediaType := 1, clock := none }]
        measurement := some
          { owner := ref1, markPos := 0, captured := 0, overshoot := 0, phase := phase,
            discard := discard }
        dryTimer := some 40
        headTimer := some 50 } }

def patchOk : PatchRecord := { colour := ⟨5000, 0, 0⟩, valid := true }

/-! ### Worked events of the spec -/

/-- 10.3: 2,900,000 nL against a usable 2,600,000: bay 10 becomes SPENT, the active bay is none, and
300,000 more come from SPENT bay 10, which stands at 2,700,000. -/
theorem test_draw_of_10_3 :
    let s := stocked .active .empty
    let low := { cartridge with level := 5600000, drawn := 4400000 }
    let s :=
      { s with ink := { s.ink with
        bays := modifyAt s.ink.bays 0 fun b => { b with cart := some low } } }
    let t := (drawChannel 0 2900000 (Ev.begin s)).st
    t.ink.bays[(0 : Fin 24)].state = .spent ∧ t.ink.bays[(0 : Fin 24)].level = 2700000 ∧
      t.ink.channels[(0 : Fin 12)].active = none ∧ t.ink.channels[(0 : Fin 12)].overdraw = 0 := by
  decide +kernel

/-- 10.7: M = 31,000,000 against a level of 63,000,000 is a write-off of 32,000,000. -/
theorem test_write_off_of_10_7 :
    levelCheck 63000000 31000000 2000000 false = .writeOff ∧
      (({ cartridge with declared := 63000000, level := 63000000 }).writeDown 31000000).writtenOff =
        32000000 := by
  decide

/-- 10.4: the hold is taken 9 steps late, 14,000 ms after the end of copy 1, whose strip needs 135,000
ms; the printing copy's allowance is 120,000 ms, and the strip resolves UNMEASURED(WET). -/
theorem test_wet_of_10_4 :
    let s := withHold .requested (withMarks [mark .measure 157000 true none] printing)
    let clock : DryClock := { start := 0, factor := 150, required := 135000 }
    let s : State :=
      { s with
        clock := { s.clock with mono := 14000 }
        media := { s.media with pos := 157009 }
        colour := { s.colour with strips := [{ ref := ref1, mediaType := 1, clock := some clock }] } }
    (after (.holdTaken .engine 1 []) s).colour.history.map (·.result) = [.unmeasured .wet] ∧
      (after (.holdTaken .engine 1 []) s).media.hold.state = .free := by
  decide +kernel

/-! ### Witnesses: the step, reset, rules over the whole part -/

/-- IdleStepTicks, both clauses, the second at the last millisecond of the last day. -/
theorem witness_IdleStepTicks :
    (inReset State.reset).pending = [] ∧ (inReset State.reset).pins.reset = true ∧
      (let s : State := { State.reset with clock := { mono := 0, day := 65535, ms := 86399999 } }
      s.pending = [] ∧ s.pins.reset = false ∧ s.clock.day < 65536 ∧ s.clock.ms < 86400000 ∧
        ∃ t, step s = .next t ∧ t.clock = { mono := 1, day := 0, ms := 0 }) :=
  ⟨by decide, by decide, by decide, by decide, by decide, by decide, _, rfl, by decide +kernel⟩

/-- DeviceReset: a command that RESET ignores, which moves its line and no other. -/
theorem witness_DeviceReset :
    (inReset State.reset).pins.reset = true ∧ Instr.cutHomeFall ≠ .deviceReset ∧
      Instr.cutHomeFall ≠ .resetRelease ∧ Instr.cutHomeFall ≠ .powerApplied ∧
      lineMoved .cutHomeFall (inReset State.reset).pins =
        { (inReset State.reset).pins with cutHome := false } := by
  decide

/-- OrderChangesNoted: SET_POWER turns the CAP order on. -/
theorem witness_OrderChangesNoted :
    ∃ t, exec (.setPower .desk 1 [1]) base = .next t ∧ t.capOrder ≠ base.capOrder :=
  ⟨_, rfl, by decide +kernel⟩

/-- SoleWriters: each of the four changes happens, and an expiry moves the count. -/
theorem witness_SoleWriters :
    (let nine : DropVolumes := { small := 9, medium := 9, large := 9 }
      let s : State :=
        { base with meter := { base.meter with drops := Vector.replicate 12 nine } }
      ∃ t, exec .powerApplied s = .next t ∧ t.meter.drops ≠ s.meter.drops) ∧
    (∃ t, exec (.feedStep .reverse) base = .next t ∧ t.media.pos ≠ base.media.pos) ∧
    (∃ t, exec (.setBayCal .desk 1 (leBytes 1 23 ++ leBytes 2 5000 ++ leBytes 4 0 ++ leBytes 4 7)) base
        = .next t ∧ ∃ b : Fin 24, t.ink.bays[b].cal ≠ base.ink.bays[b].cal) ∧
    (let s : State := { base with clock := { mono := 5, day := 0, ms := 5 } }
      ∃ t, exec .deviceReset s = .next t ∧ t.clock.mono < s.clock.mono) ∧
    (let s : State := { base with scan := { base.scan with timer := some 60000 } }
      ∃ t, exec .scanIntervalExpiry s = .next t ∧ t.clock.mono ≠ s.clock.mono) :=
  ⟨⟨_, rfl, by decide +kernel⟩, ⟨_, rfl, by decide +kernel⟩, ⟨_, rfl, 23, by decide +kernel⟩,
    ⟨_, rfl, by decide +kernel⟩, ⟨_, rfl, by decide +kernel⟩⟩

/-! ### Witnesses: the invariants -/

/-- A state that meets what every entry of a table meets in one of two ways. -/
theorem cart_cases (b : Fin 24) :
    (stocked .active .ready).ink.bays[b].cart = none ∨
      (stocked .active .ready).ink.bays[b].cart = some cartridge := by
  revert b
  decide +kernel

/-- Bay 0 is ACTIVE and bay 1 READY. -/
theorem stocked_sound : BaysFollow (stocked .active .ready) where
  sound :=
    { balance := fun b k h => by
        obtain e | e := cart_cases b
        · rw [e] at h; cases h
        · rw [e] at h; cases h; unfold Cartridge.sound; decide
      removed := fun b r k h => by
        have : ∀ b : Fin 24, (stocked .active .ready).ink.bays[b].removal = none := by decide +kernel
        rw [this b] at h; cases h
      present := (by decide +kernel)
      certain := (by decide +kernel)
      active := fun c sd => by
        cases sd
        · revert c; decide +kernel
        · revert c; decide +kernel
      ready := fun c sd => by
        cases sd
        · revert c; decide +kernel
        · revert c; decide +kernel
      above := fun c sd => by
        cases sd
        · revert c; decide +kernel
        · revert c; decide +kernel }
  follow := by decide +kernel

/-- StepKeepsBays and CartridgeSeated: a step from a state with the invariant. -/
theorem witness_StepKeepsBays : ∃ s t, BaysSound s ∧ BaysFollow s ∧ step s = .next t :=
  ⟨stocked .active .ready, _, stocked_sound.sound, stocked_sound, rfl⟩

/-- StepKeepsPool: two copy records are held. -/
theorem witness_StepKeepsPool : ∃ t, PoolSound queued ∧ step queued = .next t :=
  ⟨_, by unfold PoolSound; decide +kernel, rfl⟩

/-- A queue holds an entry, and a fault has been recorded. -/
def noted : State :=
  (State.reset.notify [{ kind := .cutterFault, subject := .none, detail := 1 }]).noteFault .job
    .malformed none

/-- StepKeepsPorts. -/
theorem witness_StepKeepsPorts : ∃ t, PortsSound noted ∧ step noted = .next t := by
  refine ⟨_, fun p => ?_, rfl⟩
  cases p <;>
  exact
    { queue := by decide +kernel
      entries := by decide +kernel
      levels := by decide +kernel
      threshold := by decide +kernel
      bad := by decide +kernel
      status := by decide +kernel
      faulted := by decide +kernel
      multiple := by decide +kernel }

/-- The jobs of a state are one job, at handle 0. -/
theorem job_only {s : State} {k : Job}
    (H : ∀ h : Fin 32, s.store.jobs[h] = none ∨ (h = 0 ∧ s.store.jobs[h] = some k)) {h : Nat}
    {j : Job} (e : s.job? h = some j) : h = 0 ∧ j = k := by
  unfold State.job? at e
  split at e
  · next lt =>
    obtain n | ⟨z, n⟩ := H ⟨h, lt⟩
    · have : s.store.jobs[(⟨h, lt⟩ : Fin 32)] = some j := e
      rw [n] at this; cases this
    · have : s.store.jobs[(⟨h, lt⟩ : Fin 32)] = some j := e
      rw [n] at this; cases this
      exact ⟨congrArg Fin.val z, rfl⟩
  · cases e

/-- The one job of `printing`. -/
def printingJob : Job := job .queued [copy .printing (attempt none), copy .pending Attempt.fresh]

theorem printing_only (h : Fin 32) :
    printing.store.jobs[h] = none ∨ (h = 0 ∧ printing.store.jobs[h] = some printingJob) := by
  revert h
  decide +kernel

/-- Its two copies. -/
theorem printing_copies {n : Nat} {c : CopyRecord} (h : printingJob.copy? n = some c) :
    (n = 1 ∧ c = copy .printing (attempt none)) ∨ (n = 2 ∧ c = copy .pending Attempt.fresh) := by
  match n with
  | 0 => cases h
  | 1 => cases h; exact .inl ⟨rfl, rfl⟩
  | 2 => cases h; exact .inr ⟨rfl, rfl⟩
  | n + 3 => cases h

theorem printing_printing : PrintingSound printing where
  named := fun h j n c hj hc => by
    obtain ⟨rfl, rfl⟩ := job_only printing_only hj
    obtain ⟨rfl, rfl⟩ | ⟨rfl, rfl⟩ := printing_copies hc
    · decide +kernel
    · decide +kernel
  current := fun r h => by
    have e : printing.printing = some ref1 := rfl
    rw [e] at h; cases h
    decide +kernel
  closed := fun h j hj => by
    obtain ⟨rfl, rfl⟩ := job_only printing_only hj
    decide +kernel

/-- StepKeepsPrinting: copy 1 is PRINTING. -/
theorem witness_StepKeepsPrinting : ∃ t, PrintingSound printing ∧ step printing = .next t :=
  ⟨_, printing_printing, rfl⟩

theorem printing_jobs : JobsSound printing where
  printing := printing_printing
  jobs := fun h j hj => by
    obtain ⟨rfl, rfl⟩ := job_only printing_only hj
    exact
      { state := (by decide +kernel :
          0 < printingJob.countIn .pending ∧ printingJob.reservationHeld = true)
        accepted := by decide +kernel
        rejected := by decide +kernel
        cancelled := by decide +kernel
        copies := by decide +kernel
        attempts := by decide +kernel
        unheld := by decide +kernel }
  waiting := by decide +kernel
  once := by decide +kernel

theorem printing_ledgers : LedgersSound printing where
  jobs := printing_jobs
  reserved := by decide +kernel
  committed := by decide +kernel
  opened := by decide +kernel
  prices := by decide +kernel
  refs := by decide +kernel

/-- StepKeepsLedgers: a job is open, with its commitment and its locks. -/
theorem witness_StepKeepsLedgers : ∃ t, LedgersSound printing ∧ step printing = .next t :=
  ⟨_, printing_ledgers, rfl⟩

/-- StepKeepsReservations. -/
theorem witness_StepKeepsReservations : ∃ t, ReservationsSound printing ∧ step printing = .next t := by
  refine ⟨_, ⟨printing_ledgers, by decide +kernel, by decide +kernel, fun c h => ?_⟩, rfl⟩
  have : ∀ c : Fin 12, printing.ink.channels[c].short = false := by decide +kernel
  rw [this c] at h; cases h

theorem base_types (k : Fin 16) :
    1000 ≤ base.media.types[k].width ∧ base.media.types[k].width ≤ 16256 ∧
      base.media.types[k].dryBase ≤ 3600 ∧ 1 ≤ base.media.types[k].pauseLimit ∧
      base.media.types[k].pauseLimit ≤ 600 := by
  revert k
  decide +kernel

/-- The figures of a base with marks, jobs or grants. -/
theorem figures_of {s : State} (m : s.meter = base.meter) (i : s.ink = base.ink)
    (n : s.scan = base.scan) (t : s.media.types = base.media.types)
    (r : s.media.rolls = base.media.rolls) (q : s.media.settings = base.media.settings)
    (p : ∀ r : Fin 16, (s.colour.refs[r]).patches.length ≤ 48 ∧
      ∀ x ∈ (s.colour.refs[r]).patches, x.inRange = true)
    (h : s.colour.histSize = 128 ∧ s.colour.history = [])
    (c : ∀ n : Fin 4, (∀ c : Fin 12, (s.cost.prices[n]).ink[c] ≤ 1000000) ∧
      (∀ t : Fin 16, (s.cost.prices[n]).media[t] ≤ 10000000) ∧ (s.cost.prices[n]).cut ≤ 100000 ∧
      (s.cost.prices[n]).measurement ≤ 100000)
    (a : (s.cost.accounts[(0 : Fin 32)]).enabled = true ∧
      ∀ a : Fin 32, (s.cost.accounts[a]).limit < 281474976710656)
    (k : s.clock = base.clock) : FiguresSound s where
  drops := by rw [m]; decide +kernel
  residue := by rw [m]; decide +kernel
  channels := by rw [i]; decide +kernel
  cals := by rw [i]; decide +kernel
  scan := by rw [n]; decide +kernel
  types := by rw [t]; exact base_types
  rolls := by
    rw [r]
    intro n
    match n with
    | 0 => exact ⟨rfl, by decide, by decide⟩
    | 1 => trivial
  path := by rw [q]; decide +kernel
  limits := by rw [q]; decide +kernel
  refs := p
  history := ⟨by rw [h.1]; decide, by rw [h.2]; exact Nat.zero_le _⟩
  prices := c
  house := a.1
  limit := a.2
  calendar := by rw [k]; decide +kernel

theorem queued_figures : FiguresSound queued :=
  figures_of rfl rfl rfl rfl rfl rfl (by decide +kernel) ⟨rfl, rfl⟩ (by decide +kernel)
    ⟨by decide +kernel, by decide +kernel⟩ rfl

/-- StepKeepsFigures: a roll is mounted and a media type defined. -/
theorem witness_StepKeepsFigures : ∃ t, FiguresSound queued ∧ step queued = .next t :=
  ⟨_, queued_figures, rfl⟩

/-- A fired MEASURE in service ahead of a CUT. -/
def marked : State := withMarks [mark .measure 0 true (some 0), mark .cut 500 false none] printing

/-- StepKeepsMarks. -/
theorem witness_StepKeepsMarks : ∃ t, MarksSound marked ∧ step marked = .next t :=
  ⟨_, ⟨by decide +kernel, by decide +kernel, by decide +kernel⟩, rfl⟩

/-- StepKeepsHold: no reason stands, and no pause runs. -/
theorem witness_StepKeepsHold : ∃ t, HoldSound printing ∧ step printing = .next t :=
  ⟨_, ⟨printing_printing, by decide +kernel, by decide +kernel, by decide +kernel⟩, rfl⟩

/-! ### Witnesses: frames and ports -/

/-- FramesReadBack: the greatest payload. -/
theorem witness_FramesReadBack : (List.replicate 1020 (0 : Byte)).length ≤ 1020 := by
  decide +kernel

/-- A port that is FAULTED. -/
def faulted : State :=
  { base with ports := base.ports.modifyUnit .job fun u => { u with state := .faulted } }

/-- PortRefusals: every port refuses some kind; a FAULTED port refuses a kind it would serve. -/
theorem witness_PortRefusals :
    base.pins.reset = false ∧ (∀ p ∈ [Port.job, .engine, .desk], base.portHeld p = false ∧
      (base.ports.unit p).txn = .idle) ∧ ReqKind.panelRequest.servedOn .job = false ∧
      ReqKind.setTime.servedOn .engine = false ∧ ReqKind.submitJob.servedOn .desk = false ∧
      ReqKind.fetchNotices.servedOn .job = true ∧ faulted.portHeld .job = false ∧
      (faulted.ports.unit .job).txn = .idle ∧ (faulted.ports.unit .job).state = .faulted := by
  decide +kernel

/-- So many bad frames have come in a row on a port. -/
def bad (p : Port) (n : Nat) : State :=
  { base with ports := base.ports.modifyUnit p fun u => { u with badCount := n } }

/-- FrameFaults: the seventh bad frame; the eighth on the Job port and on the Engine port; an overlap;
an unread response, on which a bad frame or a request ends. -/
theorem witness_FrameFaults :
    (transferOk [1, 2, 3] = true ∧ checkFrame [1, 2, 3] = .bad .malformed ∧
      (bad .desk 6).stops .desk .malformed = false ∧ ((bad .desk 6).ports.unit .desk).badCount < 7 ∧
      ((bad .desk 6).ports.unit .desk).txn = .idle) ∧
    (∀ p ∈ [Port.job, .engine], (bad p 7).stops p .malformed = false ∧
      ((bad p 7).ports.unit p).badCount = 7 ∧ (bad p 7).stops p .consecutiveBad = true) ∧
    (base.portHeld .desk = false ∧ base.stops .desk .overlap = false) ∧
    (((answering .job base).ports.unit .job).txn =
        .responseReady { kind := 2, tag := 1, code := .ok, payload := [] } ∧
      (answering .job base).stops .job .replyDropped = false ∧
      (answering .job base).stops .job .malformed = false ∧
      ((answering .job base).ports.unit .job).badCount < 7 ∧
      (answering .job base).portHeld .job = false) := by
  decide +kernel

/-- R174: two faults of one event enter the fault record in the order of the fault table: the first
unmasked blocking one of a bad frame over an unread response is MALFORMED, not REPLY_DROPPED. -/
theorem test_fault_order :
    let s := answering .job base
    let s : State :=
      { s with
        ports :=
          s.ports.modifyUnit .job fun u =>
            { u with policy := Vector.replicate 11 { masked := false, severity := .blocking } } }
    ((after (.badFrame .job [1, 2, 3]) s).ports.job.capture.map (·.kind)) = some .malformed := by
  decide +kernel

/-- R165: during a request transfer the part sends bytes of value 0. -/
theorem test_zeros_of_a_request :
    (after (.queryJob .job 1 [0]) base).ports.job.sent = List.replicate 7 0 ∧
      (after (.overlap .job [1, 2, 3]) base).ports.job.sent = [0, 0, 0] := by
  decide +kernel

/-- ReadTransfers: an idle port, a response not read to its end, and one read whole. -/
theorem witness_ReadTransfers :
    (base.ports.unit .engine).txn = .idle ∧
      (frameOut 2 1 .ok []).length = 7 ∧
      (answering .job base).portHeld .job = false ∧
      (∃ t, exec (.readTransfer .job 6) (answering .job base) = .next t ∧ t.reply .job = true) ∧
      ∃ t, exec (.readTransfer .job 7) (answering .job base) = .next t ∧ t.reply .job = false :=
  ⟨by decide +kernel, by decide +kernel, by decide +kernel, ⟨_, rfl, by decide +kernel⟩,
    ⟨_, rfl, by decide +kernel⟩⟩

/-- PortResets: with and without a printing copy; a port held by its line, and another command than
its reset. -/
theorem witness_PortResets :
    (Port.job ≠ .engine ∧ base.pins.reset = false ∧ base.printing = none ∧
      base.scan.running = none) ∧
    (printing.printing = some ref1 ∧ (printing.attempt? ref1).isSome = true ∧
      ∃ t, exec (.portReset .engine) printing = .next t ∧ (t.attempt? ref1).isSome = true) ∧
    ((holding .desk noted).portHeld .desk = true ∧ ((holding .desk noted).ports.unit .desk).queue ≠ [] ∧
      ∃ t, exec .cutHomeFall (holding .desk noted) = .next t ∧ t.media.cutter = .fault) ∧
    Instr.cutHomeFall ≠ .portReset .desk ∧ Instr.cutHomeFall ≠ .resetRelease :=
  ⟨by decide +kernel, ⟨by decide +kernel, by decide +kernel, _, rfl, by decide +kernel⟩,
    ⟨by decide +kernel, by decide +kernel, _, rfl, by decide +kernel⟩, by decide, by decide⟩

/-! ### Witnesses: jobs -/

/-- JobHandles: an open job, a CLOSED one, a free entry and a handle beyond the table. -/
theorem witness_JobHandles :
    (queued.store.jobs[(0 : Fin 32)].isSome = true ∧ queued.serves .queryJob .desk [0] = true ∧
      queued.serves .holdJob .job [0] = true ∧ queued.serves .releaseJob .job [0] = true) ∧
    (closed.store.jobs[(0 : Fin 32)].map (·.state) = some .closed ∧
      closed.serves .holdJob .job [0] = true) ∧
    (queued.job? 31 = none ∧ queued.job? 32 = none ∧ queued.serves .cancelJob .desk [32] = true ∧
      queued.serves .collectJob .desk [31] = true) := by
  decide +kernel

/-- CollectFreesTheJob: a CLOSED job and a QUEUED one. -/
theorem witness_CollectFreesTheJob :
    (closed.store.jobs[(0 : Fin 32)].map (·.state) = some .closed ∧
      closed.serves .collectJob .desk [0] = true) ∧
    (queued.store.jobs[(0 : Fin 32)].map (·.state) = some .queued ∧
      queued.serves .collectJob .desk [0] = true) := by
  decide +kernel

/-- SubmitAdmits: exactly at the credit limit, with an ask that fits and one that does not; on account 0,
which is not checked; and on an account past its limit, with nothing to cost. -/
theorem witness_SubmitAdmits :
    base.serves .submitJob .job (orderBytes 3 2 0) = true ∧
      readSubmission base (orderBytes 3 2 0) = some (order none) ∧
      (∀ i : Fin 32, base.store.jobs[i] = none) ∧ (order none).copies ≤ base.store.freeCopies ∧
      (base.cost.accounts[(order none).account]).charged +
          (base.cost.accounts[(order none).account]).committed + base.jobEstimate (order none) =
        (base.cost.accounts[(order none).account]).limit ∧
      (∀ c : Fin 12, (order none).copies * (order none).estimate[c] +
        ((order none).copies * (order none).estimate[c] * (order none).margin + 99) / 100 ≤
          base.ink.free c) ∧
      (readSubmission base (orderBytes 3 2 1)).isSome = true ∧ base.ink.free 0 < 2 ∧
      (readSubmission base (orderBytes 0 2 0)).map (·.account) = some 0 ∧
      (let s : State :=
          { base with cost := { base.cost with
            prices := modifyAt base.cost.prices 0 fun p => { p with cut := 0 }
            accounts := modifyAt base.cost.accounts 3 fun a => { a with charged := 4001 } } };
        s.serves .submitJob .job (orderBytes 3 2 0) = true ∧
          readSubmission s (orderBytes 3 2 0) = some (order none) ∧
          s.chargesNothing (order none) = true ∧
          (s.cost.accounts[(order none).account]).limit <
            (s.cost.accounts[(order none).account]).charged) := by
  decide +kernel

/-- RefusalsChangeNothing, the submissions: values, room, and one unit beyond the credit. -/
theorem witness_submitRefusals :
    (base.serves .submitJob .job [] = true ∧ readSubmission base [] = none) ∧
    (let s : State := { base with store := { base.store with freeCopies := 1 } };
      s.serves .submitJob .job (orderBytes 3 2 0) = true ∧
        readSubmission s (orderBytes 3 2 0) = some (order none) ∧
        s.store.freeCopies < (order none).copies) ∧
    (let s : State :=
        { base with cost := { base.cost with
          accounts := modifyAt base.cost.accounts 3 fun a => { a with limit := 3999 } } };
      s.serves .submitJob .job (orderBytes 3 2 0) = true ∧
        readSubmission s (orderBytes 3 2 0) = some (order none) ∧
        s.store.jobs[(0 : Fin 32)] = none ∧ (order none).copies ≤ s.store.freeCopies ∧
        (order none).account ≠ 0 ∧ s.chargesNothing (order none) = false ∧
        (s.cost.accounts[(order none).account]).limit < s.jobEstimate (order none)) := by
  decide +kernel

/-- CancelEndsTheJob: a CLOSED job, a job none of whose copies prints, and the printing job. -/
theorem witness_CancelEndsTheJob :
    (closed.serves .cancelJob .desk [0] = true ∧
      closed.store.jobs[(0 : Fin 32)].map (·.state) = some .closed) ∧
    (queued.serves .cancelJob .job [0] = true ∧ queued.printing = none ∧
      queued.store.jobs[(0 : Fin 32)].map (·.state) = some .queued) ∧
    (printing.serves .cancelJob .job [0] = true ∧ printing.printing = some ref1 ∧
      (printing.attempt? ref1).isSome = true) := by
  decide +kernel

/-- A CLOSING job whose one copy ended by this cause with nothing open, and which asks 10 nL of channel
0. -/
def closing (cause : EndCause) (seq : BitVec 32) (held : Nat) : Job :=
  { newJob base { order none with margin := 0, estimate := Vector.replicate 12 0 |>.set 0 10 } with
    state := .closing
    seq := seq
    reservation := Vector.replicate 12 0 |>.set 0 held
    reservationHeld := 0 < held
    copies :=
      [copy .finishing
        { attempt (some cause) with measure := .none, outstandingCuts := 0 }] }

/-- R10 and R39: of three attempts that close in one event, the first takes the 10 nL that are free, the
second does not fit and joins the list, and the third closes its job and frees 10 nL: the walk gives
them to the second, though no free volume is higher at the end of the event than at its start. -/
theorem test_release_at_close_walks :
    let s : State :=
      { base with
        store :=
          { base.store with
            jobs := ((base.store.jobs.set 0 (some (closing .mediaOut 0 0))).set 1
              (some (closing .mediaOut 1 0))).set 2 (some (closing .done 2 10)) }
        ink :=
          { base.ink with
            bays := modifyAt base.ink.bays 0 fun b =>
              { b with state := .active, cart := some (declared 0 3000020 0 0) }
            channels := modifyAt base.ink.channels 0 fun c =>
              { c with active := some .a, lastActive := some .a, reserved := 10 } } }
    let t := (settle ((Ev.begin s).mayClose
      [ref1, { ref1 with handle := 1 }, { ref1 with handle := 2 }])).st
    s.ink.free 0 = 10 ∧
      [0, 1, 2].map (fun h => (t.job? h).map fun j => j.state) =
        [some .queued, some .queued, some .closed] ∧
      t.store.waitList = [] ∧ t.ink.free 0 = 0 := by
  decide +kernel

/-- R154: on an account past its limit a job is admitted where it costs nothing, and refused CREDIT where
a cut costs 1,000. -/
theorem test_credit_of_a_free_job :
    let s (cut : Nat) : State :=
      { base with cost := { base.cost with
        prices := modifyAt base.cost.prices 0 fun p => { p with cut := cut }
        accounts := modifyAt base.cost.accounts 3 fun a => { a with charged := 4001 } } };
    let t (cut : Nat) := after (.submitJob .job 1 (orderBytes 3 2 0)) (s cut)
    ((t 0).job? 0).isSome = true ∧ ((t 1000).job? 0).isSome = false := by
  decide +kernel

/-! ### Witnesses: metering -/

/-- Drop volumes that are all one number. -/
def dropsOf (n : Nat) : Vector DropVolumes 12 :=
  Vector.replicate 12 { small := n, medium := n, large := n }

/-- DeclareDrops: a wrong length; the ends of the range and the numbers beyond; a PRINTING copy. -/
theorem witness_DeclareDrops :
    base.serves .declareDrops .engine [] = true ∧
      (∀ n ∈ [4, 5, 1000, 1001], base.serves .declareDrops .engine (tableBytes dropBytes (dropsOf n))
        = true ∧ (allOf 12 fun c => ((dropsOf n)[c]).inRange) = (5 ≤ n ∧ n ≤ 1000)) ∧
      printing.serves .declareDrops .engine (tableBytes dropBytes (dropsOf 5)) = true ∧
      printing.printing.isSome = true := by
  decide +kernel

/-- Conversion: the greatest values of R54, no drops at all, and the printing copy. -/
theorem witness_Conversion :
    (let m : Metering := { drops := dropsOf 1000, residue := Vector.replicate 12 9999,
                           confirmed := true };
      (m.drops[(0 : Fin 12)]).small ≤ 1000 ∧ m.residue[(0 : Fin 12)] < 10000 ∧
        (wholeVolumes m fun _ => (16777215, 16777215, 16777215))[(0 : Fin 12)] = 5033165 ∧
        (wholeVolumes m fun _ => (0, 0, 0))[(0 : Fin 12)] = 0) ∧
    ((Ev.begin printing).st.attempt? ref1 = some (printingJob, copy .printing (attempt none)) ∧
      (attempt none).consumption[(0 : Fin 12)] < 281474976710656 ∧
      ((drawdown 0 (Vector.replicate 12 0) (consume ref1 (Vector.replicate 12 0)
        (Ev.begin printing))).st.attempt? ref1).isSome = true) := by
  decide +kernel

/-- A swath report of no drops for copy 1 (11.6). -/
def swath : List Byte := refBytes ref1 ++ List.replicate 108 0

/-- SwathOfPrintingCopy: the hold FREE, and TAKEN. -/
theorem witness_SwathOfPrintingCopy :
    ((withHold .taken printing).serves .swathReport .engine swath = true ∧
      (withHold .taken printing).media.hold.state = .taken ∧
      (withHold .taken printing).stops .engine .swathWhileHeld = false) ∧
    printing.serves .swathReport .engine swath = true ∧ swath.length = 111 ∧
      printing.printing = some (refAt swath 0) ∧
      printing.attempt? (refAt swath 0) = some (printingJob, copy .printing (attempt none)) ∧
      printing.media.hold.state ≠ .taken ∧
      ∀ h ∈ printing.store.waitList, h.val ≠ (refAt swath 0).handle := by
  decide +kernel

/-- OtherReports: an ended attempt, a reference that names none, maintenance, and wrong lengths; the
hold TAKEN; reservations within what the draw leaves. -/
theorem witness_OtherReports :
    (ended.serves .swathReport .engine swath = true ∧ ended.printing ≠ some (refAt swath 0) ∧
      ended.media.hold.state ≠ .taken ∧
      (ended.attempt? (refAt swath 0)).map (fun x => x.2.state) = some .finishing) ∧
    (base.serves .swathReport .engine swath = true ∧ base.printing ≠ some (refAt swath 0) ∧
      base.media.hold.state ≠ .taken ∧ base.attempt? (refAt swath 0) = none ∧
      base.stops .engine .staleRef = false) ∧
    (base.serves .maintReport .engine (List.replicate 108 0) = true ∧
      base.serves .maintReport .engine [] = true ∧ base.serves .swathReport .engine [] = true) ∧
    (∀ s ∈ [withHold .taken ended, withHold .taken base],
      s.serves .swathReport .engine swath = true ∧ s.media.hold.state = .taken ∧
        s.stops .engine .swathWhileHeld = false ∧
        ∀ c : Fin 12, s.ink.channels[c].reserved ≤
          (after (.swathReport .engine 1 swath) s).ink.usable c) := by
  decide +kernel

/-! ### Witnesses: grants -/

/-- CopyChoice: a copy at attempt 2 behind one at attempt 1; none at attempt 2; none PENDING. -/
theorem witness_CopyChoice :
    (job .queued [copy .pending Attempt.fresh,
        { copy .pending Attempt.fresh with attempt := 2 }]).copyChoice = some 2 ∧
      (job .queued [copy .accepted Attempt.fresh, copy .pending Attempt.fresh]).copyChoice = some 2 ∧
      (job .closed [copy .accepted Attempt.fresh]).copyChoice = none := by
  decide +kernel

/-- WalkOfThePhases: a walk that grants and one that does not, over sequence numbers in order. -/
theorem witness_WalkOfThePhases :
    (∀ (h : Nat) (j : Job), printing.job? h = some j → (j.seq - 0).toNat < 2147483648) ∧
      queued.walkPhases 32 0 = some (0, 0) ∧ base.walkPhases 32 31 = none := by
  refine ⟨fun h j e => ?_, by decide +kernel, by decide +kernel⟩
  obtain ⟨-, rfl⟩ := job_only printing_only e
  decide +kernel

/-- PanelRequestNone: a PRINTING copy; each of the three gates; nothing eligible. -/
theorem witness_PanelRequestNone :
    (printing.serves .panelRequest .engine [] = true ∧ printing.printing.isSome = true) ∧
    (let s : State := { queued with sched := { queued.sched with power := .capped } };
      s.serves .panelRequest .engine [] = true ∧ s.printing = none) ∧
    (State.reset.serves .panelRequest .engine [] = true ∧ State.reset.printing = none ∧
      State.reset.meter.confirmed = false) ∧
    (let s : State := { ended with sched := { ended.sched with abort := some ref1 } };
      s.serves .panelRequest .engine [] = true ∧ s.printing = none ∧ s.sched.abort.isSome = true) ∧
    (base.serves .panelRequest .engine [] = true ∧ base.sched.power ≠ .capped ∧
      base.meter.confirmed = true ∧ base.sched.abort = none ∧
      base.walkPhases 32 base.sched.pointer = none) := by
  decide +kernel

/-- PanelRequestGrants and GrantOnAClearPath: a job that checks colour, with two PENDING copies and
with one. -/
theorem witness_PanelRequestGrants :
    ∀ s ∈ [queued, lastCopy], s.serves .panelRequest .engine [] = true ∧ s.printing = none ∧
      s.sched.power = .run ∧ s.meter.confirmed = true ∧ s.sched.abort = none ∧
      s.sched.loadPending = false ∧ s.walkPhases 32 s.sched.pointer = some (0, 0) ∧
      ∃ j, s.job? 0 = some j ∧ j.copyChoice = some 1 ∧ (j.copy? 1).isSome = true ∧
        s.rollChoice j = some 0 ∧ j.check = some policy ∧ 100 ≤ j.copyLength ∧
        j.copyLength ≤ 300000 ∧ policy.stripOffset + policy.stripLength ≤ j.copyLength := by
  intro s h
  simp only [List.mem_cons, List.not_mem_nil, or_false] at h
  obtain rfl | rfl := h
  · exact ⟨by decide +kernel, by decide +kernel, by decide +kernel, by decide +kernel,
      by decide +kernel, by decide +kernel, by decide +kernel, _, rfl, by decide +kernel⟩
  · exact ⟨by decide +kernel, by decide +kernel, by decide +kernel, by decide +kernel,
      by decide +kernel, by decide +kernel, by decide +kernel, _, rfl, by decide +kernel⟩

/-- GrantOnAClearPath: its path and its ink. -/
theorem witness_GrantOnAClearPath :
    FiguresSound queued ∧ FiguresSound lastCopy ∧
      ∀ s ∈ [queued, lastCopy], s.media.marks = [] ∧ s.colour.measurement = none ∧
        s.colour.strips = [] ∧ s.store.waitList = [] ∧
        ∀ c : Fin 12, s.ink.channels[c].short = false ∧
          s.ink.channels[c].reserved ≤ s.ink.usable c :=
  ⟨queued_figures,
    figures_of rfl rfl rfl rfl rfl rfl (by decide +kernel) ⟨rfl, rfl⟩ (by decide +kernel)
      ⟨by decide +kernel, by decide +kernel⟩ rfl,
    by decide +kernel⟩

/-- PanelDoneEnds: with the scan idle, with a scan running, and without the trigger. -/
theorem witness_PanelDoneEnds :
    printing.serves .panelDone .engine (refBytes ref1) = true ∧ (refBytes ref1).length = 3 ∧
      printing.sched.grant = some { ref := refAt (refBytes ref1) 0, printing := true, roll := 0 } ∧
      printing.scan.config.onCopyEnd = true ∧ printing.scan.running = none ∧
      (∃ t, exec (.startScan .desk 1 []) printing = .next t ∧ t.scan.running.isSome = true ∧
        t.serves .panelDone .engine (refBytes ref1) = true) ∧
      ∃ t, exec (.setScan .desk 1 [0, 24, 0, 1, 0]) printing = .next t ∧
        t.scan.config.onCopyEnd = false ∧
        t.serves .panelDone .engine (refBytes ref1) = true :=
  ⟨by decide +kernel, by decide +kernel, by decide +kernel, by decide +kernel, by decide +kernel,
    ⟨_, rfl, by decide +kernel⟩, ⟨_, rfl, by decide +kernel⟩⟩

/-- The printing copy's attempt has no cuts outstanding and no measure to resolve. -/
def bare : State :=
  let a := { attempt none with measure := .none, outstandingCuts := 0 }
  granted true (withJob (job .queued [copy .printing a, copy .pending Attempt.fresh]))

/-- PanelDoneEnds, the close: an attempt that nothing keeps open. -/
theorem witness_closesAtTheEnd :
    bare.sched.grant = some { ref := refAt (refBytes ref1) 0, printing := true, roll := 0 } ∧
      (bare.attempt? ref1).map (fun x => (x.2.record.outstandingCuts, x.2.record.measure)) =
        some (0, .none) ∧
      bare.media.marks = [] ∧ bare.serves .panelDone .engine (refBytes ref1) = true ∧
      (∀ b ∈ [(0 : Byte), 1], bare.serves .panelAbort .engine (refBytes ref1 ++ [b]) = true) ∧
      0 < (bare.ports.unit .job).levels[NoticeKind.index .copyDone] := by
  decide +kernel

/-- PanelAbortEnds: the two causes and a byte beyond them. -/
theorem witness_PanelAbortEnds :
    (∀ b ∈ [(0 : Byte), 1, 2],
      printing.serves .panelAbort .engine (refBytes ref1 ++ [b]) = true) ∧
      (0 : Byte).toNat < 2 ∧ (1 : Byte).toNat < 2 ∧ 2 ≤ (2 : Byte).toNat ∧
      (printing.job? ref1.handle).isSome = true := by
  decide +kernel

/-- An unfired or fired CUT of these owners. -/
def cutOf (pos : Pos) (fired : Bool) (owners : List CopyRef) : Mark :=
  { mark .cut pos fired none with owners := owners }

/-- The references of two further attempts. -/
def ref2 : CopyRef := { ref1 with copy := 2 }
def ref3 : CopyRef := { ref1 with copy := 3 }

/-- Where a cut at the end position lands. -/
def cutAt (n : Nat) : Pos := steps (printing.media.settings.dCut + n)

/-- The path's marks, the last of them the trailing CUT of the printing copy: none at the end position
plus D_cut; its own there, with another owner; another's alone there; past one with two owners, none,
another's alone, its own. -/
def trailing : List (List Mark) :=
  let far := cutOf (cutAt 500) false [ref1]
  let full := cutOf (cutAt 0) false [ref2, ref3]
  [[far], [cutOf (cutAt 0) false [ref2, ref1], far], [cutOf (cutAt 0) false [ref2], far],
    [full, far], [full, cutOf (cutAt 1) false [ref2], far], [full, cutOf (cutAt 1) false [ref1], far]]

/-- PanelAbortEnds, the move of the trailing cut: an unfired one in each of its cases, and a fired
one. -/
theorem witness_trailingCutMoves :
    (∀ ms ∈ [cutOf 0 true [ref1]] :: trailing,
      (withMarks ms printing).serves .panelAbort .engine (refBytes ref1 ++ [1]) = true ∧
        (withMarks ms printing).sched.grant =
          some { ref := refAt (refBytes ref1) 0, printing := true, roll := 0 } ∧
        ((withMarks ms printing).job? ref1.handle).isSome = true ∧
        (withMarks ms printing).media.hold.state ≠ .taken ∧
        (∀ m ∈ ms, m.kind ≠ .measure) ∧ trailingCut ref1 printingJob ms = ms.getLast?) ∧
    trailing.map (fun ms =>
        (after (.panelAbort .engine 1 (refBytes ref1 ++ [1])) (withMarks ms printing)).media.marks.map
          fun m => (m.pos, m.owners)) =
      [[(cutAt 0, [ref1])], [(cutAt 0, [ref2, ref1])], [(cutAt 0, [ref2, ref1])],
        [(cutAt 0, [ref2, ref3]), (cutAt 1, [ref1])],
        [(cutAt 0, [ref2, ref3]), (cutAt 1, [ref2, ref1])],
        [(cutAt 0, [ref2, ref3]), (cutAt 1, [ref1])]] := by
  decide +kernel

/-- R100: past a CUT with two owners, a CUT with two owners one of which is the attempt is passed as
well. -/
theorem test_past_two_full_cuts :
    let ms := [cutOf (cutAt 0) false [ref2, ref3], cutOf (cutAt 1) false [ref1, ref2],
      cutOf (cutAt 500) false [ref1]]
    (after (.panelAbort .engine 1 (refBytes ref1 ++ [1])) (withMarks ms printing)).media.marks.map
        (fun m => (m.pos, m.owners)) =
      [(cutAt 0, [ref2, ref3]), (cutAt 1, [ref1, ref2]), (cutAt 2, [ref1])] := by
  decide +kernel

/-- R161: the overrun flag is evaluated at the end of the event. A stray swath while the hold is TAKEN
costs the house account 8,388 and, SWATH_WHILE_HELD being blocking, makes the engine lost; the attempt
closes WASTE, and its three cuts at 1,000 fall to the house account as well, whose limit is 1. -/
theorem test_one_overrun_of_an_event :
    let a := { attempt none with measure := .none, outstandingCuts := 0, cutsCharged := 3 }
    let j := { job .queued [copy .printing a, copy .pending Attempt.fresh] with waste := .house }
    let s := withHold .taken (granted true (withJob j))
    let s : State :=
      { s with
        cost :=
          { s.cost with
            prices := modifyAt s.cost.prices 0 fun p => { p with ink := Vector.replicate 12 1000000 }
            accounts := modifyAt s.cost.accounts 0 fun x => { x with limit := 1 } }
        ports :=
          s.ports.modifyUnit .engine fun u =>
            { u with policy := Vector.replicate 11 { masked := false, severity := .blocking } } }
    let counts := [255, 255, 255] ++ List.replicate 105 (0 : Byte)
    ((after (.swathReport .engine 1 ([9, 1, 1] ++ counts)) s).ports.desk.queue.filter
        (fun x => x.notice.kind = .accountOverrun)).map (fun x => x.notice.detail) =
      [(wholeVolumes s.meter (dropCounts counts 0))[0] + 3000 - 1] := by
  decide +kernel

/-- The part has ended printing of its own accord. -/
def aborted : State := { ended with sched := { ended.sched with abort := some ref1 } }

/-- EndingsAfterTheEnd: the answer to the ABORT order; a reference that is not the current grant's;
an ended grant with no ABORT order. -/
theorem witness_EndingsAfterTheEnd :
    (aborted.sched.grant = some { ref := refAt (refBytes ref1) 0, printing := false, roll := 0 } ∧
      aborted.sched.abort = some (refAt (refBytes ref1) 0) ∧
      aborted.serves .panelDone .engine (refBytes ref1) = true ∧
      aborted.serves .panelAbort .engine (refBytes ref1 ++ [1]) = true) ∧
    (base.sched.grant = none ∧ base.stops .engine .staleRef = false ∧
      base.serves .panelDone .engine (refBytes ref1) = true ∧
      base.serves .panelAbort .engine (refBytes ref1 ++ [0]) = true) ∧
    (ended.sched.grant = some { ref := refAt (refBytes ref1) 0, printing := false, roll := 0 } ∧
      ended.sched.abort = none ∧ ended.stops .engine .staleRef = false) := by
  decide +kernel

/-- ScheduleRequests. -/
theorem witness_ScheduleRequests :
    (∀ b ∈ [(0 : Byte), 1, 2], base.serves .setPower .desk [b] = true) ∧
      (printing.serves .setPower .desk [1] = true ∧ printing.printing.isSome = true ∧
        printing.sched.power ≠ .capped) ∧
      (∃ t, exec (.setPower .desk 1 [1]) base = .next t ∧ t.sched.power = .capped) ∧
      base.serves .writePhases .desk (lanes (Vector.replicate 32 (3 : Fin 4))) = true ∧
      base.serves .loadPhases .desk [] = true ∧
      base.serves .setClassMap .desk (lanes (Vector.replicate 8 (3 : Fin 4))) = true ∧
      (∃ b ∈ [(4 : Byte)], 4 ≤ b.toNat) ∧ base.serves .writePhases .desk [4] = true ∧
      base.serves .setClassMap .desk [4] = true :=
  ⟨by decide +kernel, by decide +kernel, ⟨_, rfl, by decide +kernel⟩, by decide +kernel,
    by decide +kernel, by decide +kernel, by decide, by decide +kernel, by decide +kernel⟩

/-- ReadRequests. -/
theorem witness_ReadRequests :
    base.serves .engineStatus .engine [] = true ∧ base.serves .readInk .desk [] = true ∧
      (∀ n ∈ [(0 : Byte), 1, 32, 33], base.serves .readHistory .desk [n, 0] = true) ∧
      base.serves .readAccount .desk [BitVec.ofNat 8 (31 : Fin 32).val] = true ∧
      base.serves .readAccount .desk [32] = true ∧ faulted.serves .readFaults .job [] = true := by
  decide +kernel

/-! ### Witnesses: the hold and the pause -/

/-- HoldTakenInRequested: with a reason left, under a PRINTING copy, and with none. -/
theorem witness_HoldTakenInRequested :
    (let s := withHold .requested (withMarks [mark .measure 0 true none] printing);
      s.serves .holdTaken .engine [] = true ∧ s.media.hold.state = .requested ∧
        s.media.pause = none ∧ s.printing.isSome = true) ∧
    (let s := withHold .requested (withMarks [mark .cut 0 true none] printing);
      s.serves .holdTaken .engine [] = true ∧ s.media.hold.state = .requested ∧
        ∃ t, exec (.holdTaken .engine 1 []) s = .next t ∧ t.holdReasons.any = true ∧
          t.media.hold.state = .taken) ∧
    (let s := withHold .requested base;
      s.serves .holdTaken .engine [] = true ∧ s.media.hold.state = .requested ∧
        ∃ t, exec (.holdTaken .engine 1 []) s = .next t ∧ t.holdReasons.any = false) :=
  ⟨by decide +kernel, ⟨by decide +kernel, by decide +kernel, _, rfl, by decide +kernel⟩,
    ⟨by decide +kernel, by decide +kernel, _, rfl, by decide +kernel⟩⟩

/-- The hold is REQUESTED for the strip of copy 1, which the path has passed by so much, at 1,000 ms;
its dry clock started at 0 and requires so much. -/
def strip (overshoot : Int) (required : Option Nat) (s : State) : State :=
  let s := withHold .requested (withMarks [mark .measure 1000 true none, mark .cut 3000 false none] s)
  { s with
    clock := { s.clock with mono := 1000 }
    media := { s.media with pos := 1000 + BitVec.ofInt 32 overshoot }
    colour :=
      { s.colour with
        strips :=
          [{ ref := ref1, mediaType := 1,
             clock := required.map fun n => { start := 0, factor := 100, required := n } }] } }

/-- HoldTakenInRequested, the service of a MEASURE: the ends of the range of R134, 0 and the strip
length of 150 less 60, and the positions beyond; a strip with no dry clock; one that is dry, one that
the allowance of 3,000 ms covers just, one that it does not, and that under no PRINTING copy. -/
theorem witness_measureBegins :
    (∀ s ∈ [strip (-1) none printing, strip 0 none printing, strip 90 none printing,
        strip 91 none printing, strip 0 (some 1000) printing, strip 90 (some 4000) printing,
        strip 0 (some 4001) printing, strip 0 (some 4001) ended],
      s.serves .holdTaken .engine [] = true ∧ s.media.hold.state = .requested ∧
        s.media.marks = [mark .measure 1000 true none, mark .cut 3000 false none] ∧
        (s.job? ref1.handle).map (·.check) = some (some policy) ∧
        reached s.media.pos (mark .cut 3000 false none).pos = false) ∧
    [strip (-1) none printing, strip 0 none printing, strip 90 none printing,
        strip 91 none printing].map (fun s => (s.media.pos - 1000).toInt) = [-1, 0, 90, 91] ∧
    policy.stripLength = 150 ∧ (strip 0 none printing).dryClock ref1 = none ∧
    ((strip 0 none printing).media.types[(1 : Fin 16)]).dryBase = 0 ∧
    ([strip 0 (some 1000) printing, strip 0 (some 4000) printing, strip 0 (some 4001) printing].map
      (fun s => (s.dryClock ref1).map (fun d => d.required - (s.now - d.start)))) =
        [some 0, some 3000, some 3001] ∧
    (strip 0 (some 4001) printing).allowance = 3000 ∧ (strip 0 (some 4001) ended).printing = none := by
  decide +kernel

/-- R134 to R137: MISSED on either side of the strip; no dry base, an exchange; a dry strip, an exchange;
a wait; WET; and the dry base that is not 0 while no clock runs, WET. -/
theorem test_measures_begin :
    let results (s : State) := (after (.holdTaken .engine 1 []) s).colour.history.map (·.result)
    let phase (s : State) := (after (.holdTaken .engine 1 []) s).colour.measurement.map (·.phase)
    let based (s : State) : State :=
      { s with media := { s.media with
        types := modifyAt s.media.types 1 fun t => { t with dryBase := 60 } } }
    results (strip (-1) none printing) = [.unmeasured .missed] ∧
      results (strip 91 none printing) = [.unmeasured .missed] ∧
      phase (strip 90 none printing) = some (.exchanging 1 []) ∧
      phase (strip 0 (some 1000) printing) = some (.exchanging 1 []) ∧
      phase (strip 90 (some 4000) printing) = some .drying ∧
      results (strip 0 (some 4001) printing) = [.unmeasured .wet] ∧
      phase (strip 0 (some 4001) ended) = some .drying ∧
      results (based (strip 0 none printing)) = [.unmeasured .wet] := by
  decide +kernel

/-- The acknowledge timer runs. -/
def awaited (s : State) : State :=
  { s with media := { s.media with hold := { s.media.hold with ackTimer := some 1500 } } }

/-- The pause timer runs. -/
def paused : State :=
  let s := withHold .taken printing
  { s with media := { s.media with pause := some { start := 0, due := 3000 } } }

/-- HoldAndPauseTimers. -/
theorem witness_HoldAndPauseTimers :
    (∀ st ∈ [HoldState.free, .taken], (withHold st base).serves .holdTaken .engine [] = true ∧
      (withHold st base).media.hold.state ≠ .requested ∧
      (withHold st base).stops .engine .unexpectedHold = false) ∧
    ((awaited base).pins.reset = false ∧ (awaited base).portHeld .engine = false ∧
      (awaited base).media.hold.ackTimer = some 1500 ∧
      (awaited base).stops .engine .holdIgnored = true ∧
      (awaited (masked base)).stops .engine .holdIgnored = false) ∧
    (paused.media.pause = some { start := 0, due := 3000 } ∧
      paused.sched.grant = some { ref := ref1, printing := true, roll := 0 } ∧
      (paused.attempt? ref1).isSome = true ∧
      ∃ t, exec .pauseExpiry paused = .next t ∧ (t.attempt? ref1).isSome = true) :=
  ⟨by decide +kernel, by decide +kernel, by decide +kernel, by decide +kernel, by decide +kernel, _,
    rfl, by decide +kernel⟩

/-! ### Witnesses: ink -/

/-- The payload of DECLARE_CARTRIDGE. -/
def declaration (bay volume expiry : Nat) : List Byte :=
  leBytes 1 bay ++ leBytes 4 volume ++ leBytes 4 7 ++ leBytes 2 expiry

/-- The day is 5. -/
def onDay5 (s : State) : State := { s with clock := { s.clock with day := 5 } }

/-- DeclareCartridge: the ends of the volume's range and the first above the dead volume; yesterday and
today; with no active bay and with one. -/
theorem witness_DeclareCartridge :
    ∀ x ∈ [(onDay5 (stocked .inserted .empty), (0 : Fin 24)), (onDay5 (stocked .active .inserted), 1)],
      x.1.ink.bays[x.2].state = .inserted ∧ x.1.clock.day = 5 ∧
        x.1.ink.channels[channelOf x.2].dead = 3000000 ∧
        x.1.ink.channels[channelOf x.2].active.isSome = (x.2 == 1) ∧
        ∀ v ∈ [1, 3000001, 1000000000], ∀ d ∈ [4, 5],
          x.1.serves .declareCartridge .desk (declaration x.2.val v d) = true := by
  decide +kernel

/-- RefusalsChangeNothing, the declarations: a bay beyond the table, a volume of 0 and one beyond the
range, an EMPTY bay, a bay that holds a declared cartridge. -/
theorem witness_declarationRefusals :
    (base.serves .declareCartridge .desk (declaration 24 1 0) = true ∧
      base.serves .declareCartridge .desk (declaration 0 0 0) = true ∧
      base.serves .declareCartridge .desk (declaration 0 1000000001 0) = true) ∧
    (base.ink.bays[(0 : Fin 24)].state = .empty ∧
      base.serves .declareCartridge .desk (declaration 0 1 0) = true) ∧
    ((stocked .spent .expired).ink.bays[(1 : Fin 24)].state.declared = true ∧
      (stocked .spent .expired).serves .declareCartridge .desk (declaration 1 1 0) = true) := by
  decide +kernel

/-- The payload of SET_CHANNEL for channel 0. -/
def channelBytes (dead : Nat) : List Byte :=
  leBytes 1 0 ++ leBytes 4 dead ++ leBytes 4 0 ++ leBytes 2 65535 ++ leBytes 4 4294967295

/-- SetChannel: a dead volume lowered, one raised to the ACTIVE bay's level, and one beyond. -/
theorem witness_SetChannel :
    (∀ d ∈ [0, 3000000, 10000000, 4294967295],
      (stocked .active .ready).serves .setChannel .desk (channelBytes d) = true) ∧
      (stocked .active .ready).ink.channels[(0 : Fin 12)].active = some .a ∧
      (stocked .active .ready).ink.bays[bayOf 0 .a].level = 10000000 ∧
      (stocked .active .ready).ink.channels[(0 : Fin 12)].dead = 3000000 := by
  decide +kernel

/-- CartridgeSeated: an EMPTY bay, and inputs that the states follow. -/
theorem witness_CartridgeSeated :
    base.pins.reset = false ∧ base.ink.bays[(0 : Fin 24)].state = .empty ∧
      BaysFollow (stocked .active .ready) ∧ (stocked .active .ready).pins.reset = false ∧
      (stocked .active .ready).pins.present[(0 : Fin 24)] = true ∧
      (stocked .active .ready).pins.present[(2 : Fin 24)] = false :=
  ⟨by decide +kernel, by decide +kernel, stocked_sound, by decide +kernel, by decide +kernel,
    by decide +kernel⟩

/-- CartridgeRemoved: an undeclared cartridge; an ACTIVE bay beside a READY one, and beside one that
is not. -/
theorem witness_CartridgeRemoved :
    (stocked .inserted .empty).ink.bays[(0 : Fin 24)].state = .inserted ∧
      (stocked .active .ready).ink.bays[(0 : Fin 24)].state = .active ∧
      (stocked .active .ready).ink.bays[bayOf (channelOf 0) (sideOf 0).other].state = .ready ∧
      (stocked .active .spent).ink.bays[(0 : Fin 24)].state = .active ∧
      (stocked .active .spent).ink.bays[bayOf (channelOf 0) (sideOf 0).other].state = .spent ∧
      (stocked .active .spent).ink.channels[channelOf 0].active = some (sideOf 0) ∧
      (stocked .active .spent).ink.channels[channelOf 0].lastActive = some (sideOf 0) := by
  decide +kernel

/-! ### Witnesses: the scan -/

/-- A scan of inputs 0 to 24 that has come to input `next`. -/
def running (qualifying : Bool) (next : Nat) : RunningScan where
  kind := .desk
  first := 0
  last := 24
  start := 0
  qualifying := qualifying
  next := next

def scanning (q : Bool) (next : Nat) (s : State) : State :=
  { s with scan := { s.scan with running := some (running q next) } }

/-- ScanRequests. -/
theorem witness_ScanRequests :
    base.serves .setBayCal .desk (leBytes 1 23 ++ leBytes 2 65535 ++ leBytes 4 0 ++
        leBytes 4 4294967295) = true ∧
      (∀ x ∈ [(25, 25), (0, 25), (1, 0), (24, 24), (0, 24)],
        base.serves .setScan .desk (leBytes 1 x.1 ++ leBytes 1 x.2 ++ [255] ++ leBytes 2 0) = true) ∧
      (base.serves .startScan .desk [] = true ∧ base.scan.config.onDesk = true ∧
        base.scan.running = none) ∧
      ((scanning true 0 base).serves .startScan .desk [] = true ∧
        (scanning true 0 base).scan.running.isSome = true) ∧
      ∃ t, exec (.setScan .desk 1 [0, 24, 6, 1, 0]) base = .next t ∧ t.scan.config.onDesk = false :=
  ⟨by decide +kernel, by decide +kernel, by decide +kernel, by decide +kernel, _, rfl,
    by decide +kernel⟩

/-- The interval timer is due at 60,000. -/
def timed (s : State) : State := { s with scan := { s.scan with timer := some 60000 } }

/-- ScanProgress: an idle scan, one that runs, and its last conversion. -/
theorem witness_ScanProgress :
    ((timed base).scan.timer = some 60000 ∧ (timed base).scan.config.onInterval = true ∧
      (timed base).scan.running = none) ∧
    (timed (scanning true 3 base)).scan.running.isSome = true ∧
    ((scanning true 24 base).scan.running = some (running true 24) ∧ (running true 24).next < 25 ∧
      (running true 24).next ≤ (running true 24).last.val) := by
  decide +kernel

/-- Bay 0 is calibrated and its cell has been read since the declaration. -/
def weighed : State :=
  let s := stocked .active .ready
  { s with
    ink :=
      { s.ink with
        bays := modifyAt s.ink.bays 0 fun b =>
          { b with cal := { zero := 0, scale := 1000, tare := 0, calibrated := true } } }
    scan :=
      { s.scan with samples := s.scan.samples.set 0 { raw := 100, time := 9, valid := true } } }

/-- ScanCompletes: a bay compared and one that is not; a scan that qualifies and one that does not. -/
theorem witness_ScanCompletes :
    (scanning true 25 weighed).scan.running = some (running true 25) ∧
      (running true 25).last.val < (running true 25).next ∧ (running true 25).qualifying = true ∧
      (scanning true 25 weighed).compares (running true 25) 0 = some cartridge ∧
      (scanning true 25 weighed).compares (running true 25) 1 = none ∧
      (scanning false 25 weighed).scan.running = some (running false 25) ∧
      (running false 25).qualifying = false := by
  decide +kernel

/-- MeasuredVolume: the greatest reading; a reading at the zero; a weight at the tare; both ends of the
clamp. -/
theorem witness_MeasuredVolume :
    measuredVolume 4095 { zero := 0, scale := 1000000, tare := 0, calibrated := true } 800
        10000000000 = 5118750000 ∧
      measuredVolume 4095 { zero := 4095, scale := 1000000, tare := 0, calibrated := true } 800 9 = 0 ∧
      measuredVolume 100 { zero := 0, scale := 1000, tare := 100, calibrated := true } 1000 9 = 0 ∧
      measuredVolume 101 { zero := 0, scale := 1000, tare := 100, calibrated := true } 1000 999
        = 999 := by
  decide +kernel

/-! ### Witnesses: the media path -/

/-- Roll 0 is in path. -/
def inPath (s : State) : State := { s with media := { s.media with rollInPath := some 0 } }

/-- The payload of SET_PATH, its six values the greatest of their fields. -/
def pathMost : List Byte :=
  leBytes 2 65535 ++ leBytes 2 65535 ++ leBytes 2 65535 ++ leBytes 6 281474976710655 ++
    leBytes 6 281474976710655 ++ leBytes 6 281474976710655

/-- MediaRequests: the roll in path under a PRINTING copy and under marks; a roll that may go; an EMPTY
roll. -/
theorem witness_MediaRequests :
    ((inPath printing).media.rollInPath = some 0 ∧ (inPath printing).printing.isSome = true ∧
      (inPath marked).media.marks ≠ []) ∧
    ((base.media.types[(1 : Fin 16)]).defined = true ∧ base.media.rollInPath = none ∧
      (∀ len ∈ [1, 19999, 20000, 1000000],
        base.serves .mountRoll .desk (leBytes 1 1 ++ leBytes 1 1 ++ leBytes 4 len) = true)) ∧
    (base.serves .unmountRoll .desk [BitVec.ofNat 8 (1 : Fin 2).val] = true ∧
      base.media.rolls[(1 : Fin 2)] = .empty ∧ base.media.rolls[(0 : Fin 2)] ≠ .empty) ∧
    base.serves .setMediaType .desk (leBytes 1 15 ++ leBytes 2 65535 ++ leBytes 2 65535 ++
      leBytes 2 0) = true ∧
    base.serves .setPath .desk pathMost = true := by
  decide +kernel

/-- The cutter stands in a state, at home or not. -/
def cutterIn (st : CutterState) (home : Bool) (s : State) : State :=
  { s with media := { s.media with cutter := st }, pins := { s.pins with cutHome := home } }

/-- ClearCutter: every state of the cutter; another port and a payload; a CUT that the next step
reaches, and one that waits for the hold. -/
theorem witness_ClearCutter :
    (∀ st ∈ [CutterState.ready, .starting, .returning, .fault], ∀ home ∈ [true, false],
      (cutterIn st home base).serves .clearCutter .desk [] = true) ∧
    ((base.ports.unit .desk).state = .normal ∧ (base.ports.unit .job).state = .normal ∧
      (base.ports.unit .job).txn = .idle ∧ Port.job ≠ .desk ∧ [(1 : Byte)] ≠ []) ∧
    (let s := withHold .taken (withMarks [mark .cut 1 false none] base);
      s.pins.reset = false ∧ s.media.cutter = .ready ∧ s.media.hold.state = .taken ∧
        s.media.feeding = none ∧ 0 ≤ (s.media.pos + 1 - (mark .cut 1 false none).pos).toInt ∧
        s.stops .engine .feedWhileHeld = false) ∧
    (let s := withHold .requested (withMarks [mark .cut 0 true none] base);
      s.media.cutter = .ready ∧ s.media.hold.state = .requested ∧
        (mark .cut 0 true none).service = .notBegun ∧ s.serves .holdTaken .engine [] = true) := by
  decide +kernel

/-- Roll 0 is in path with a length left. -/
def feeding (n : Nat) (s : State) : State :=
  { s with media := { s.media with rollInPath := some 0, rolls := s.media.rolls.set 0 (.mounted (roll n)) } }

/-- FeedSteps: no roll in path; the last but one length; a full roll in reverse; a mark reached. -/
theorem witness_FeedSteps :
    (base.pins.reset = false ∧ base.media.hold.state ≠ .taken ∧ base.media.feeding = none ∧
      base.media.marks = []) ∧
    ((feeding 2 base).media.feeding = some (0, roll 2) ∧ 1 < (roll 2).remaining ∧
      (feeding 9000 base).media.feeding = some (0, roll 9000)) ∧
    ((withMarks [mark .cut 1 false none] base).media.marks = [mark .cut 1 false none] ∧
      ∃ t, exec (.feedStep .forward) (withMarks [mark .cut 1 false none] base) = .next t ∧
        t.media.marks = [mark .cut 1 true none]) :=
  ⟨by decide +kernel, by decide +kernel, by decide +kernel, _, rfl, by decide +kernel⟩

/-- RollEndsAndHeldFeed: the last length, with a PRINTING copy and without; a TAKEN hold. -/
theorem witness_RollEndsAndHeldFeed :
    (∀ s ∈ [feeding 1 base, feeding 1 printing], s.pins.reset = false ∧
      s.media.feeding = some (0, roll 1) ∧ (roll 1).remaining = 1 ∧ s.media.hold.state ≠ .taken) ∧
    (feeding 1 base).printing = none ∧
    (feeding 1 printing).sched.grant = some { ref := ref1, printing := true, roll := 0 } ∧
    ((withHold .taken base).media.hold.state = .taken ∧
      (withHold .taken base).portHeld .engine = false ∧
      (withHold .taken base).stops .engine .feedWhileHeld = false) := by
  decide +kernel

/-- A cut of copy 1 in service, captured 21 steps late. -/
def cutting : State :=
  let s := withMarks [mark .cut 0 true (some 21)] ended
  { s with media := { s.media with cutter := .returning, cutterTimer := some 4000 } }

/-- Cutter: the edges of CUT_HOME, the end of a stroke and its failure. -/
theorem witness_Cutter :
    (base.pins.reset = false ∧ base.media.cutter = .ready ∧
      (cutterIn .starting true base).media.cutter = .starting ∧
      (cutterIn .fault false base).media.cutter ≠ .returning) ∧
    (cutting.media.marks = [mark .cut 0 true (some 21)] ∧
      (mark .cut 0 true (some 21)).service = .inService ∧
      (mark .cut 0 true (some 21)).owners.Nodup ∧ cutting.media.marks.tail = [] ∧
      cutting.media.cutter = .returning ∧ cutting.media.cutterTimer = some 4000 ∧
      (cutting.attempt? ref1).isSome = true ∧
      (cutterIn .starting false cutting).media.cutter = .starting) := by
  decide +kernel

/-! ### Witnesses: colour -/

/-- ColourDifference: the farthest colours in range. -/
theorem witness_ColourDifference :
    (⟨0, -20000, -20000⟩ : Colour).inRange = true ∧ (⟨10000, 20000, 20000⟩ : Colour).inRange = true := by
  decide

/-- Tolerances: exactly three quarters of the records are valid. -/
theorem witness_Tolerances :
    ([⟨0, 0, 0⟩, ⟨0, 0, 0⟩, ⟨0, 0, 0⟩, ⟨0, 0, 0⟩] : List Colour).length * 3 ≤
      ([patchOk, patchOk, patchOk, { patchOk with valid := false }].filter
        PatchRecord.ok).length * 4 := by
  decide

/-- A PATCH message for exchange 7, patch 0; an END message for two patches. -/
def patchBytes : List Byte := withCheck [2, 7, 0, 136, 19, 0, 0, 0, 0, 1]
def endBytes : List Byte := withCheck [3, 7, 2, 0, 0, 0, 0, 0, 0, 0]

/-- HeadMessages: a well-formed PATCH; a message with no exchange in progress; a dry wait. -/
theorem witness_HeadMessages :
    (let s := measuring (.exchanging 7 []) false ended;
      s.pins.reset = false ∧ patchBytes ≠ [] ∧ (s.colour.gathered ++ patchBytes).length = 12 ∧
        (s.colour.measurement.map (·.phase)) = some (.exchanging 7 []) ∧
        patchBytes.getD 0 0 = 2 ∧ patchBytes.getD 1 0 = 7 ∧ (patchBytes.getD 2 0).toNat = 0 ∧
        0 < (s.targetsOf ref1).length ∧
        (crc16 (patchBytes.take 10)).toNat =
          (patchBytes.getD 10 0).toNat + 256 * (patchBytes.getD 11 0).toNat) ∧
    (base.colour.measurement = none ∧ (base.colour.gathered ++ endBytes).length = 12) ∧
    (let s := measuring .drying false ended;
      s.colour.dryTimer = some 40 ∧ (s.colour.measurement.map (·.phase)) = some .drying) := by
  decide +kernel

/-- ExchangesEnd: an exchange with both records, kept or discarded, and the messages that end it. -/
theorem witness_ExchangesEnd :
    ∀ discard ∈ [true, false],
      let s := measuring (.exchanging 7 [patchOk, patchOk]) discard ended
      s.pins.reset = false ∧
        s.media.marks = [mark .measure 0 true (some 0), mark .cut 500 false none] ∧
        (mark .measure 0 true (some 0)).owners = [ref1] ∧
        reached s.media.pos (mark .cut 500 false none).pos = false ∧
        s.colour.measurement.map (fun m => (m.owner, m.phase, m.discard)) =
          some (ref1, .exchanging 7 [patchOk, patchOk], discard) ∧
        (s.job? ref1.handle).map (·.check) = some (some policy) ∧ s.colour.headTimer = some 50 ∧
        endBytes ≠ [] ∧ (s.colour.gathered ++ endBytes).length = 12 ∧ endBytes.getD 1 0 = 7 ∧
        (crc16 (endBytes.take 10)).toNat =
          (endBytes.getD 10 0).toNat + 256 * (endBytes.getD 11 0).toNat ∧
        (endBytes.getD 0 0).toNat = 3 ∧ (endBytes.getD 2 0).toNat = (s.targetsOf ref1).length ∧
        [patchOk, patchOk].length = (s.targetsOf ref1).length ∧
        3 < ((4 : Byte) :: endBytes.tail).head!.toNat := by
  decide +kernel

/-! ### Witnesses: the desk station's settings and the ports -/

/-- The payload of SET_REFERENCE for one set. -/
def referenceBytes (r n : Nat) : List Byte :=
  leBytes 1 r ++ (leBytes 1 n ++ ((List.replicate n (⟨5000, 0, 0⟩ : Colour)).map colourBytes).flatten)

/-- DeskSettings, the first four: a set in use and one that is not; sizes; prices; times. -/
theorem witness_deskSettings :
    (∀ n ∈ [1, 48], base.serves .setReference .desk (referenceBytes 0 n) = true ∧
      printing.serves .setReference .desk (referenceBytes 0 n) = true) ∧
    (base.colour.refs[(0 : Fin 16)]).inUse = 0 ∧ (printing.colour.refs[(0 : Fin 16)]).inUse = 1 ∧
    (∀ n ∈ [64, 128, 256, 65], base.serves .setHistorySize .desk (leBytes 2 n) = true) ∧
    (let p : PriceSet := { ink := Vector.replicate 12 1000000, media := Vector.replicate 16 10000000,
                           cut := 100000, measurement := 100000, inUse := 0 }
      ∀ s ∈ [base, printing], s.serves .setPrices .desk (leBytes 1 0 ++ priceBytes p) = true) ∧
    (base.cost.prices[(0 : Fin 4)]).inUse = 0 ∧ (printing.cost.prices[(0 : Fin 4)]).inUse = 1 ∧
    (∀ ms ∈ [86399999, 86400000], base.serves .setTime .desk (leBytes 2 65535 ++ leBytes 4 ms)
      = true) := by
  decide +kernel

/-- DeskSettings, the accounts: account 0 disabled; a limit below the committed figure and one at it. -/
theorem witness_accountSettings :
    (base.serves .setAccount .desk (leBytes 1 (0 : Fin 32).val ++ flagByte false ++ leBytes 6 0)
      = true) ∧
    (∀ limit ∈ [3999, 4000], printing.serves .setAccount .desk
      (leBytes 1 (3 : Fin 32).val ++ flagByte true ++ leBytes 6 limit) = true) ∧
    (printing.cost.accounts[(3 : Fin 32)]).committed = 4000 := by
  decide +kernel

/-- PortRequests: each request, on a port that serves it; levels within the range and beyond. -/
theorem witness_PortRequests :
    base.serves .setFaultPolicy .desk (leBytes 1 (portCode .engine) ++ policyBytes defaultPolicy)
        = true ∧
      (∀ p ∈ [Port.job, .engine, .desk], noted.serves .fetchNotices p [] = true ∧
        noted.serves .clearFaults p [] = true) ∧
      faulted.serves .clearFaults .job [] = true ∧
      (∀ n ∈ [0, 1, 7, 8], base.serves .setNoticeLevels .job
        (leBytes 1 n ++ tableBytes (leBytes 1) (Vector.replicate 18 n)) = true) := by
  decide +kernel

/-- A queue with room for one entry, and a full one. -/
def filled (n : Nat) : State :=
  { base with
    ports :=
      base.ports.modifyUnit .desk fun u =>
        { u with
          queue := List.replicate n
            { notice := { kind := .rollEnd, subject := .roll 0, detail := 7 }, level := 4, time := 1 } } }

/-- PortRequests, the queues: a READY cutter leaves home while a queue has room, is full, has level 0 for
the kind, and is held. -/
theorem witness_noticesQueue :
    (∀ s ∈ [filled 31, filled 32, holding .desk (filled 31)], s.pins.reset = false ∧
      s.media.cutter = .ready) ∧
    (filled 32).portHeld .desk = false ∧ (holding .desk (filled 31)).portHeld .desk = true ∧
    0 < (filled 32).ports.desk.levels[NoticeKind.index .cutterFault] ∧
    (filled 32).ports.job.levels[NoticeKind.index .cutterFault] = 0 ∧
    ((after .cutHomeFall (filled 32)).ports.desk.queue.length = 32 ∧
      (after .cutHomeFall (filled 32)).ports.desk.wrapped = true) := by
  decide +kernel

end

end Sys2Proof.Tests
end

section
/-! SUPPORT. The soundness of the bays channel by channel (R26, R31, R44, R45, R56), and what a change of
one channel and one of its bays leaves of it. -/

namespace Sys2Proof.Machine

/-! ### Bays and channels by number -/

@[simp] theorem channelOf_bayOf (c : Fin 12) (sd : Side) : channelOf (bayOf c sd) = c := by
  apply Fin.ext
  cases sd <;> simp only [channelOf, bayOf] <;> omega

@[simp] theorem sideOf_bayOf (c : Fin 12) (sd : Side) : sideOf (bayOf c sd) = sd := by
  cases sd <;> simp [sideOf, bayOf]

theorem exists_bayOf (b : Fin 24) : ∃ c sd, b = bayOf c sd := by
  refine ⟨channelOf b, sideOf b, Fin.ext ?_⟩
  unfold sideOf
  split <;> simp only [bayOf, channelOf] <;> omega

theorem bayOf_inj {c c' : Fin 12} {sd sd' : Side} : bayOf c sd = bayOf c' sd' ↔ c = c' ∧ sd = sd' := by
  constructor
  · intro h
    exact ⟨by simpa using congrArg channelOf h, by simpa using congrArg sideOf h⟩
  · rintro ⟨rfl, rfl⟩
    rfl

@[simp] theorem other_other (sd : Side) : sd.other.other = sd := by cases sd <;> rfl

theorem other_ne (sd : Side) : sd.other ≠ sd := by cases sd <;> decide

theorem eq_or_other (sd sd' : Side) : sd' = sd ∨ sd' = sd.other := by
  cases sd <;> cases sd' <;> simp [Side.other]

/-! ### Soundness, by bay and by channel -/

/-- One bay is sound: its figures balance, and it holds cartridge data in the declared states only
(R26, R45, R57). -/
structure Bay.Sound (b : Bay) : Prop where
  balance : ∀ k, b.cart = some k → k.sound
  removed : ∀ r k, b.removal = some r → r.figures = some k → k.sound
  present : b.cart.isSome = b.state.declared
  certain : b.state.declared = false → b.uncertain = false

/-- One channel and its two bays agree (R31, R44, R56). -/
structure InkUnit.ChannelSound (i : InkUnit) (c : Fin 12) : Prop where
  active : ∀ sd, i.channels[c].active = some sd ↔ i.bays[bayOf c sd].state = .active
  ready : i.channels[c].active = none → ∀ sd, i.bays[bayOf c sd].state ≠ .ready
  above : ∀ sd, i.bays[bayOf c sd].state = .active → i.channels[c].dead < i.bays[bayOf c sd].level

/-- The agreement follows from the channel's record and the two bays. -/
theorem InkUnit.ChannelSound.congr {i j : InkUnit} {c : Fin 12} (h : i.ChannelSound c)
    (channel : j.channels[c] = i.channels[c])
    (bays : ∀ sd, j.bays[bayOf c sd] = i.bays[bayOf c sd]) : j.ChannelSound c where
  active sd := by rw [channel, bays]; exact h.active sd
  ready none sd := by rw [bays]; exact h.ready (channel ▸ none) sd
  above sd act := by
    rw [bays] at act ⊢
    rw [channel]
    exact h.above sd act

structure InkUnit.Sound (i : InkUnit) : Prop where
  bays : ∀ b : Fin 24, i.bays[b].Sound
  channels : ∀ c : Fin 12, i.ChannelSound c

/-- The invariant of the bays is the soundness of the Ink unit's records alone. -/
theorem baysSound_iff (s : State) : BaysSound s ↔ s.ink.Sound where
  mp h :=
    { bays := fun b => ⟨h.balance b, h.removed b, h.present b, h.certain b⟩
      channels := fun c => ⟨h.active c, fun n sd => h.ready c sd n, h.above c⟩ }
  mpr h :=
    { balance := fun b => (h.bays b).balance
      removed := fun b => (h.bays b).removed
      present := fun b => (h.bays b).present
      certain := fun b => (h.bays b).certain
      active := fun c => (h.channels c).active
      ready := fun c sd n => (h.channels c).ready n sd
      above := fun c => (h.channels c).above }

/-- Every bay is EMPTY in both or in neither. -/
def InkUnit.SameSeats (i j : InkUnit) : Prop :=
  ∀ b : Fin 24, j.bays[b].state = .empty ↔ i.bays[b].state = .empty

theorem InkUnit.SameSeats.refl (i : InkUnit) : i.SameSeats i := fun _ => Iff.rfl

theorem InkUnit.SameSeats.trans {i j k : InkUnit} (h : i.SameSeats j) (h' : j.SameSeats k) :
    i.SameSeats k :=
  fun b => (h' b).trans (h b)

/-- A bay moved between two declared, or two undeclared, states stays sound. -/
theorem Bay.Sound.restate {b : Bay} (h : b.Sound) {x : BayState} (same : x.declared = b.state.declared) :
    ({ b with state := x } : Bay).Sound where
  balance := h.balance
  removed := h.removed
  present := h.present.trans same.symm
  certain d := h.certain (same.symm.trans d)

/-- Cartridge data replaced by figures that balance. -/
theorem Bay.Sound.mapCart {b : Bay} (h : b.Sound) {f : Cartridge → Cartridge}
    (keeps : ∀ k, b.cart = some k → k.sound → (f k).sound) :
    ({ b with cart := b.cart.map f } : Bay).Sound where
  balance k hk := by
    obtain ⟨k', e, rfl⟩ := Option.map_eq_some_iff.1 hk
    exact keeps k' e (h.balance k' e)
  removed := h.removed
  present := by simpa using h.present
  certain := h.certain

/-- The uncertain flag may be cleared, and set in a declared state. -/
theorem Bay.Sound.setUncertain {b : Bay} (h : b.Sound) {u : Bool}
    (ok : b.state.declared = false → u = false) : ({ b with uncertain := u } : Bay).Sound where
  balance := h.balance
  removed := h.removed
  present := h.present
  certain := ok

/-! ### A change of one channel and one of its bays -/

/-- Channel `c` changed by `g` and its bay on side `sd` by `f`. -/
def InkUnit.change (c : Fin 12) (sd : Side) (f : Bay → Bay) (g : Channel → Channel) (i : InkUnit) :
    InkUnit :=
  { channels := modifyAt i.channels c g, bays := modifyAt i.bays (bayOf c sd) f }

section
variable (c : Fin 12) (sd : Side) (f : Bay → Bay) (g : Channel → Channel) (i : InkUnit)

theorem change_channel : (i.change c sd f g).channels[c] = g i.channels[c] := modifyAt_self _ _ _

theorem change_bay : (i.change c sd f g).bays[bayOf c sd] = f i.bays[bayOf c sd] := modifyAt_self _ _ _

theorem change_bay_other :
    (i.change c sd f g).bays[bayOf c sd.other] = i.bays[bayOf c sd.other] :=
  modifyAt_other _ _ _ _ fun h => other_ne sd (bayOf_inj.1 h).2

theorem change_channel_away {c' : Fin 12} (h : c' ≠ c) :
    (i.change c sd f g).channels[c'] = i.channels[c'] := modifyAt_other _ _ _ _ h

theorem change_bay_away {c' : Fin 12} (h : c' ≠ c) (sd' : Side) :
    (i.change c sd f g).bays[bayOf c' sd'] = i.bays[bayOf c' sd'] :=
  modifyAt_other _ _ _ _ fun e => h (bayOf_inj.1 e).1

/-- The bays after a change, by cases. -/
theorem change_bay_cases (b : Fin 24) :
    (i.change c sd f g).bays[b] = if b = bayOf c sd then f i.bays[b] else i.bays[b] :=
  modifyAt_get _ _ _ _

end

/-- Every change of one bay is one of its channel. -/
theorem modifyBay_change (c : Fin 12) (sd : Side) (f : Bay → Bay) (e : Ev) :
    (e.modifyBay (bayOf c sd) f).st.ink = e.st.ink.change c sd f id := by
  simp [InkUnit.change, modifyAt_id]

/-- Every change of a channel is one of a bay of it. -/
theorem modifyChannel_change (c : Fin 12) (sd : Side) (g : Channel → Channel) (e : Ev) :
    (e.modifyChannel c g).st.ink = e.st.ink.change c sd id g := by
  simp [InkUnit.change, modifyAt_id]

theorem change_sameSeats (c : Fin 12) (sd : Side) (f : Bay → Bay) (g : Channel → Channel) (i : InkUnit)
    (h : (f i.bays[bayOf c sd]).state = .empty ↔ i.bays[bayOf c sd].state = .empty) :
    i.SameSeats (i.change c sd f g) := by
  intro b
  rw [change_bay_cases]
  split
  · next e => subst e; exact h
  · exact Iff.rfl

/-- Sound but, at channel `c`, for the level of its ACTIVE bay and for a READY bay that waits. -/
structure InkUnit.Loose (i : InkUnit) (c : Fin 12) : Prop where
  bays : ∀ b : Fin 24, i.bays[b].Sound
  others : ∀ c', c' ≠ c → i.ChannelSound c'
  active : ∀ sd, i.channels[c].active = some sd ↔ i.bays[bayOf c sd].state = .active

theorem InkUnit.Sound.loose {i : InkUnit} (h : i.Sound) (c : Fin 12) : i.Loose c :=
  ⟨h.bays, fun c' _ => h.channels c', (h.channels c).active⟩

/-- A change of a channel in which its active side and the states of its bays still agree. -/
theorem InkUnit.Loose.change {i : InkUnit} {c : Fin 12} (h : i.Loose c) {sd : Side} {f : Bay → Bay}
    {g : Channel → Channel} (bay : (f i.bays[bayOf c sd]).Sound)
    (here : (g i.channels[c]).active = some sd ↔ (f i.bays[bayOf c sd]).state = .active)
    (there : (g i.channels[c]).active = some sd.other ↔ i.bays[bayOf c sd.other].state = .active) :
    (i.change c sd f g).Loose c where
  bays b := by
    rw [change_bay_cases]
    split
    · next e => subst e; exact bay
    · exact h.bays b
  others c' ne :=
    (h.others c' ne).congr (change_channel_away c sd f g i ne) (change_bay_away c sd f g i ne)
  active sd' := by
    rw [change_channel]
    obtain rfl | rfl := eq_or_other sd sd'
    · rw [change_bay]; exact here
    · rw [change_bay_other]; exact there

/-- A channel with no active bay and no READY bay is sound. -/
theorem InkUnit.Loose.sound_idle {i : InkUnit} {c : Fin 12} (h : i.Loose c)
    (idle : i.channels[c].active = none) (ready : ∀ sd, i.bays[bayOf c sd].state ≠ .ready) :
    i.Sound where
  bays := h.bays
  channels c' := by
    by_cases e : c' = c
    · subst e
      refine ⟨h.active, fun _ => ready, fun sd act => ?_⟩
      rw [(h.active sd).2 act] at idle
      cases idle
    · exact h.others c' e

/-- A channel whose active bay lies above the dead volume is sound. -/
theorem InkUnit.Loose.sound_active {i : InkUnit} {c : Fin 12} (h : i.Loose c) {sd : Side}
    (act : i.channels[c].active = some sd) (above : i.channels[c].dead < i.bays[bayOf c sd].level) :
    i.Sound where
  bays := h.bays
  channels c' := by
    by_cases e : c' = c
    · subst e
      refine ⟨h.active, fun none => absurd (act.symm.trans none) (by simp), fun sd' act' => ?_⟩
      obtain rfl : sd = sd' := Option.some.inj (act.symm.trans ((h.active sd').2 act'))
      exact above
    · exact h.others c' e

/-! ### Switchover -/

theorem becomeActive_ink (c : Fin 12) (sd : Side) (e : Ev) :
    (becomeActive c sd e).st.ink =
      e.st.ink.change c sd (fun b => { b with state := .active })
        fun ch => { ch with active := some sd, lastActive := some sd } := rfl

theorem becomeSpent_ink (c : Fin 12) (sd : Side) (e : Ev) :
    (becomeSpent c sd e).st.ink =
      e.st.ink.change c sd (fun b => { b with state := .spent }) fun ch => { ch with active := none } :=
  rfl

/-- The bay of an idle channel that becomes ACTIVE agrees with its channel. -/
theorem becomeActive_loose {c : Fin 12} {sd : Side} {e : Ev} (h : e.st.ink.Loose c)
    (idle : e.st.ink.channels[c].active = none)
    (declared : e.st.ink.bays[bayOf c sd].state.declared = true) :
    (becomeActive c sd e).st.ink.Loose c := by
  rw [becomeActive_ink]
  refine h.change ((h.bays _).restate declared.symm) (by simp) ?_
  rw [← h.active, idle]
  simp [(other_ne sd).symm]

/-- The ACTIVE bay that becomes SPENT leaves its channel without an active bay. -/
theorem becomeSpent_loose {c : Fin 12} {sd : Side} {e : Ev} (h : e.st.ink.Loose c)
    (act : e.st.ink.channels[c].active = some sd) : (becomeSpent c sd e).st.ink.Loose c := by
  rw [becomeSpent_ink]
  have state := (h.active sd).1 act
  refine h.change ((h.bays _).restate (by rw [state]; rfl)) (by simp) ?_
  rw [← h.active, act]
  simp [(other_ne sd).symm]

theorem becomeActive_sameSeats {c : Fin 12} {sd : Side} {e : Ev}
    (seated : e.st.ink.bays[bayOf c sd].state ≠ .empty) :
    e.st.ink.SameSeats (becomeActive c sd e).st.ink := by
  rw [becomeActive_ink]
  exact change_sameSeats _ _ _ _ _ (iff_of_false (by simp) seated)

theorem becomeSpent_sameSeats {c : Fin 12} {sd : Side} {e : Ev}
    (seated : e.st.ink.bays[bayOf c sd].state ≠ .empty) :
    e.st.ink.SameSeats (becomeSpent c sd e).st.ink := by
  rw [becomeSpent_ink]
  exact change_sameSeats _ _ _ _ _ (iff_of_false (by simp) seated)

/-- After an ACTIVE bay has become SPENT, its channel is sound if the other bay does not wait READY. -/
theorem becomeSpent_sound {c : Fin 12} {sd : Side} {e : Ev} (h : e.st.ink.Loose c)
    (act : e.st.ink.channels[c].active = some sd)
    (other : e.st.ink.bays[bayOf c sd.other].state ≠ .ready) : (becomeSpent c sd e).st.ink.Sound := by
  refine (becomeSpent_loose h act).sound_idle ?_ fun sd' => ?_
  · rw [becomeSpent_ink, change_channel]
  · rw [becomeSpent_ink]
    obtain rfl | rfl := eq_or_other sd sd'
    · rw [change_bay]; simp
    · rw [change_bay_other]; exact other

/-- A READY bay takes over an idle channel (R31, R44). -/
theorem switchTo_sound {c : Fin 12} {sd : Side} {e : Ev} (h : e.st.ink.Loose c)
    (idle : e.st.ink.channels[c].active = none) (ready : e.st.ink.bays[bayOf c sd].state = .ready)
    (other : e.st.ink.bays[bayOf c sd.other].state ≠ .ready) :
    (switchTo c sd e).st.ink.Sound ∧ e.st.ink.SameSeats (switchTo c sd e).st.ink := by
  have loose := becomeActive_loose h idle (by rw [ready]; rfl)
  have act : (becomeActive c sd e).st.ink.channels[c].active = some sd := by
    rw [becomeActive_ink, change_channel]
  have state := (loose.active sd).1 act
  have seats : e.st.ink.SameSeats (becomeActive c sd e).st.ink :=
    becomeActive_sameSeats (by rw [ready]; decide)
  unfold switchTo
  dsimp only
  split
  · refine ⟨becomeSpent_sound loose act ?_, seats.trans (becomeSpent_sameSeats ?_)⟩
    · rw [raise_st, becomeActive_ink, change_bay_other]; exact other
    · rw [state]; decide
  · next low =>
    refine ⟨loose.sound_active act ?_, seats⟩
    rw [becomeActive_ink, change_channel, change_bay]
    exact Nat.lt_of_not_le low

/-- The other bay takes over an idle channel where it is READY (R31, R44). -/
theorem switchIfReady_sound {c : Fin 12} {sd : Side} {e : Ev} (h : e.st.ink.Loose c)
    (idle : e.st.ink.channels[c].active = none)
    (other : e.st.ink.bays[bayOf c sd.other].state ≠ .ready) :
    (switchIfReady c sd e).st.ink.Sound ∧ e.st.ink.SameSeats (switchIfReady c sd e).st.ink := by
  unfold switchIfReady
  split
  · next ready => exact switchTo_sound h idle ready other
  · next busy =>
    refine ⟨h.sound_idle idle fun sd' => ?_, .refl _⟩
    obtain rfl | rfl := eq_or_other sd sd'
    · exact busy
    · exact other

/-- Giving up an ACTIVE bay at or below the dead volume mends its channel (R31). -/
theorem giveUp_sound {c : Fin 12} {e : Ev} (h : e.st.ink.Loose c)
    (ready : e.st.ink.channels[c].active = none → ∀ sd, e.st.ink.bays[bayOf c sd].state ≠ .ready) :
    (giveUp c e).st.ink.Sound ∧ e.st.ink.SameSeats (giveUp c e).st.ink := by
  unfold giveUp
  split
  · next idle => exact ⟨h.sound_idle idle (ready idle), .refl _⟩
  · next sd act =>
    split
    · have seats : e.st.ink.SameSeats (becomeSpent c sd e).st.ink :=
        becomeSpent_sameSeats (by rw [(h.active sd).1 act]; decide)
      have next := switchIfReady_sound (sd := sd.other) (becomeSpent_loose h act)
        (by rw [becomeSpent_ink, change_channel])
        (by simp only [becomeSpent_ink, other_other]; rw [change_bay]; simp)
      exact ⟨next.1, seats.trans next.2⟩
    · next low => exact ⟨h.sound_active act (Nat.lt_of_not_le low), .refl _⟩

/-! ### Figures and settings -/

/-- `j` is `i` with the figures of a bay of channel `c`, or the settings of the channel, changed. -/
structure InkUnit.Retouched (i j : InkUnit) (c : Fin 12) : Prop where
  loose : j.Loose c
  ready : j.channels[c].active = none → ∀ sd, j.bays[bayOf c sd].state ≠ .ready
  seats : i.SameSeats j

theorem InkUnit.Sound.retouch {i : InkUnit} (h : i.Sound) {c : Fin 12} {sd : Side} {f : Bay → Bay}
    {g : Channel → Channel} (bay : (f i.bays[bayOf c sd]).Sound)
    (state : (f i.bays[bayOf c sd]).state = i.bays[bayOf c sd].state)
    (active : (g i.channels[c]).active = i.channels[c].active) :
    i.Retouched (i.change c sd f g) c where
  loose := (h.loose c).change bay (by rw [active, state]; exact (h.channels c).active sd)
    (by rw [active]; exact (h.channels c).active sd.other)
  ready none sd' := by
    rw [change_channel, active] at none
    obtain rfl | rfl := eq_or_other sd sd'
    · rw [change_bay, state]; exact (h.channels c).ready none _
    · rw [change_bay_other]; exact (h.channels c).ready none _
  seats := change_sameSeats _ _ _ _ _ (by rw [state])

/-- A retouched unit is sound where the active bay still lies above the dead volume. -/
theorem InkUnit.Retouched.sound {i j : InkUnit} {c : Fin 12} (h : i.Retouched j c)
    (above : ∀ sd, j.bays[bayOf c sd].state = .active → j.channels[c].dead < j.bays[bayOf c sd].level) :
    j.Sound where
  bays := h.loose.bays
  channels c' := by
    by_cases e : c' = c
    · subst e; exact ⟨h.loose.active, h.ready, above⟩
    · exact h.loose.others c' e

/-- Giving up the active bay where it must be given up mends a retouched unit. -/
theorem InkUnit.Retouched.giveUp {i : InkUnit} {e : Ev} {c : Fin 12} (h : i.Retouched e.st.ink c) :
    (giveUp c e).st.ink.Sound ∧ i.SameSeats (giveUp c e).st.ink :=
  ⟨(giveUp_sound h.loose h.ready).1, h.seats.trans (giveUp_sound h.loose h.ready).2⟩

/-- A bay that keeps its state, and its level while it is ACTIVE, keeps the unit sound. -/
theorem InkUnit.Sound.retouchBay {i : InkUnit} (h : i.Sound) {c : Fin 12} {sd : Side} {f : Bay → Bay}
    (bay : (f i.bays[bayOf c sd]).Sound)
    (state : (f i.bays[bayOf c sd]).state = i.bays[bayOf c sd].state)
    (level : i.bays[bayOf c sd].state = .active →
      (f i.bays[bayOf c sd]).level = i.bays[bayOf c sd].level) :
    (i.change c sd f id).Sound ∧ i.SameSeats (i.change c sd f id) := by
  have touched : i.Retouched (i.change c sd f id) c := h.retouch bay state rfl
  refine ⟨touched.sound fun sd' act => ?_, touched.seats⟩
  rw [change_channel]
  obtain rfl | rfl := eq_or_other sd sd'
  · rw [change_bay] at act ⊢
    rw [state] at act
    rw [level act]
    exact (h.channels c).above _ act
  · rw [change_bay_other] at act ⊢
    exact (h.channels c).above _ act

end Sys2Proof.Machine
end

section
/-! SUPPORT. Which operations leave the bays as they are: the cartridge-present inputs, what each bay
holds, and each channel's active side and dead volume. -/

namespace Sys2Proof.Machine

/-! ### What the soundness of the bays follows from -/

/-- A bay without its calibration. -/
def Bay.holding (b : Bay) : Bay := { b with cal := Calibration.atPower }

/-- A channel's active side and dead volume. -/
def Channel.source (ch : Channel) : Option Side × Nat := (ch.active, ch.dead)

/-- RESET and the cartridge-present inputs, what the bays hold, and the source of each channel. -/
def State.bayView (s : State) :
    Bool × Vector Bool 24 × Vector Bay 24 × Vector (Option Side × Nat) 12 :=
  (s.pins.reset, s.pins.present, mapTable Bay.holding s.ink.bays, mapTable Channel.source s.ink.channels)

/-- Out of RESET the EMPTY bays are those whose input is deasserted (R28). -/
def Seated (s : State) : Prop :=
  s.pins.reset = false → ∀ b : Fin 24, s.ink.bays[b].state = .empty ↔ s.pins.present[b] = false

/-- From `s` to `t` the bays stay sound, and go on following their inputs. -/
structure KeepsBays (s t : State) : Prop where
  sound : BaysSound s → BaysSound t
  seated : BaysSound s → Seated s → Seated t

theorem KeepsBays.refl (s : State) : KeepsBays s s := ⟨id, fun _ => id⟩

theorem KeepsBays.trans {s t u : State} (h : KeepsBays s t) (h' : KeepsBays t u) : KeepsBays s u :=
  ⟨fun x => h'.sound (h.sound x), fun x y => h'.seated (h.sound x) (h.seated x y)⟩

theorem KeepsBays.follow {s t : State} (h : KeepsBays s t) (f : BaysFollow s) : BaysFollow t :=
  ⟨h.sound f.sound, h.seated f.sound f.follow⟩

/-- A change of the Ink unit that keeps it sound and empties or fills no bay. -/
theorem KeepsBays.of_ink {s t : State} (pins : t.pins = s.pins)
    (ink : s.ink.Sound → t.ink.Sound ∧ s.ink.SameSeats t.ink) : KeepsBays s t where
  sound h := (baysSound_iff t).2 (ink ((baysSound_iff s).1 h)).1
  seated h seated out b := by
    rw [pins] at out ⊢
    exact ((ink ((baysSound_iff s).1 h)).2 b).trans (seated out b)

@[simp] theorem holding_state (b : Bay) : b.holding.state = b.state := rfl

@[simp] theorem holding_level (b : Bay) : b.holding.level = b.level := rfl

theorem holding_sound_iff (b : Bay) : b.holding.Sound ↔ b.Sound :=
  ⟨fun h => ⟨h.balance, h.removed, h.present, h.certain⟩,
    fun h => ⟨h.balance, h.removed, h.present, h.certain⟩⟩

/-- The soundness of the bays and their following the inputs are of the view alone. -/
theorem KeepsBays.of_view {s t : State} (view : t.bayView = s.bayView) : KeepsBays s t := by
  obtain ⟨reset, rest⟩ := Prod.ext_iff.1 view
  obtain ⟨present, rest⟩ := Prod.ext_iff.1 rest
  obtain ⟨bays, channels⟩ := Prod.ext_iff.1 rest
  have bay (b : Fin 24) : t.ink.bays[b].holding = s.ink.bays[b].holding := by
    simpa only [State.bayView, mapTable_get] using congrArg (·[b]) bays
  have channel (c : Fin 12) : t.ink.channels[c].source = s.ink.channels[c].source := by
    simpa only [State.bayView, mapTable_get] using congrArg (·[c]) channels
  have state (b : Fin 24) : t.ink.bays[b].state = s.ink.bays[b].state := by
    rw [← holding_state, bay, holding_state]
  have level (b : Fin 24) : t.ink.bays[b].level = s.ink.bays[b].level := by
    rw [← holding_level, bay, holding_level]
  have active (c : Fin 12) : t.ink.channels[c].active = s.ink.channels[c].active :=
    congrArg Prod.fst (channel c)
  have dead (c : Fin 12) : t.ink.channels[c].dead = s.ink.channels[c].dead :=
    congrArg Prod.snd (channel c)
  constructor
  · intro h
    obtain ⟨sound, agree⟩ := (baysSound_iff s).1 h
    refine (baysSound_iff t).2 ⟨fun b => ?_, fun c => ?_⟩
    · rw [← holding_sound_iff, bay, holding_sound_iff]; exact sound b
    · obtain ⟨act, ready, above⟩ := agree c
      refine ⟨fun sd => ?_, fun none sd => ?_, fun sd => ?_⟩
      · rw [active, state]; exact act sd
      · rw [state]; exact ready (active c ▸ none) sd
      · rw [state, level, dead]; exact above sd
  · intro _ seated out b
    rw [state, show t.pins.present = s.pins.present from present]
    exact seated ((show t.pins.reset = s.pins.reset from reset) ▸ out) b

/-! ### The updates of the records -/

section
variable (e : Ev)

@[simp] theorem mapStore_view (f : JobStore → JobStore) : (e.mapStore f).st.bayView = e.st.bayView := rfl
@[simp] theorem mapMeter_view (f : Metering → Metering) : (e.mapMeter f).st.bayView = e.st.bayView := rfl
@[simp] theorem mapScan_view (f : ScanUnit → ScanUnit) : (e.mapScan f).st.bayView = e.st.bayView := rfl
@[simp] theorem mapSched_view (f : Schedule → Schedule) : (e.mapSched f).st.bayView = e.st.bayView := rfl
@[simp] theorem mapMedia_view (f : Media → Media) : (e.mapMedia f).st.bayView = e.st.bayView := rfl
@[simp] theorem mapColour_view (f : ColourUnit → ColourUnit) :
    (e.mapColour f).st.bayView = e.st.bayView := rfl
@[simp] theorem mapCost_view (f : CostUnit → CostUnit) : (e.mapCost f).st.bayView = e.st.bayView := rfl
@[simp] theorem mapPorts_view (f : Ports → Ports) : (e.mapPorts f).st.bayView = e.st.bayView := rfl
@[simp] theorem mapClock_view (f : TimeBase → TimeBase) : (e.mapClock f).st.bayView = e.st.bayView := rfl
@[simp] theorem modifyJob_view (h : Nat) (f : Job → Job) : (e.modifyJob h f).st.bayView = e.st.bayView := rfl
@[simp] theorem modifyCopy_view (r : CopyRef) (f : CopyRecord → CopyRecord) :
    (e.modifyCopy r f).st.bayView = e.st.bayView := rfl
@[simp] theorem modifyAttempt_view (r : CopyRef) (f : Attempt → Attempt) :
    (e.modifyAttempt r f).st.bayView = e.st.bayView := rfl
@[simp] theorem modifyAccount_view (a : Fin 32) (f : Account → Account) :
    (e.modifyAccount a f).st.bayView = e.st.bayView := rfl
@[simp] theorem modifyPort_view (p : Port) (f : PortUnit → PortUnit) :
    (e.modifyPort p f).st.bayView = e.st.bayView := rfl
@[simp] theorem setRoll_view (n : Fin 2) (r : Roll) : (e.setRoll n r).st.bayView = e.st.bayView := rfl
@[simp] theorem finish_view : e.finish.bayView = e.st.bayView := rfl

/-- A channel's other figures are not of the view. -/
theorem modifyChannel_view (c : Fin 12) (g : Channel → Channel) (h : ∀ ch, (g ch).source = ch.source) :
    (e.modifyChannel c g).st.bayView = e.st.bayView := by
  simp only [State.bayView, modifyChannel_ink, modifyChannel_pins, mapTable_modifyAt _ _ _ _ (h _)]

/-- A bay's calibration is not of the view. -/
theorem modifyBay_view (b : Fin 24) (f : Bay → Bay) (h : ∀ x, (f x).holding = x.holding) :
    (e.modifyBay b f).st.bayView = e.st.bayView := by
  simp only [State.bayView, modifyBay_ink, modifyBay_pins, mapTable_modifyAt _ _ _ _ (h _)]

@[simp] theorem mapReserved_view (f : Fin 12 → Nat → Nat) :
    (e.mapInk (InkUnit.mapReserved f)).st.bayView = e.st.bayView := by
  have : mapTable Channel.source (e.st.ink.mapReserved f).channels =
      mapTable Channel.source e.st.ink.channels :=
    mapTable_congr fun c => by simp [InkUnit.mapReserved, Channel.source]
  simp only [State.bayView, mapInk_ink, mapInk_pins, this]
  rfl

end

/-- A walk leaves the view where each of its steps does. -/
theorem foldl_view {β : Type} (f : Ev → β → Ev) (l : List β) (e : Ev)
    (step : ∀ e b, (f e b).st.bayView = e.st.bayView) : (l.foldl f e).st.bayView = e.st.bayView :=
  foldl_keeps (fun e' => e'.st.bayView = e.st.bayView) f l e (fun a b h => (step a b).trans h) rfl

/-! ### Accounts, jobs and reservations -/

section
variable (e : Ev)

@[simp] theorem bookAttempt_view (r : CopyRef) (cls : AttemptClass) :
    (bookAttempt r cls e).st.bayView = e.st.bayView := by
  unfold bookAttempt
  split <;> simp

@[simp] theorem strayCharge_view (v : Vector Nat 12) : (strayCharge v e).st.bayView = e.st.bayView := by
  simp [strayCharge]

@[simp] theorem maintenanceCharge_view (v : Vector Nat 12) :
    (maintenanceCharge v e).st.bayView = e.st.bayView := by
  simp [maintenanceCharge]

@[simp] theorem takeReservation_view (h : Nat) (j : Job) :
    (takeReservation h j e).st.bayView = e.st.bayView := by
  simp [takeReservation]

@[simp] theorem releaseReservation_view (h : Nat) :
    (releaseReservation h e).st.bayView = e.st.bayView := by
  unfold releaseReservation
  split <;> simp

@[simp] theorem drawdown_view (h : Nat) (v : Vector Nat 12) :
    (drawdown h v e).st.bayView = e.st.bayView := by
  unfold drawdown
  split <;> simp

@[simp] theorem joinWaitList_view (h : Fin 32) : (joinWaitList h e).st.bayView = e.st.bayView := by
  simp [joinWaitList]

@[simp] theorem leaveWaitList_view (h : Nat) : (leaveWaitList h e).st.bayView = e.st.bayView := by
  simp [leaveWaitList]

@[simp] theorem closeJob_view (h : Nat) : (closeJob h e).st.bayView = e.st.bayView := by
  unfold closeJob
  split <;> simp

@[simp] theorem closeJobIfDone_view (h : Nat) : (closeJobIfDone h e).st.bayView = e.st.bayView := by
  unfold closeJobIfDone
  split
  · rfl
  · split <;> simp

@[simp] theorem rejoin_view (h : Nat) : (rejoin h e).st.bayView = e.st.bayView := by
  unfold rejoin
  split
  · split
    · rfl
    · split_ifs <;> simp
  · rfl

@[simp] theorem closeAttempt_view (r : CopyRef) (j : Job) (c : CopyRecord) :
    (closeAttempt r j c e).st.bayView = e.st.bayView := by
  unfold closeAttempt
  dsimp only
  split <;> simp

@[simp] theorem closeIfReady_view (r : CopyRef) : (closeIfReady r e).st.bayView = e.st.bayView := by
  unfold closeIfReady
  split
  · rfl
  · split <;> simp

/-! ### The end of an event -/

@[simp] theorem settleCloses_view : (settleCloses e).st.bayView = e.st.bayView :=
  foldl_view _ _ _ fun e r => closeIfReady_view e r

@[simp] theorem evalDry_view (c : Fin 12) : (evalDry c e).st.bayView = e.st.bayView := by
  unfold evalDry
  dsimp only
  split_ifs
  · rfl
  · exact modifyChannel_view _ _ _ fun _ => rfl
  · exact modifyChannel_view _ _ _ fun _ => rfl

@[simp] theorem evalLow_view (c : Fin 12) : (evalLow c e).st.bayView = e.st.bayView := by
  unfold evalLow
  dsimp only
  split_ifs
  · rfl
  · exact modifyChannel_view _ _ _ fun _ => rfl
  · exact modifyChannel_view _ _ _ fun _ => rfl

@[simp] theorem evalFlags_view : (evalFlags e).st.bayView = e.st.bayView :=
  foldl_view _ _ _ fun e c => by simp

@[simp] theorem trimJob_view (h : Fin 32) : (trimJob h e).st.bayView = e.st.bayView := by
  unfold trimJob
  dsimp only
  split
  · simp
  · split <;> simp

@[simp] theorem trim_view (n : Nat) (any : Bool) : (trim n any e).2.st.bayView = e.st.bayView := by
  induction n generalizing any e with
  | zero => rfl
  | succ n ih =>
    unfold trim
    split
    · rfl
    · simp [ih]

@[simp] theorem markShort_view (c : Fin 12) : (markShort c e).st.bayView = e.st.bayView := by
  unfold markShort
  split
  · exact modifyChannel_view _ _ _ fun _ => rfl
  · rfl

@[simp] theorem clearShort_view (c : Fin 12) : (clearShort c e).st.bayView = e.st.bayView := by
  unfold clearShort
  split
  · exact modifyChannel_view _ _ _ fun _ => rfl
  · rfl

@[simp] theorem walkOne_view (h : Fin 32) : (walkOne h e).st.bayView = e.st.bayView := by
  unfold walkOne
  split
  · rfl
  · split <;> simp

@[simp] theorem walk_view : (walk e).st.bayView = e.st.bayView :=
  foldl_view _ _ _ fun e h => walkOne_view e h

@[simp] theorem settleInk_view : (settleInk e).st.bayView = e.st.bayView := by
  have short (e : Ev) :
      ((List.finRange 12).foldl (fun e c => clearShort c (markShort c e)) e).st.bayView =
        e.st.bayView :=
    foldl_view _ _ _ fun e c => by simp
  unfold settleInk
  dsimp only
  split <;> simp [short]

@[simp] theorem evalOverrun_view (i : Fin 32) : (evalOverrun i e).st.bayView = e.st.bayView := by
  unfold evalOverrun
  dsimp only
  split_ifs <;> simp

@[simp] theorem settleAccounts_view : (settleAccounts e).st.bayView = e.st.bayView :=
  foldl_view _ _ _ fun e i => evalOverrun_view e i

@[simp] theorem syncHold_view : (syncHold e).st.bayView = e.st.bayView := rfl

@[simp] theorem endPause_view : (endPause e).st.bayView = e.st.bayView := by
  unfold endPause
  split <;> simp

@[simp] theorem syncPause_view : (syncPause e).st.bayView = e.st.bayView := by
  unfold syncPause
  split_ifs <;> simp [beginPause]

@[simp] theorem settle_view : (settle e).st.bayView = e.st.bayView := by
  simp [settle]

@[simp] theorem close_view : e.close.st.bayView = e.st.bayView := by
  unfold Ev.close
  split <;> simp

/-! ### Measurements -/

@[simp] theorem dropMeasureMark_view (r : CopyRef) : (dropMeasureMark r e).st.bayView = e.st.bayView :=
  rfl

@[simp] theorem reportResult_view (r : CopyRef) (res : MeasureResult) (f : Figures) :
    (reportResult r res f e).st.bayView = e.st.bayView := by
  simp [reportResult]

@[simp] theorem endDropped_view (r : CopyRef) : (endDropped r e).st.bayView = e.st.bayView := by
  simp [endDropped]

@[simp] theorem endExchange_view (m : Measurement) (res : MeasureResult) (f : Figures) :
    (endExchange m res f e).st.bayView = e.st.bayView := by
  unfold endExchange
  split <;> simp

@[simp] theorem judgeExchange_view (m : Measurement) (records : List PatchRecord) :
    (judgeExchange m records e).st.bayView = e.st.bayView := by
  unfold judgeExchange
  split
  · simp
  · split
    · simp
    · split
      · simp
      · dsimp only
        split <;> simp

@[simp] theorem beginExchange_view (m : Measurement) : (beginExchange m e).st.bayView = e.st.bayView :=
  rfl

@[simp] theorem beginMeasure_view (r : CopyRef) (mark captured : Pos) :
    (beginMeasure r mark captured e).st.bayView = e.st.bayView := by
  unfold beginMeasure
  dsimp only
  split
  · simp
  · split
    · split <;> simp
    · split_ifs <;> simp [waitForDry]

@[simp] theorem judgeGrant_view : (judgeGrant e).st.bayView = e.st.bayView := by
  unfold judgeGrant
  split
  · rfl
  · split
    · split <;> simp
    · rfl

@[simp] theorem dropNotBegun_view (r : CopyRef) : (dropNotBegun r e).st.bayView = e.st.bayView := by
  simp [dropNotBegun]

@[simp] theorem dropMeasure_view (r : CopyRef) : (dropMeasure r e).st.bayView = e.st.bayView := by
  unfold dropMeasure
  split
  · rfl
  · split
    · rfl
    · split
      · simp
      · split
        · simp
        · split <;> simp

/-! ### Marks and the feed -/

@[simp] theorem resolveCut_view (o : CutOutcome) (m : Mark) :
    (resolveCut o m e).st.bayView = e.st.bayView := by
  simp only [resolveCut, mayClose_st, mapMedia_view]
  exact foldl_view _ _ _ fun e r => by simp

@[simp] theorem beginService_view (m : Mark) (q : Pos) :
    (beginService m q e).st.bayView = e.st.bayView := by
  unfold beginService
  split
  · split <;> simp [startCut]
  · split <;> simp

@[simp] theorem fireHead_view : (fireHead e).st.bayView = e.st.bayView := rfl

@[simp] theorem runHeadFrom_view (n : Nat) : (runHeadFrom n e).st.bayView = e.st.bayView := by
  induction n generalizing e with
  | zero => rfl
  | succ n ih =>
    unfold runHeadFrom
    split
    · rfl
    · split_ifs <;> simp [ih]

@[simp] theorem runHead_view : (runHead e).st.bayView = e.st.bayView := runHeadFrom_view e _

@[simp] theorem settleMarks_view : (settleMarks e).st.bayView = e.st.bayView := by
  simp [settleMarks]

@[simp] theorem serveWaiting_view (q : Pos) : (serveWaiting q e).st.bayView = e.st.bayView := by
  unfold serveWaiting
  split
  · rfl
  · split <;> simp

@[simp] theorem countStep_view (d : Direction) : (countStep d e).st.bayView = e.st.bayView := by
  unfold countStep
  cases d with
  | forward =>
    dsimp only
    split
    · simp
    · split_ifs <;> simp
  | reverse =>
    dsimp only
    split <;> simp

@[simp] theorem resolveHead_view (o : CutOutcome) : (resolveHead o e).st.bayView = e.st.bayView := by
  unfold resolveHead
  split
  · rfl
  · split <;> simp

/-! ### The end of printing -/

@[simp] theorem triggerScan_view (k : TriggerKind) : (triggerScan k e).st.bayView = e.st.bayView := by
  rw [triggerScan_st]
  rfl

@[simp] theorem endMarks_view (r : CopyRef) : (endMarks r e).st.bayView = e.st.bayView := by
  have withdraw (e : Ev) : (withdrawMeasure r e).st.bayView = e.st.bayView := by
    unfold withdrawMeasure
    split <;> simp
  have move (j : Job) (e : Ev) : (moveTrailingCut r j e).st.bayView = e.st.bayView := by
    unfold moveTrailingCut
    split
    · rfl
    · split
      · rfl
      · dsimp only
        split <;> simp
  unfold endMarks
  split
  · rfl
  · rw [move, withdraw]

@[simp] theorem endPrinting_view (cause : EndCause) : (endPrinting cause e).st.bayView = e.st.bayView := by
  unfold endPrinting
  split
  · rfl
  · dsimp only
    split <;> simp [startDryClock]

@[simp] theorem holdFallback_view : (holdFallback e).st.bayView = e.st.bayView := by
  unfold holdFallback
  split <;> simp

@[simp] theorem respond_view (p : Port) (h : Header) (x : Ev × Reply) :
    (respond p h x).st.bayView = x.1.st.bayView := rfl

/-! ### The head line -/

@[simp] theorem examineMessage_view (g : List Byte) : (examineMessage g e).st.bayView = e.st.bayView := by
  unfold examineMessage
  split
  · rfl
  · split
    · rfl
    · split_ifs <;> simp

@[simp] theorem headByte_view (b : Byte) : (headByte b e).st.bayView = e.st.bayView := by
  unfold headByte
  dsimp only
  split <;> simp

@[simp] theorem headBytes_view (bytes : List Byte) : (headBytes bytes e).st.bayView = e.st.bayView :=
  foldl_view _ _ _ fun e b => headByte_view e b

end

end Sys2Proof.Machine
end

section
/-! SUPPORT. What moves the bays: draws, level checks, seatings, removals and declarations (R28, R29, R31,
R44, R45, R56, R76). -/

namespace Sys2Proof.Machine

theorem KeepsBays.then_view {s t u : State} (h : KeepsBays s t) (view : u.bayView = t.bayView) :
    KeepsBays s u :=
  h.trans (.of_view view)

/-- A walk keeps the bays where each of its steps does. -/
theorem keepsBays_foldl {α β : Type} (st : α → State) (f : α → β → α) (l : List β) (a : α)
    (step : ∀ a b, KeepsBays (st a) (st (f a b))) : KeepsBays (st a) (st (l.foldl f a)) :=
  foldl_keeps (fun x => KeepsBays (st a) (st x)) f l a (fun x b h => h.trans (step x b)) (.refl _)

/-! ### Figures of a cartridge -/

theorem draw_sound (n : Nat) {k : Cartridge} (h : k.sound) : (k.draw n).sound :=
  ⟨(draw_balance n k).trans h.1, h.2⟩

theorem writeDown_sound {m : Nat} {k : Cartridge} (le : m ≤ k.level) (h : k.sound) :
    (k.writeDown m).sound :=
  ⟨(writeDown_balance m k le).trans h.1, h.2⟩

/-! ### Switchover and draws -/

@[simp] theorem switchTo_pins (c : Fin 12) (sd : Side) (e : Ev) :
    (switchTo c sd e).st.pins = e.st.pins := by
  unfold switchTo
  dsimp only
  split <;> rfl

@[simp] theorem switchIfReady_pins (c : Fin 12) (sd : Side) (e : Ev) :
    (switchIfReady c sd e).st.pins = e.st.pins := by
  unfold switchIfReady
  split <;> simp

@[simp] theorem giveUp_pins (c : Fin 12) (e : Ev) : (giveUp c e).st.pins = e.st.pins := by
  unfold giveUp
  split
  · rfl
  · split
    · rw [switchIfReady_pins]; rfl
    · rfl

/-- Figures or settings of a channel change, and its active bay is given up where it must be. -/
theorem giveUp_keepsBays {c : Fin 12} {e e' : Ev} (pins : e'.st.pins = e.st.pins)
    (touched : e.st.ink.Sound → e.st.ink.Retouched e'.st.ink c) : KeepsBays e.st (giveUp c e').st :=
  .of_ink (by simp [pins]) fun h => (touched h).giveUp

/-- A draw from a bay touches the figures of its cartridge alone. -/
theorem drawFrom_retouched {c : Fin 12} {sd : Side} {n : Nat} {e : Ev} (h : e.st.ink.Sound) :
    e.st.ink.Retouched (drawFrom (bayOf c sd) n e).st.ink c := by
  unfold drawFrom
  rw [modifyBay_change]
  exact h.retouch ((h.bays _).mapCart fun k _ => draw_sound n) rfl rfl

theorem drawActive_keepsBays (c : Fin 12) (n v : Nat) (e : Ev) :
    KeepsBays e.st (drawActive c n v e).2.st := by
  induction n generalizing v e with
  | zero => exact .refl _
  | succ n ih =>
    unfold drawActive
    split
    · exact .refl _
    · dsimp only
      refine .trans ?_ (ih _ _)
      exact giveUp_keepsBays rfl drawFrom_retouched

theorem drawSpent_keepsBays (c : Fin 12) (sd : Side) (v : Nat) (e : Ev) :
    KeepsBays e.st (drawSpent c sd v e).2.st := by
  unfold drawSpent
  dsimp only
  split
  · next spent =>
    refine .of_ink rfl fun h => ?_
    unfold drawFrom
    rw [modifyBay_change]
    refine h.retouchBay ((h.bays _).mapCart fun k _ => draw_sound _) rfl fun act => ?_
    rw [spent] at act
    cases act
  · exact .refl _

theorem drawChannel_keepsBays (c : Fin 12) (v : Nat) (e : Ev) :
    KeepsBays e.st (drawChannel c v e).st := by
  unfold drawChannel
  split
  · exact .refl _
  · have spent (sd sd' : Side) (x : Nat × Ev) :
        KeepsBays x.2.st
          (drawSpent c sd' (drawSpent c sd x.1 x.2).1 (drawSpent c sd x.1 x.2).2).2.st :=
      (drawSpent_keepsBays c sd _ _).trans (drawSpent_keepsBays c sd' _ _)
    have drawn := (drawActive_keepsBays c 2 v e).trans
      (spent (spentFirst c (drawActive c 2 v e).2.st) (spentFirst c (drawActive c 2 v e).2.st).other
        (drawActive c 2 v e))
    dsimp only
    split
    · exact drawn
    · exact drawn.then_view (modifyChannel_view _ _ _ fun _ => by simp only [Channel.source])

theorem drawReport_keepsBays (counts : Fin 12 → Nat × Nat × Nat) (e : Ev) :
    KeepsBays e.st (drawReport counts e).st :=
  .trans (.of_view (mapMeter_view e _))
    (keepsBays_foldl Ev.st _ _ _ fun e c => drawChannel_keepsBays c _ e)

/-! ### Level checks -/

/-- A bay that is compared holds the cartridge it is compared by (R75). -/
theorem compares_cart {s : State} {r : RunningScan} {b : Fin 24} {k : Cartridge}
    (h : s.compares r b = some k) : s.ink.bays[b].cart = some k := by
  unfold State.compares at h
  dsimp only at h
  split at h
  · cases h
  · next k' e =>
    split at h
    · rw [← h]; exact e
    · cases h

/-- A write-off lowers the level (R76). -/
theorem levelCheck_writeOff {level m tolerance : Nat} {uncertain : Bool}
    (h : levelCheck level m tolerance uncertain = .writeOff) : m < level := by
  unfold levelCheck at h
  split at h
  · next below => exact below.1
  · split at h <;> cases h

/-- A comparison makes a bay's level certain. -/
theorem certain_keepsBays (b : Fin 24) (e : Ev) :
    KeepsBays e.st (e.modifyBay b fun y => { y with uncertain := false }).st := by
  obtain ⟨c, sd, rfl⟩ := exists_bayOf b
  refine .of_ink rfl fun h => ?_
  rw [modifyBay_change]
  exact h.retouchBay ((h.bays _).setUncertain fun _ => rfl) rfl fun _ => rfl

/-- A write-off lowers the level of a bay's cartridge, and an ACTIVE bay is given up where it must be
(R76). -/
theorem writeOff_keepsBays (b : Fin 24) (m d : Nat) (e : Ev)
    (below : ∀ k, e.st.ink.bays[b].cart = some k → m ≤ k.level) :
    let e' := (e.modifyBay b fun y => { y with cart := y.cart.map (Cartridge.writeDown m) }).raise
      .writeOff (.bay b.val) d
    KeepsBays e.st (if e.st.ink.bays[b].state = .active then giveUp (channelOf b) e' else e').st := by
  obtain ⟨c, sd, rfl⟩ := exists_bayOf b
  have cart (h : e.st.ink.Sound) :=
    (h.bays (bayOf c sd)).mapCart fun k e => writeDown_sound (below k e)
  dsimp only
  rw [channelOf_bayOf]
  split
  · refine giveUp_keepsBays rfl fun h => ?_
    rw [raise_st, modifyBay_change]
    exact h.retouch (cart h) rfl rfl
  · next idle =>
    refine .of_ink rfl fun h => ?_
    rw [raise_st, modifyBay_change]
    exact h.retouchBay (cart h) rfl fun act => absurd act idle

theorem checkBay_keepsBays (r : RunningScan) (b : Fin 24) (x : CheckCounts × Ev) :
    KeepsBays x.2.st (checkBay r b x).2.st := by
  unfold checkBay
  -- For any measure of the volume, stated as such (`id`): the kernel must not evaluate R74's formula.
  generalize measuredVolume = volume
  revert volume
  refine id fun volume => ?_
  dsimp only
  split
  · exact .refl _
  · next k compared =>
    have certain := certain_keepsBays b x.2
    have bay : (x.2.modifyBay b fun y => { y with uncertain := false }).st.ink.bays[b] =
        { x.2.st.ink.bays[b] with uncertain := false } := modifyAt_self _ _ _
    split
    · exact certain
    · exact certain
    · next off =>
      generalize volume _ _ _ _ = m at off ⊢
      have written := writeOff_keepsBays b m (k.level - m)
        (x.2.modifyBay b fun y => { y with uncertain := false }) fun k' held => by
          rw [bay] at held
          obtain rfl : k = k' := Option.some.inj ((compares_cart compared).symm.trans held)
          exact (levelCheck_writeOff off).le
      rw [bay] at written
      exact certain.trans written

theorem completeScan_keepsBays (e : Ev) : KeepsBays e.st (completeScan e).st := by
  unfold completeScan
  split
  · exact .refl _
  · next r _ =>
    have checks : KeepsBays e.st (levelChecks r e).2.st := by
      unfold levelChecks
      split
      · exact keepsBays_foldl (fun x : CheckCounts × Ev => x.2.st) _ _ (_, e) fun x b =>
          checkBay_keepsBays r b x
      · exact .refl _
    split
    · exact .refl _
    · exact checks.then_view (by simp)

/-! ### Channel settings, seating, declaring, removing -/

/-- The settings of a channel replaced; a dead volume raised gives up the ACTIVE bay below it (R31,
R47). -/
theorem setChannel_keepsBays (c : Fin 12) (x : ChannelSettings) (e : Ev) :
    KeepsBays e.st (setChannel c x e).st := by
  have touched (h : e.st.ink.Sound) :
      e.st.ink.Retouched (e.modifyChannel c (Channel.set x)).st.ink c := by
    rw [modifyChannel_change c .a]
    exact h.retouch (h.bays _) rfl rfl
  unfold setChannel
  dsimp only
  split
  · exact giveUp_keepsBays rfl touched
  · next notRaised =>
    refine .of_ink rfl fun h => ⟨(touched h).sound fun sd act => ?_, (touched h).seats⟩
    have dead : (e.modifyChannel c (Channel.set x)).st.ink.channels[c] =
        e.st.ink.channels[c].set x := modifyAt_self _ _ _
    rw [dead]
    exact Nat.lt_of_le_of_lt (Nat.le_of_not_lt notRaised) ((h.channels c).above sd act)

/-- A change of a bay that is not ACTIVE, and does not become it, nor READY on an idle channel. -/
theorem InkUnit.Sound.changeIdle {i : InkUnit} (h : i.Sound) {c : Fin 12} {sd : Side} {f : Bay → Bay}
    {g : Channel → Channel} (sound : (f i.bays[bayOf c sd]).Sound)
    (before : i.bays[bayOf c sd].state ≠ .active) (after : (f i.bays[bayOf c sd]).state ≠ .active)
    (ready : i.channels[c].active = none → (f i.bays[bayOf c sd]).state ≠ .ready)
    (active : (g i.channels[c]).active = i.channels[c].active)
    (dead : (g i.channels[c]).dead = i.channels[c].dead) : (i.change c sd f g).Sound := by
  have agree := h.channels c
  have loose : (i.change c sd f g).Loose c :=
    (h.loose c).change sound (iff_of_false (by rw [active, agree.active]; exact before) after)
      (by rw [active]; exact agree.active sd.other)
  have same : (i.change c sd f g).channels[c].active = i.channels[c].active := by
    rw [change_channel]; exact active
  cases source : i.channels[c].active with
  | none =>
    refine loose.sound_idle (same.trans source) fun sd' => ?_
    obtain rfl | rfl := eq_or_other sd sd'
    · rw [change_bay]; exact ready source
    · rw [change_bay_other]; exact agree.ready source _
  | some sd' =>
    have act := (agree.active sd').1 source
    refine loose.sound_active (same.trans source) ?_
    obtain rfl | rfl := eq_or_other sd sd'
    · exact absurd act before
    · rw [change_channel, dead, change_bay_other]; exact agree.above _ act

/-- The bay as a declaration writes it, on a given day (R29). -/
def Bay.declare (now day volume lot expiry : Nat) (x : Bay) : Bay :=
  { x with
    state := if expiry < day then .expired else .ready
    uncertain := false
    cart := some (declared now volume lot expiry) }

theorem declareCartridge_bayOf (c : Fin 12) (sd : Side) (volume lot expiry : Nat) (e : Ev) :
    declareCartridge (bayOf c sd) volume lot expiry e =
      if ¬ expiry < e.st.clock.day ∧ e.st.ink.channels[c].active = none then
        giveUp c (becomeActive c sd
          (e.modifyBay (bayOf c sd) (Bay.declare e.st.now e.st.clock.day volume lot expiry)))
      else e.modifyBay (bayOf c sd) (Bay.declare e.st.now e.st.clock.day volume lot expiry) := by
  unfold declareCartridge Bay.declare
  simp

theorem Bay.Sound.declare {x : Bay} (h : x.Sound) {now day volume lot expiry : Nat} (low : 1 ≤ volume)
    (high : volume ≤ 1000000000) : (x.declare now day volume lot expiry).Sound where
  balance k e := by
    obtain rfl := Option.some.inj e
    exact ⟨by simp [declared], low, high⟩
  removed := h.removed
  present := by
    unfold Bay.declare
    dsimp only
    split <;> rfl
  certain _ := rfl

/-- A declaration on an INSERTED bay, of a volume in its range (R29). -/
theorem declareCartridge_keepsBays {b : Fin 24} {volume : Nat} (lot expiry : Nat) {e : Ev}
    (inserted : e.st.ink.bays[b].state = .inserted) (low : 1 ≤ volume) (high : volume ≤ 1000000000) :
    KeepsBays e.st (declareCartridge b volume lot expiry e).st := by
  obtain ⟨c, sd, rfl⟩ := exists_bayOf b
  generalize hf : Bay.declare e.st.now e.st.clock.day volume lot expiry = f
  have state (x : Bay) : (f x).state = if expiry < e.st.clock.day then .expired else .ready := by
    rw [← hf]; rfl
  have notActive (x : Bay) : (f x).state ≠ .active := by rw [state]; split <;> decide
  have notEmpty (x : Bay) : (f x).state ≠ .empty := by rw [state]; split <;> decide
  have sound (h : e.st.ink.Sound) : (f e.st.ink.bays[bayOf c sd]).Sound := by
    rw [← hf]; exact (h.bays _).declare low high
  have loose (h : e.st.ink.Sound) : (e.st.ink.change c sd f id).Loose c :=
    (h.loose c).change (sound h)
      (iff_of_false (by rw [id, (h.channels c).active, inserted]; decide) (notActive _))
      ((h.channels c).active sd.other)
  have seats : e.st.ink.SameSeats (e.st.ink.change c sd f id) :=
    change_sameSeats _ _ _ _ _ (iff_of_false (notEmpty _) (by rw [inserted]; decide))
  have ink : (e.modifyBay (bayOf c sd) f).st.ink = e.st.ink.change c sd f id :=
    modifyBay_change c sd f e
  rw [declareCartridge_bayOf, hf]
  split
  · next takes =>
    refine .of_ink (by rw [giveUp_pins]; rfl) fun h => ?_
    have active : (becomeActive c sd (e.modifyBay (bayOf c sd) f)).st.ink.Loose c := by
      refine becomeActive_loose (ink ▸ loose h) takes.2 ?_
      rw [ink, change_bay, state, if_neg takes.1]
      rfl
    have mended := giveUp_sound active fun none => by
      rw [becomeActive_ink, change_channel] at none
      cases none
    refine ⟨mended.1, (seats.trans ?_).trans mended.2⟩
    rw [← ink]
    exact becomeActive_sameSeats (by rw [ink, change_bay]; exact notEmpty _)
  · next waits =>
    refine .of_ink rfl fun h => ?_
    rw [ink]
    refine ⟨h.changeIdle (sound h) (by rw [inserted]; decide) (notActive _) (fun idle => ?_) rfl rfl,
      seats⟩
    have expired : expiry < e.st.clock.day := by
      by_contra fresh
      exact waits ⟨fresh, idle⟩
    rw [state, if_pos expired]
    decide

/-! ### Removing -/

/-- The bay as a removal leaves it (R44, R45). -/
def Bay.remove (now : Nat) (x : Bay) : Bay :=
  { x with state := .empty, uncertain := false, cart := none, removal := some (removalOf now x) }

theorem Bay.Sound.remove {x : Bay} (h : x.Sound) (now : Nat) : (x.remove now).Sound where
  balance k e := by cases e
  removed r k e e' := by
    obtain rfl := Option.some.inj e
    exact h.balance k e'
  present := rfl
  certain _ := rfl

theorem forget_active (sd sd' : Side) (ch : Channel) :
    (ch.forget sd).active = some sd' ↔ sd' ≠ sd ∧ ch.active = some sd' := by
  unfold Channel.forget
  dsimp only
  split
  · next act => simp [act, eq_comm]
  · next act =>
    constructor
    · intro h
      exact ⟨fun e => act (e ▸ h), h⟩
    · exact And.right

/-- The removal, before the other bay takes over (R44). -/
def takeOut (c : Fin 12) (sd : Side) (e : Ev) : Ev :=
  ((e.raise .cartridgeRemoved (.bay (bayOf c sd).val) e.st.ink.bays[bayOf c sd].drawn).modifyBay
    (bayOf c sd) (Bay.remove e.st.now)).modifyChannel c (Channel.forget sd)

theorem removeCartridge_bayOf (c : Fin 12) (sd : Side) (e : Ev) :
    removeCartridge (bayOf c sd) e =
      if e.st.ink.bays[bayOf c sd].state = .active then switchIfReady c sd.other (takeOut c sd e)
      else takeOut c sd e := by
  unfold removeCartridge
  rw [channelOf_bayOf, sideOf_bayOf]
  rfl

theorem takeOut_ink (c : Fin 12) (sd : Side) (e : Ev) :
    (takeOut c sd e).st.ink = e.st.ink.change c sd (Bay.remove e.st.now) (Channel.forget sd) := rfl

@[simp] theorem removeCartridge_pins (b : Fin 24) (e : Ev) :
    (removeCartridge b e).st.pins = e.st.pins := by
  obtain ⟨c, sd, rfl⟩ := exists_bayOf b
  rw [removeCartridge_bayOf]
  split
  · rw [switchIfReady_pins]; rfl
  · rfl

theorem takeOut_empty (c : Fin 12) (sd : Side) (e : Ev) (b : Fin 24) :
    (takeOut c sd e).st.ink.bays[b].state = .empty ↔
      b = bayOf c sd ∨ e.st.ink.bays[b].state = .empty := by
  rw [takeOut_ink, change_bay_cases]
  split
  · next here => exact iff_of_true rfl (.inl here)
  · next away => exact (or_iff_right away).symm

/-- A removal keeps the bays sound; of the bays, the one removed from is EMPTY after it (R44, R45). -/
theorem removeCartridge_sound (b : Fin 24) {e : Ev} (h : e.st.ink.Sound) :
    (removeCartridge b e).st.ink.Sound ∧
      ∀ x : Fin 24, (removeCartridge b e).st.ink.bays[x].state = .empty ↔
        x = b ∨ e.st.ink.bays[x].state = .empty := by
  obtain ⟨c, sd, rfl⟩ := exists_bayOf b
  have agree := h.channels c
  have notActive : (e.st.ink.bays[bayOf c sd].remove e.st.now).state ≠ .active := nofun
  have notReady : (e.st.ink.bays[bayOf c sd].remove e.st.now).state ≠ .ready := nofun
  rw [removeCartridge_bayOf]
  split
  · next act =>
    have loose : (takeOut c sd e).st.ink.Loose c := by
      rw [takeOut_ink]
      refine (h.loose c).change ((h.bays _).remove _) ?_ ?_
      · rw [forget_active]
        exact iff_of_false (fun x => x.1 rfl) notActive
      · rw [forget_active, ← agree.active]
        exact and_iff_right (other_ne sd)
    have idle : (takeOut c sd e).st.ink.channels[c].active = none := by
      rw [takeOut_ink, change_channel, Channel.forget, if_pos ((agree.active sd).2 act)]
    have mended := switchIfReady_sound (sd := sd.other) loose idle
      (by simp only [other_other, takeOut_ink]; rw [change_bay]; exact notReady)
    exact ⟨mended.1, fun x => (mended.2 x).trans (takeOut_empty c sd e x)⟩
  · next act =>
    refine ⟨?_, takeOut_empty c sd e⟩
    rw [takeOut_ink]
    refine h.changeIdle ((h.bays _).remove _) act notActive (fun _ => notReady) ?_ rfl
    rw [Channel.forget, if_neg fun x => act ((agree.active sd).1 x)]

/-! ### The cartridge-present inputs -/

/-- The start of an edge: the line has moved. -/
def Ev.moved (move : Pins → Pins) (s : State) : Ev :=
  { Ev.begin s with st := { s with pins := move s.pins } }

theorem setPresent_get (b x : Fin 24) (level : Bool) (pins : Pins) :
    (pins.setPresent b level).present[x] = if x = b then level else pins.present[x] := by
  by_cases h : x = b
  · subst h
    simp [Pins.setPresent]
  · have : b.val ≠ x.val := fun e => h (Fin.ext e.symm)
    simp [Pins.setPresent, h, this]

/-- A seated cartridge moves its bay from EMPTY to INSERTED, and any other state stays (R28, log 4). -/
theorem seat_bay (b : Fin 24) (e : Ev) :
    (seat b e).st.ink.bays[b] =
      if e.st.ink.bays[b].state = .empty then { e.st.ink.bays[b] with state := .inserted }
      else e.st.ink.bays[b] := modifyAt_self _ _ _

theorem seat_bay_other {b x : Fin 24} (h : x ≠ b) (e : Ev) :
    (seat b e).st.ink.bays[x] = e.st.ink.bays[x] := modifyAt_other _ _ _ _ h

theorem seat_sound (b : Fin 24) {e : Ev} (h : e.st.ink.Sound) : (seat b e).st.ink.Sound := by
  obtain ⟨c, sd, rfl⟩ := exists_bayOf b
  unfold seat
  rw [modifyBay_change]
  by_cases empty : e.st.ink.bays[bayOf c sd].state = .empty
  · refine h.changeIdle ?_ (by rw [empty]; decide) ?_ (fun _ => ?_) rfl rfl <;> rw [if_pos empty]
    · exact (h.bays _).restate (by rw [empty]; rfl)
    · simp
    · simp
  · refine (h.retouchBay ?_ ?_ fun _ => ?_).1 <;> rw [if_neg empty]
    exact h.bays _

/-- The rising edge of an input keeps the bays following their inputs (R28). -/
theorem seat_keepsBays (b : Fin 24) (s : State) :
    KeepsBays s (seat b (Ev.moved (Pins.setPresent b true) s)).st where
  sound h := (baysSound_iff _).2 (seat_sound b ((baysSound_iff s).1 h))
  seated _ seated out x := by
    have pins : (seat b (Ev.moved (Pins.setPresent b true) s)).st.pins = s.pins.setPresent b true := rfl
    rw [pins, setPresent_get]
    by_cases here : x = b
    · subst here
      rw [seat_bay, if_pos rfl]
      split
      · simp
      · next full => exact iff_of_false full (by decide)
    · rw [seat_bay_other here, if_neg here]
      exact seated out x

/-- The falling edge of an input keeps the bays following their inputs (R28, R44). -/
theorem unseat_keepsBays (b : Fin 24) (s : State) :
    KeepsBays s (unseat b (Ev.moved (Pins.setPresent b false) s)).st := by
  have pins : (Ev.moved (Pins.setPresent b false) s).st.pins = s.pins.setPresent b false := rfl
  unfold unseat
  split
  · next empty =>
    refine ⟨fun h => (baysSound_iff _).2 ((baysSound_iff s).1 h), fun _ seated out x => ?_⟩
    rw [pins, setPresent_get]
    split
    · next here => subst here; exact iff_of_true empty rfl
    · exact seated out x
  · refine .then_view ?_ (settle_view _)
    have removed (h : BaysSound s) :=
      removeCartridge_sound b (e := Ev.moved (Pins.setPresent b false) s) ((baysSound_iff s).1 h)
    refine ⟨fun h => (baysSound_iff _).2 (removed h).1, fun h seated out x => ?_⟩
    rw [removeCartridge_pins] at out ⊢
    rw [(removed h).2, pins, setPresent_get]
    split
    · next here => exact iff_of_true (.inl here) rfl
    · next away => exact (or_iff_right away).trans (seated out x)

end Sys2Proof.Machine
end

section
/-! SUPPORT. Faults, frames and requests keep the bays: the loss of the engine marks them uncertain (R27),
and a request does to them what its block does (R29, R47, R56, R73). -/

namespace Sys2Proof.Machine

/-! ### The loss of the engine -/

@[simp] theorem distrust_state (x : Bay) : x.distrust.state = x.state := by
  unfold Bay.distrust
  split <;> rfl

@[simp] theorem distrust_level (x : Bay) : x.distrust.level = x.level := by
  unfold Bay.distrust
  split <;> rfl

theorem Bay.Sound.distrust {x : Bay} (h : x.Sound) : x.distrust.Sound := by
  unfold Bay.distrust
  split
  iterate 3
    · next state => exact h.setUncertain fun undeclared => by rw [state] at undeclared; cases undeclared
  · exact h

/-- Every bay is marked uncertain that can be (R27). -/
theorem distrust_keepsBays (e : Ev) :
    KeepsBays e.st (e.mapInk fun i => { i with bays := mapTable Bay.distrust i.bays }).st := by
  have bay (b : Fin 24) : (mapTable Bay.distrust e.st.ink.bays)[b] = e.st.ink.bays[b].distrust :=
    mapTable_get _ _ _
  refine .of_ink rfl fun h => ⟨⟨fun b => ?_, fun c => ?_⟩, fun b => ?_⟩
  · rw [mapInk_ink, bay]
    exact (h.bays b).distrust
  · obtain ⟨active, ready, above⟩ := h.channels c
    constructor
    all_goals simp only [mapInk_ink, bay, distrust_state, distrust_level]; assumption
  · rw [mapInk_ink, bay, distrust_state]

theorem engineLost_keepsBays (e : Ev) : KeepsBays e.st (engineLost e).st := by
  have before : KeepsBays e.st
      (((endPrinting .engineLost e).mapSched fun u => { u with abort := none }).mapMeter
        fun m => { m with confirmed := false }).st := .of_view (by simp)
  refine (before.trans (distrust_keepsBays _)).then_view ?_
  simp [engineLost]

/-! ### Faults and frames -/

theorem recordFault_keepsBays (p : Port) (k : FaultKind) (h : Option Header) (e : Ev) :
    KeepsBays e.st (recordFault p k h e).st := by
  have entered (e : Ev) : KeepsBays e.st (enterFaulted p k e).st := by
    unfold enterFaulted
    dsimp only
    split
    · exact .trans (.of_view (by simp)) (engineLost_keepsBays _)
    · exact .of_view (by simp)
  unfold recordFault
  split
  · exact .refl _
  · dsimp only
    split
    · exact .trans (.of_view (by simp)) (entered _)
    · exact .of_view (by simp)

theorem dropReply_keepsBays (p : Port) (h : Header) (e : Ev) : KeepsBays e.st (dropReply p h e).st := by
  unfold dropReply
  split
  · exact .trans (.of_view (by simp)) (recordFault_keepsBays _ _ _ _)
  · exact .refl _

theorem answerBad_keepsBays (p : Port) (k : FaultKind) (h : Header) (e : Ev) :
    KeepsBays e.st (answerBad p k h e).st := by
  have faults (b : Prop) [Decidable b] (e : Ev) :
      KeepsBays e.st (if b then recordFault p .consecutiveBad (some h) e else e).st := by
    split
    · exact recordFault_keepsBays _ _ _ _
    · exact .refl _
  exact .then_view (((recordFault_keepsBays p k (some h) e).trans (faults _ _)).trans
    (dropReply_keepsBays p h _)) rfl

/-- A block's effect keeps the bays. -/
def TakeKeepsBays (take : Take) : Prop := ∀ q e, KeepsBays e.st (take q e).1.st

theorem takeFrame_keepsBays {take : Take} (h : TakeKeepsBays take) (k : ReqKind) (q : Request)
    (e : Ev) : KeepsBays e.st (takeFrame k take q e).st := by
  have dropped := (dropReply_keepsBays q.port q.header e).then_view
    (modifyPort_view _ q.port fun u => { u with badCount := 0 })
  unfold takeFrame
  dsimp only
  split
  · exact dropped.then_view rfl
  · exact (dropped.trans (h q _)).then_view rfl

theorem arrive_keepsBays (p : Port) (h : Header) (n : Nat) (discard : Bool) {go : Ev → Ev}
    (keeps : ∀ e, KeepsBays e.st (go e).st) (e : Ev) :
    KeepsBays e.st (arrive p h n discard go e).st := by
  have received : KeepsBays e.st (e.modifyPort p (PortUnit.receive n)).st := .of_view rfl
  have overlap := received.trans (recordFault_keepsBays p .overlap (some h) _)
  unfold arrive
  split
  · exact .refl _
  · dsimp only
    split
    · exact overlap
    · split
      · exact overlap
      · exact received.trans (keeps _)

/-! ### What each block does with a request -/

theorem withRead_keepsBays {α : Type} {x : Option α} {e : Ev} {f : α → Ev × Reply}
    (h : ∀ a, x = some a → KeepsBays e.st (f a).1.st) : KeepsBays e.st (withRead x e f).1.st := by
  cases x with
  | none => exact .refl _
  | some a => exact h a rfl

theorem withNone_keepsBays {q : Request} {e : Ev} {f : Ev × Reply} (h : KeepsBays e.st f.1.st) :
    KeepsBays e.st (withNone q e f).1.st := by
  unfold withNone
  split
  · exact h
  · exact .refl _

theorem withJob_keepsBays {q : Request} {e : Ev} {f : Fin 32 → Job → Ev × Reply}
    (h : ∀ n j, KeepsBays e.st (f n j).1.st) : KeepsBays e.st (withJob q e f).1.st := by
  unfold withJob
  split
  · split
    · exact .refl _
    · split
      · exact .refl _
      · exact h _ _
  · exact .refl _

/-- The volume that a declaration reads lies in its range (R29). -/
theorem readDeclaration_volume {pl : List Byte} {x : Declaration} (h : readDeclaration pl = some x) :
    1 ≤ x.volume ∧ x.volume ≤ 1000000000 := by
  simp only [readDeclaration, Option.bind_eq_bind, Option.bind_eq_some_iff, Option.guard_eq_some'] at h
  obtain ⟨_, _, b, _, _, range, e⟩ := h
  obtain rfl := Option.some.inj e
  exact range

theorem takeDeclareCartridge_keepsBays : TakeKeepsBays takeDeclareCartridge := fun q e =>
  withRead_keepsBays fun x read => by
    obtain ⟨low, high⟩ := readDeclaration_volume read
    split
    · exact .refl _
    · next inserted =>
      refine (declareCartridge_keepsBays x.lot x.expiry inserted low high).then_view ?_
      exact settle_view (declareCartridge x.bay x.volume x.lot x.expiry e)
    · exact .refl _

theorem takeSetChannel_keepsBays : TakeKeepsBays takeSetChannel := fun _ e =>
  withRead_keepsBays fun x _ => by
    refine (setChannel_keepsBays x.1 x.2 e).then_view ?_
    exact settle_view (setChannel x.1 x.2 e)

theorem takeSetBayCal_keepsBays : TakeKeepsBays takeSetBayCal := fun _ _ =>
  withRead_keepsBays fun _ _ => .of_view (modifyBay_view _ _ _ fun _ => rfl)

theorem takeSwathReport_keepsBays : TakeKeepsBays takeSwathReport := fun q e => by
  have assigned (cls : SwathClass) (r : CopyRef) (v : Vector Nat 12) (e : Ev) :
      (assign cls r v e).st.bayView = e.st.bayView := by
    cases cls <;> simp [assign, consume]
  have faults (cls : SwathClass) (held : Bool) (e : Ev) :
      KeepsBays e.st (swathFaults cls held q.header e).st := by
    have stray : KeepsBays e.st
        (if cls = .stray then recordFault .engine .staleRef (some q.header) e else e).st := by
      split
      · exact recordFault_keepsBays _ _ _ _
      · exact .refl _
    unfold swathFaults
    dsimp only
    split
    · exact stray.trans (recordFault_keepsBays _ _ _ _)
    · exact stray
  unfold takeSwathReport
  split
  · dsimp only
    generalize e.st.classify (refAt q.payload 0) = cls
    have drawn := (drawReport_keepsBays (dropCounts q.payload 3) e).then_view
      (assigned cls (refAt q.payload 0) (wholeVolumes e.st.meter (dropCounts q.payload 3)) _)
    exact (drawn.trans (faults cls e.st.held _)).then_view (settle_view _)
  · exact .refl _

theorem takeMaintReport_keepsBays : TakeKeepsBays takeMaintReport := fun q e => by
  unfold takeMaintReport
  split
  · refine (drawReport_keepsBays (dropCounts q.payload 0) e).then_view ?_
    simp
  · exact .refl _

theorem staleEnding_keepsBays (q : Request) (e : Ev) : KeepsBays e.st (staleEnding q e).1.st :=
  recordFault_keepsBays _ _ _ _

theorem takePanelRequest_keepsBays : TakeKeepsBays takePanelRequest := fun q e => by
  have none (r : NoneReasons) (e : Ev) : KeepsBays e.st (answerNone r e).1.st :=
    .of_view (by simp [answerNone])
  have granted (r : CopyRef) (j : Job) (roll : Fin 2) (i : Fin 32) (e : Ev) :
      (grant r j roll i e).st.bayView = e.st.bayView := by simp [grant]
  have walked (e : Ev) : KeepsBays e.st (answerWalk e).1.st := by
    unfold answerWalk
    split
    · exact none _ _
    · split
      · exact none _ _
      · split
        · split
          · exact none _ _
          · exact .of_view (by simp [granted])
        · exact none _ _
  refine withNone_keepsBays ?_
  split
  · exact .refl _
  · have loaded : KeepsBays e.st (e.mapSched Schedule.load).st := .of_view (by simp)
    dsimp only
    split
    · exact loaded.trans (walked _)
    · exact loaded.trans (none _ _)

theorem takePanelDone_keepsBays : TakeKeepsBays takePanelDone := fun q e =>
  withRead_keepsBays fun r _ => by
    have trigger (e : Ev) : (copyEndTrigger e).st.bayView = e.st.bayView := by
      unfold copyEndTrigger
      split <;> simp
    split
    · exact .of_view (by simp [trigger])
    · exact .of_view (by simp [clearAbort])
    · exact staleEnding_keepsBays _ _

theorem takePanelAbort_keepsBays : TakeKeepsBays takePanelAbort := fun q e =>
  withRead_keepsBays fun x _ => by
    split
    · exact .of_view (by simp)
    · exact .of_view (by simp [clearAbort])
    · exact staleEnding_keepsBays _ _

theorem takeHoldTaken_keepsBays : TakeKeepsBays takeHoldTaken := fun q e => by
  refine withNone_keepsBays ?_
  split
  · exact .of_view (by simp [holdTaken])
  · exact recordFault_keepsBays _ _ _ _

theorem takeSubmitJob_keepsBays : TakeKeepsBays takeSubmitJob := fun q e =>
  withRead_keepsBays fun x _ => by
    have admitted (h : Fin 32) (j : Job) (e : Ev) : (admitJob h j e).st.bayView = e.st.bayView := by
      unfold admitJob
      dsimp only
      split <;> simp
    split
    · exact .refl _
    · split_ifs
      · exact .refl _
      · exact .refl _
      · exact .of_view (by simp [admitted])

theorem setHeld_keepsBays (held : Bool) : TakeKeepsBays (setHeld held) := fun _ _ =>
  withJob_keepsBays fun _ _ => by
    split
    · exact .refl _
    · exact .of_view (by simp)

theorem takeCancelJob_keepsBays : TakeKeepsBays takeCancelJob := fun _ e =>
  withJob_keepsBays fun h j => by
    have dropped (rs : List CopyRef) (e : Ev) :
        (rs.foldl (fun e r => dropMeasure r e) e).st.bayView = e.st.bayView :=
      foldl_view _ _ _ fun e r => dropMeasure_view e r
    have cancelled : (cancelJob h j e).st.bayView = e.st.bayView := by
      unfold cancelJob
      dsimp only
      rw [closeJobIfDone_view, modifyJob_view, dropped]
      split <;> simp
    split
    · exact .refl _
    · exact .of_view (by simp [cancelled])

theorem takeCollectJob_keepsBays : TakeKeepsBays takeCollectJob := fun _ _ =>
  withJob_keepsBays fun _ _ => by
    split
    · exact .of_view (by simp)
    · exact .refl _

theorem takeStartScan_keepsBays : TakeKeepsBays takeStartScan := fun _ _ =>
  withNone_keepsBays (by
    split
    · exact .of_view (by simp)
    · exact .refl _)

theorem takeMountRoll_keepsBays : TakeKeepsBays takeMountRoll := fun _ _ =>
  withRead_keepsBays fun _ _ => by
    split
    · exact .refl _
    · exact .of_view (by simp)

theorem takeUnmountRoll_keepsBays : TakeKeepsBays takeUnmountRoll := fun _ _ =>
  withRead_keepsBays fun _ _ => by
    split
    · exact .refl _
    · split
      · exact .refl _
      · exact .of_view (by simp [unmount])

theorem takeClearCutter_keepsBays : TakeKeepsBays takeClearCutter := fun _ _ =>
  withNone_keepsBays (by
    split
    · exact .refl _
    · split
      · exact .of_view (by simp)
      · exact .refl _
    · exact .refl _)

theorem takeSetReference_keepsBays : TakeKeepsBays takeSetReference := fun _ _ =>
  withRead_keepsBays fun _ _ => by
    split
    · exact .of_view (by simp)
    · exact .refl _

theorem takeSetPrices_keepsBays : TakeKeepsBays takeSetPrices := fun _ _ =>
  withRead_keepsBays fun _ _ => by
    split
    · exact .of_view (by simp)
    · exact .refl _

/-- Every block's effect keeps the bays. -/
theorem takeOf_keepsBays (k : ReqKind) : TakeKeepsBays (takeOf k) := by
  cases k
  case submitJob => exact takeSubmitJob_keepsBays
  case holdJob | releaseJob => exact setHeld_keepsBays _
  case cancelJob => exact takeCancelJob_keepsBays
  case collectJob => exact takeCollectJob_keepsBays
  case swathReport => exact takeSwathReport_keepsBays
  case maintReport => exact takeMaintReport_keepsBays
  case panelRequest => exact takePanelRequest_keepsBays
  case panelDone => exact takePanelDone_keepsBays
  case panelAbort => exact takePanelAbort_keepsBays
  case holdTaken => exact takeHoldTaken_keepsBays
  case declareCartridge => exact takeDeclareCartridge_keepsBays
  case setChannel => exact takeSetChannel_keepsBays
  case setBayCal => exact takeSetBayCal_keepsBays
  case startScan => exact takeStartScan_keepsBays
  case mountRoll => exact takeMountRoll_keepsBays
  case unmountRoll => exact takeUnmountRoll_keepsBays
  case clearCutter => exact takeClearCutter_keepsBays
  case setReference => exact takeSetReference_keepsBays
  case setPrices => exact takeSetPrices_keepsBays
  case queryJob => exact fun _ _ => withJob_keepsBays fun _ _ => .refl _
  case declareDrops =>
    exact fun _ _ => withRead_keepsBays fun _ _ => by
      split
      · exact .refl _
      · exact .of_view (by simp)
  -- an effect on one record outside the ink, or none, whatever the payload carries
  case setScan | setPower | writePhases | setClassMap | setMediaType | setPath | setHistorySize |
      readHistory | setAccount | readAccount | setTime | setFaultPolicy | setNoticeLevels =>
    exact fun _ _ => withRead_keepsBays fun _ _ => .of_view (by simp)
  -- the same, of the requests without a payload
  case engineStatus | readInk | loadPhases | fetchNotices | readFaults | clearFaults =>
    exact fun _ _ => withNone_keepsBays (.of_view (by simp))

end Sys2Proof.Machine
end

section
/-! SUPPORT. Every command keeps the bays sound and following their inputs; with it R28, the
cartridge-present inputs and the bay states that follow them. -/

namespace Sys2Proof.Machine

/-! ### Events, edges and requests -/

theorem event_keepsBays {f : Ev → Ev} (s : State)
    (h : KeepsBays (Ev.begin s).st (f (Ev.begin s)).st) : KeepsBays s (event f s) := by
  unfold event
  split
  · exact .refl s
  · exact h.then_view (by simp)

/-- An edge whose line is not RESET, and whose event keeps the bays. -/
theorem edge_keepsBays {move : Pins → Pins} {f : Ev → Ev} (s : State)
    (reset : (move s.pins).reset = s.pins.reset)
    (h : KeepsBays s (f (Ev.moved move s)).st) : KeepsBays s (edge move f s) := by
  unfold edge
  split
  · next held =>
    refine ⟨fun h => (baysSound_iff _).2 ((baysSound_iff s).1 h), fun _ _ out => ?_⟩
    rw [reset, held] at out
    cases out
  · exact event_keepsBays s h

theorem expire_keepsBays {f : Ev → Ev} (due : State → Option Nat) (s : State)
    (h : ∀ e, KeepsBays e.st (f e).st) : KeepsBays s (expire due f s) := by
  refine event_keepsBays s ?_
  split
  · exact .refl s
  · exact .trans (.of_view (mapClock_view _ _)) (h _)

/-- A request that its block takes. -/
theorem request_keepsBays {k : ReqKind} {take : Take} (taken : takeOf k = take) (p : Port) (tag : Byte)
    (pl : List Byte) (s : State) : KeepsBays s (request k take p tag pl s) := by
  refine event_keepsBays s (arrive_keepsBays _ _ _ _ (fun e => ?_) _)
  split
  · exact answerBad_keepsBays _ _ _ e
  · exact takeFrame_keepsBays (taken ▸ takeOf_keepsBays k) _ _ e

theorem readFrom_view (p : Port) (count : Nat) (e : Ev) :
    (readFrom p count e).st.bayView = e.st.bayView := by
  unfold readFrom
  split <;> simp

theorem requestTransfer_keepsBays (p : Port) (bytes : List Byte) (discard : Bool) {go : Ev → Ev}
    (h : ∀ e, KeepsBays e.st (go e).st) (e : Ev) :
    KeepsBays e.st
      (requestTransfer p bytes (arrive p (headerOf bytes) bytes.length discard go) e).st := by
  unfold requestTransfer
  split
  · exact arrive_keepsBays _ _ _ _ h e
  · exact .of_view (readFrom_view _ _ e)

theorem examineFrame_keepsBays (p : Port) (bytes : List Byte) (e : Ev) :
    KeepsBays e.st (examineFrame p bytes e).st := by
  unfold examineFrame
  split
  · exact answerBad_keepsBays _ _ _ e
  · exact takeFrame_keepsBays (takeOf_keepsBays _) _ _ e

/-! ### The lines -/

theorem setPortReset_view (p : Port) (level : Bool) (s : State) :
    ({ s with pins := s.pins.setPortReset p level } : State).bayView = s.bayView := by
  cases p <;> rfl

theorem setPortReset_reset (p : Port) (level : Bool) (pins : Pins) :
    (pins.setPortReset p level).reset = pins.reset := by
  cases p <;> rfl

theorem resetPort_keepsBays (p : Port) (e : Ev) : KeepsBays e.st (resetPort p e).st := by
  unfold resetPort
  dsimp only
  split
  · exact .then_view (.trans (.of_view (modifyPort_view _ _ _)) (engineLost_keepsBays _)) rfl
  · exact .of_view (modifyPort_view _ _ _)

theorem feed_keepsBays (d : Direction) (e : Ev) : KeepsBays e.st (feed d e).st := by
  have fault (held : Bool) (e : Ev) : KeepsBays e.st (feedFault held e).st := by
    unfold feedFault
    split
    · exact recordFault_keepsBays _ _ _ _
    · exact .refl _
  have counted : KeepsBays e.st
      (if e.st.media.exhausts d then endPrinting .mediaOut (countStep d e) else countStep d e).st := by
    split <;> exact .of_view (by simp)
  unfold feed
  cases d with
  | forward =>
    exact ((counted.then_view (runHead_view _)).trans (fault _ _)).then_view (settle_view _)
  | reverse => exact counted.trans (fault _ _)

theorem homeFalls_view (e : Ev) : (homeFalls e).st.bayView = e.st.bayView := by
  unfold homeFalls
  split <;> simp

theorem homeRises_view (e : Ev) : (homeRises e).st.bayView = e.st.bayView := by
  unfold homeRises
  split <;> simp

/-- RESET asserted: the records stand, and no bay need follow its input (R182). -/
theorem enterReset_keepsBays (s : State) : KeepsBays s s.enterReset :=
  ⟨fun h => (baysSound_iff _).2 ((baysSound_iff s).1 h), fun _ _ out => by cases out⟩

/-- RESET released: every bay INSERTED or EMPTY by its input (R28, R182). -/
theorem releaseReset_state (s : State) (b : Fin 24) :
    s.releaseReset.ink.bays[b].state = if s.pins.present[b] then .inserted else .empty := by
  rw [show s.releaseReset.ink.bays[b] = Bay.atReset s.pins.present[b] s.ink.bays[b].cal from
    tabulate_get _ b]
  rfl

theorem atReset_sound (present : Bool) (cal : Calibration) : (Bay.atReset present cal).Sound where
  balance _ e := by cases e
  removed _ _ e := by cases e
  present := by cases present <;> rfl
  certain _ := rfl

theorem releaseReset_keepsBays (s : State) : KeepsBays s s.releaseReset where
  sound _ := by
    have channel (c : Fin 12) : s.releaseReset.ink.channels[c] = Channel.atReset :=
      Vector.getElem_replicate _
    have idle (b : Fin 24) : s.releaseReset.ink.bays[b].state ≠ .active ∧
        s.releaseReset.ink.bays[b].state ≠ .ready := by
      rw [releaseReset_state]
      split <;> decide
    refine (baysSound_iff _).2 ⟨fun b => ?_, fun c => ⟨fun sd => ?_, fun _ sd => ?_, fun sd act => ?_⟩⟩
    · rw [show s.releaseReset.ink.bays[b] = Bay.atReset s.pins.present[b] s.ink.bays[b].cal from
        tabulate_get _ b]
      exact atReset_sound _ _
    · rw [channel]
      exact iff_of_false nofun (idle _).1
    · exact (idle _).2
    · exact absurd act (idle _).1
  seated _ _ _ b := by
    rw [releaseReset_state, show s.releaseReset.pins.present = s.pins.present from rfl]
    cases s.pins.present[b] <;> simp

theorem applyPower_view (s : State) : s.applyPower.bayView = s.bayView := by
  have : mapTable Bay.holding s.applyPower.ink.bays = mapTable Bay.holding s.ink.bays :=
    mapTable_congr fun b => by
      rw [show s.applyPower.ink.bays[b] = { s.ink.bays[b] with cal := Calibration.atPower } from
        mapTable_get _ _ b]
      rfl
  simp only [State.bayView, this]
  rfl

theorem tick_view (s : State) : s.tick.bayView = s.bayView := by
  unfold State.tick
  split <;> rfl

/-! ### The timers and the scan -/

theorem intervalExpires_view (e : Ev) : (intervalExpires e).st.bayView = e.st.bayView := by
  unfold intervalExpires
  dsimp only
  split <;> simp

theorem convert_view (raw : BitVec 12) (e : Ev) : (convert raw e).st.bayView = e.st.bayView := by
  unfold convert
  split
  · rfl
  · split_ifs <;> simp

theorem ackExpires_keepsBays (e : Ev) : KeepsBays e.st (ackExpires e).st :=
  .trans (.of_view (mapMedia_view e _)) (recordFault_keepsBays _ _ _ _)

theorem pauseExpires_view (e : Ev) : (pauseExpires e).st.bayView = e.st.bayView := by
  have exhausted : (exhaustPause e).st.bayView = e.st.bayView := by
    unfold exhaustPause
    dsimp only
    split <;> simp
  simp [pauseExpires, exhausted]

theorem cutterExpires_view (e : Ev) : (cutterExpires e).st.bayView = e.st.bayView := by
  unfold cutterExpires
  dsimp only
  split <;> simp

theorem dryExpires_view (e : Ev) : (dryExpires e).st.bayView = e.st.bayView := by
  unfold dryExpires
  dsimp only
  split
  · simp
  · split <;> simp

theorem headExpires_view (e : Ev) : (headExpires e).st.bayView = e.st.bayView := by
  unfold headExpires
  dsimp only
  split
  · simp
  · split <;> simp

/-! ### The step -/

/-- Every command ends in a next state, and keeps the bays sound and following their inputs (R28, R31,
R44, R45, R56). -/
theorem exec_keepsBays (i : Instr) (s : State) : ∃ t, exec i s = .next t ∧ KeepsBays s t := by
  cases i
  case badFrame p bytes =>
    exact ⟨_, rfl, event_keepsBays s
      (requestTransfer_keepsBays p bytes _ (examineFrame_keepsBays p bytes) _)⟩
  case overlap p bytes =>
    exact ⟨_, rfl, event_keepsBays s (requestTransfer_keepsBays p bytes _ (fun _ => .refl _) _)⟩
  case readTransfer p count => exact ⟨_, rfl, event_keepsBays s (.of_view (readFrom_view p count _))⟩
  case portReset p =>
    exact ⟨_, rfl, edge_keepsBays s (setPortReset_reset p true s.pins)
      (.trans (.of_view (setPortReset_view p true s))
        (resetPort_keepsBays p (Ev.moved (Pins.setPortReset p true) s)))⟩
  case portResetRelease p =>
    exact ⟨_, rfl, edge_keepsBays s (setPortReset_reset p false s.pins)
      (.of_view (setPortReset_view p false s))⟩
  case deviceReset => exact ⟨_, rfl, enterReset_keepsBays s⟩
  case resetRelease => exact ⟨_, rfl, releaseReset_keepsBays s⟩
  case cartridgePresentRise b => exact ⟨_, rfl, edge_keepsBays s rfl (seat_keepsBays b s)⟩
  case cartridgePresentFall b => exact ⟨_, rfl, edge_keepsBays s rfl (unseat_keepsBays b s)⟩
  case feedStep d => exact ⟨_, rfl, event_keepsBays s (feed_keepsBays d _)⟩
  case cutHomeFall => exact ⟨_, rfl, edge_keepsBays s rfl (.of_view (homeFalls_view _))⟩
  case cutHomeRise => exact ⟨_, rfl, edge_keepsBays s rfl (.of_view (homeRises_view _))⟩
  case patch bytes | headEnd bytes | headOther bytes =>
    exact ⟨_, rfl, event_keepsBays s (.of_view (headBytes_view _ bytes))⟩
  case headByteGap b => exact ⟨_, rfl, event_keepsBays s (.of_view (headByte_view _ b))⟩
  case scanIntervalExpiry =>
    exact ⟨_, rfl, expire_keepsBays _ s fun e => .of_view (intervalExpires_view e)⟩
  case sampleConversion raw => exact ⟨_, rfl, event_keepsBays s (.of_view (convert_view raw _))⟩
  case scanComplete => exact ⟨_, rfl, event_keepsBays s (completeScan_keepsBays _)⟩
  case holdAckExpiry => exact ⟨_, rfl, expire_keepsBays _ s ackExpires_keepsBays⟩
  case pauseExpiry => exact ⟨_, rfl, expire_keepsBays _ s fun e => .of_view (pauseExpires_view e)⟩
  case cutterTimerExpiry => exact ⟨_, rfl, expire_keepsBays _ s fun e => .of_view (cutterExpires_view e)⟩
  case dryWaitExpiry => exact ⟨_, rfl, expire_keepsBays _ s fun e => .of_view (dryExpires_view e)⟩
  case headTimerExpiry => exact ⟨_, rfl, expire_keepsBays _ s fun e => .of_view (headExpires_view e)⟩
  case powerApplied => exact ⟨_, rfl, .of_view (applyPower_view s)⟩
  -- the requests: each is taken at its block
  all_goals exact ⟨_, rfl, request_keepsBays rfl _ _ _ s⟩

theorem step_keepsBays {s t : State} (h : step s = .next t) : KeepsBays s t := by
  unfold step at h
  split at h
  · obtain rfl := Host.Outcome.next.inj h
    exact .of_view (tick_view s)
  · next c rest _ =>
    obtain ⟨t', ran, keeps⟩ := exec_keepsBays c { s with pending := rest }
    obtain rfl := Host.Outcome.next.inj (ran.symm.trans h)
    have taken : KeepsBays s { s with pending := rest } := .of_view rfl
    exact taken.trans keeps

/-! ### R28 -/

/-- The rising edge of an EMPTY bay's input, out of RESET, seats the cartridge and changes nothing else
(R28). -/
theorem exec_present_rise (s : State) (b : Fin 24) (out : s.pins.reset = false)
    (empty : s.ink.bays[b].state = .empty) :
    exec (.cartridgePresentRise b) s = .next { s with
      pins := { s.pins with present := s.pins.present.set b.val true b.isLt }
      ink := { s.ink with
        bays := s.ink.bays.set b.val { s.ink.bays[b] with state := .inserted } b.isLt } } := by
  have filled : modifyAt s.ink.bays b
      (fun x => if x.state = .empty then { x with state := .inserted } else x) =
        s.ink.bays.set b.val { s.ink.bays[b] with state := .inserted } b.isLt := by
    rw [modifyAt_eq_set, if_pos empty]
  have ends : exec (.cartridgePresentRise b) s =
      .next (seat b (Ev.moved (Pins.setPresent b true) s)).st := by
    change Host.Outcome.next (edge (Pins.setPresent b true) (seat b) s) = _
    rw [edge, if_neg (by simp [out]), event_run _ _ out, close_quiet _ rfl,
      finish_quiet _ rfl (ordersDiffer_same _ _ rfl rfl)]
    rfl
  rw [ends, ← filled]
  rfl

/-- A bay that is INSERTED contributes as little as an EMPTY one (R33). -/
theorem usable_insert (i : InkUnit) (b : Fin 24) (empty : i.bays[b].state = .empty) (c : Fin 12) :
    InkUnit.usable { i with bays := i.bays.set b.val { i.bays[b] with state := .inserted } b.isLt } c =
      i.usable c := by
  have bay (x : Fin 24) (dead : Nat) :
      ((modifyAt i.bays b fun y => { y with state := .inserted })[x]).usable dead =
        (i.bays[x]).usable dead := by
    rw [modifyAt_get]
    split
    · next here => subst here; simp only [Bay.usable, empty]
    · rfl
  exact congrArg₂ (· + ·) (bay _ _) (bay _ _)

/-- Settles O44: an edge seats a cartridge, RESET's release samples the inputs, and every step keeps the
bays sound and following them. -/
theorem cartridgeSeated : Obligations.CartridgeSeated := by
  unfold Obligations.CartridgeSeated
  refine ⟨fun s b out empty => ⟨_, exec_present_rise s b out empty, rfl, usable_insert s.ink b empty⟩,
    fun s => ⟨_, rfl, releaseReset_state s⟩, fun s t follow ran => (step_keepsBays ran).follow follow,
    fun s b follow out => ?_⟩
  have bay := follow.follow out b
  exact ⟨bay.2, fun seated empty => by rw [bay.1 empty] at seated; cases seated⟩

end Sys2Proof.Machine
end

section
/-! SUPPORT. What a change of a job or of a copy record leaves of the attempt that a reference names (R1). -/

namespace Sys2Proof.Machine

theorem job?_modifyJob_same (h : Nat) (f : Job → Job) (e : Ev) :
    (e.modifyJob h f).st.job? h = (e.st.job? h).map f := by
  by_cases lt : h < 32
  · simp [State.job?, JobStore.modifyJob, lt]
  · simp [State.job?, lt]

theorem attempt?_eq_some {s : State} {r : CopyRef} {j : Job} {k : CopyRecord} :
    s.attempt? r = some (j, k) ↔
      s.job? r.handle = some j ∧ j.copy? r.copy = some k ∧ k.attempt = r.attempt := by
  unfold State.attempt?
  constructor
  · intro h
    split at h
    · cases h
    · next j' job =>
      split at h
      · cases h
      · next k' copy =>
        split at h
        · next attempt =>
          cases h
          exact ⟨job, copy, attempt⟩
        · cases h
  · rintro ⟨job, copy, attempt⟩
    simp [job, copy, attempt]

theorem copy?_congr {i j : Job} (copies : i.copies = j.copies) (n : Nat) : i.copy? n = j.copy? n := by
  unfold Job.copy?
  rw [copies]

theorem copy?_modifyCopies {r : CopyRef} {j : Job} {k : CopyRecord} (f : CopyRecord → CopyRecord)
    (copy : j.copy? r.copy = some k) (attempt : k.attempt = r.attempt) :
    Job.copy? { j with copies := modifyCopies r f j.copies } r.copy = some (f k) := by
  unfold modifyCopies Job.copy? at *
  split at copy
  · cases copy
  · simp [modifyList_get?, copy, attempt]

/-- A change of the job's other figures leaves its copies' attempts. -/
theorem attempt?_modifyJob {r : CopyRef} {e : Ev} {j : Job} {k : CopyRecord} {f : Job → Job}
    (h : e.st.attempt? r = some (j, k)) (copies : (f j).copies = j.copies) :
    (e.modifyJob r.handle f).st.attempt? r = some (f j, k) := by
  obtain ⟨job, copy, attempt⟩ := attempt?_eq_some.1 h
  exact attempt?_eq_some.2
    ⟨by rw [job?_modifyJob_same, job]; rfl, (copy?_congr copies _).trans copy, attempt⟩

theorem attempt?_modifyAttempt {r : CopyRef} {e : Ev} {j : Job} {k : CopyRecord}
    (f : Attempt → Attempt) (h : e.st.attempt? r = some (j, k)) :
    (e.modifyAttempt r f).st.attempt? r =
      some ({ j with copies := modifyCopies r (fun x => { x with record := f x.record }) j.copies },
        { k with record := f k.record }) := by
  obtain ⟨job, copy, attempt⟩ := attempt?_eq_some.1 h
  refine attempt?_eq_some.2 ⟨?_, copy?_modifyCopies _ copy attempt, attempt⟩
  rw [Ev.modifyAttempt, Ev.modifyCopy, job?_modifyJob_same, job]
  rfl

/-! ### The figures of a swath on its attempt -/

/-- A report's volumes are added to the attempt that it names (R60, R61). -/
theorem attempt?_consume {r : CopyRef} {e : Ev} {j : Job} {k : CopyRecord} (v : Vector Nat 12)
    (h : e.st.attempt? r = some (j, k)) :
    ∃ j' k', (consume r v e).st.attempt? r = some (j', k') ∧ j'.reservation = j.reservation ∧
      ∀ c : Fin 12, k'.record.consumption[c] = add48 k.record.consumption[c] v[c] :=
  ⟨_, _, attempt?_modifyAttempt _ h, rfl, tabulate_get _⟩

/-- A drawdown lowers the reservation of the job, down to 0, and leaves its attempts (R40). -/
theorem attempt?_drawdown {r : CopyRef} {e : Ev} {j : Job} {k : CopyRecord} (v : Vector Nat 12)
    (h : e.st.attempt? r = some (j, k)) :
    ∃ j', (drawdown r.handle v e).st.attempt? r = some (j', k) ∧
      ∀ c : Fin 12, j'.reservation[c] = j.reservation[c] - v[c] := by
  obtain ⟨job, -, -⟩ := attempt?_eq_some.1 h
  unfold drawdown
  rw [job]
  exact ⟨_, attempt?_modifyJob (e := e.mapInk _) h rfl, tabulate_get _⟩

theorem add48_zero {n : Nat} (h : n < 281474976710656) : add48 n 0 = n := if_pos h

end Sys2Proof.Machine
end

section
/-! SUPPORT. A draw touches the Ink unit and raises notices, and does nothing else (R31, R56). -/

namespace Sys2Proof.Machine

/-- From `e` to `e'` only the Ink unit and the notices raised have changed. -/
def Ev.InkAlone (e e' : Ev) : Prop :=
  e' = { e with st := { e.st with ink := e'.st.ink }, raised := e'.raised }

theorem Ev.InkAlone.refl (e : Ev) : e.InkAlone e := rfl

theorem Ev.InkAlone.trans {e f g : Ev} (h : e.InkAlone f) (k : f.InkAlone g) : e.InkAlone g := by
  unfold Ev.InkAlone at *
  rw [k, h]

theorem Ev.InkAlone.st {e e' : Ev} (h : e.InkAlone e') : e'.st = { e.st with ink := e'.st.ink } :=
  congrArg Ev.st h

theorem mapInk_inkAlone (f : InkUnit → InkUnit) (e : Ev) : e.InkAlone (e.mapInk f) := rfl

theorem raise_inkAlone (k : NoticeKind) (x : Subject) (d : Nat) (e : Ev) :
    e.InkAlone (e.raise k x d) := rfl

theorem becomeSpent_inkAlone (c : Fin 12) (sd : Side) (e : Ev) : e.InkAlone (becomeSpent c sd e) := rfl

theorem switchTo_inkAlone (c : Fin 12) (sd : Side) (e : Ev) : e.InkAlone (switchTo c sd e) := by
  unfold switchTo
  dsimp only
  split
  · exact .trans (f := (becomeActive c sd e).raise .baySwitch _ _) rfl (becomeSpent_inkAlone c sd _)
  · rfl

theorem switchIfReady_inkAlone (c : Fin 12) (sd : Side) (e : Ev) :
    e.InkAlone (switchIfReady c sd e) := by
  unfold switchIfReady
  split
  · exact switchTo_inkAlone c sd e
  · exact .refl e

theorem giveUp_inkAlone (c : Fin 12) (e : Ev) : e.InkAlone (giveUp c e) := by
  unfold giveUp
  split
  · exact .refl e
  · next sd _ =>
    split
    · exact (becomeSpent_inkAlone c sd e).trans (switchIfReady_inkAlone c sd.other _)
    · exact .refl e

theorem drawFrom_inkAlone (b : Fin 24) (n : Nat) (e : Ev) : e.InkAlone (drawFrom b n e) := rfl

theorem drawActive_inkAlone (c : Fin 12) (n v : Nat) (e : Ev) :
    e.InkAlone (drawActive c n v e).2 := by
  induction n generalizing v e with
  | zero => exact .refl e
  | succ n ih =>
    unfold drawActive
    split
    · exact .refl e
    · exact ((drawFrom_inkAlone _ _ e).trans (giveUp_inkAlone c _)).trans (ih _ _)

theorem drawSpent_inkAlone (c : Fin 12) (sd : Side) (v : Nat) (e : Ev) :
    e.InkAlone (drawSpent c sd v e).2 := by
  unfold drawSpent
  dsimp only
  split
  · exact drawFrom_inkAlone _ _ e
  · exact .refl e

theorem drawChannel_inkAlone (c : Fin 12) (v : Nat) (e : Ev) : e.InkAlone (drawChannel c v e) := by
  unfold drawChannel
  split
  · exact .refl e
  · dsimp only
    have drawn (sd sd' : Side) (x y : Nat) :
        e.InkAlone (drawSpent c sd' y (drawSpent c sd x (drawActive c 2 v e).2).2).2 :=
      ((drawActive_inkAlone c 2 v e).trans (drawSpent_inkAlone c sd x _)).trans
        (drawSpent_inkAlone c sd' y _)
    split
    · exact drawn _ _ _ _
    · exact (drawn _ _ _ _).trans (mapInk_inkAlone _ _)

/-- A report's conversion and draw replace the residues; all else they do is to the Ink unit and the
notices (R54, R56). -/
theorem drawReport_inkAlone (counts : Fin 12 → Nat × Nat × Nat) (e : Ev) :
    (e.mapMeter fun m => { m with residue := newResidues m counts }).InkAlone (drawReport counts e) :=
  foldl_keeps _ _ _ _ (fun _ c h => h.trans (drawChannel_inkAlone c _ _)) (.refl _)

theorem drawReport_meter (counts : Fin 12 → Nat × Nat × Nat) (e : Ev) :
    (drawReport counts e).st.meter = { e.st.meter with residue := newResidues e.st.meter counts } := by
  rw [(drawReport_inkAlone counts e).st]
  rfl

theorem drawChannel_zero (c : Fin 12) (e : Ev) : drawChannel c 0 e = e := if_pos rfl

end Sys2Proof.Machine
end

section
/-! The conversion of drop counts into a whole volume and a residue (R54). -/

namespace Sys2Proof.Machine

theorem wholeVolumes_get (m : Metering) (counts : Fin 12 → Nat × Nat × Nat) (c : Fin 12) :
    (wholeVolumes m counts)[c] =
      (dropSum m.drops[c] (counts c).1 (counts c).2.1 (counts c).2.2 + m.residue[c]) / 10000 :=
  tabulate_get _ c

theorem newResidues_get (m : Metering) (counts : Fin 12 → Nat × Nat × Nat) (c : Fin 12) :
    (newResidues m counts)[c] =
      (dropSum m.drops[c] (counts c).1 (counts c).2.1 (counts c).2.2 + m.residue[c]) % 10000 :=
  tabulate_get _ c

/-- The greatest sum: three counts of 16,777,215 at volumes of 1,000 tenths of a picolitre (R54). -/
theorem dropSum_le {d : DropVolumes} {small medium large : Nat} (ds : d.small ≤ 1000)
    (dm : d.medium ≤ 1000) (dl : d.large ≤ 1000) (hs : small ≤ 16777215) (hm : medium ≤ 16777215)
    (hl : large ≤ 16777215) : dropSum d small medium large ≤ 50331645000 :=
  Nat.add_le_add (Nat.add_le_add (Nat.mul_le_mul hs ds) (Nat.mul_le_mul hm dm)) (Nat.mul_le_mul hl dl)

@[simp] theorem dropSum_zero (d : DropVolumes) : dropSum d 0 0 0 = 0 := by
  simp only [dropSum, Nat.zero_mul]

/-- A V of 0 adds nothing to a consumption and draws down nothing (R54). -/
theorem figures_kept_of_zero_volume {e : Ev} {r : CopyRef} {v : Vector Nat 12} {c : Fin 12} {j j' : Job}
    {k k' : CopyRecord} (zero : v[c] = 0) (before : e.st.attempt? r = some (j, k))
    (fits : k.record.consumption[c] < 281474976710656)
    (after : (drawdown r.handle v (consume r v e)).st.attempt? r = some (j', k')) :
    k'.record.consumption[c] = k.record.consumption[c] ∧ j'.reservation[c] = j.reservation[c] := by
  obtain ⟨j₁, k₁, consumed, reserved, added⟩ := attempt?_consume v before
  obtain ⟨j₂, drawn, lowered⟩ := attempt?_drawdown v consumed
  cases drawn.symm.trans after
  exact ⟨by rw [added, zero, add48_zero fits], by rw [lowered, zero, reserved, Nat.sub_zero]⟩

/-- Settles O26: the conversion is a division by 10,000 with its remainder, the draws that follow it leave
the residues, and a volume of 0 moves no figure. -/
theorem conversion : Obligations.Conversion := by
  unfold Obligations.Conversion
  intro m counts c ds dm dl residue hs hm hl S T V
  have volume : V = T / 10000 := wholeVolumes_get m counts c
  have left : (newResidues m counts)[c] = T % 10000 := newResidues_get m counts c
  have counted : S = dropSum m.drops[c] (counts c).1 (counts c).2.1 (counts c).2.2 := rfl
  have sum : S ≤ 50331645000 := dropSum_le ds dm dl hs hm hl
  have total : T = S + m.residue[c] := rfl
  refine ⟨sum, by omega, volume, by omega, by omega, by omega, ?_, ?_, ?_⟩
  · rintro e rfl
    exact drawReport_meter counts e
  · intro noDrops
    have nothing : S = 0 := by rw [counted, noDrops, dropSum_zero]
    omega
  · intro zero e r v here
    refine ⟨by rw [zero, drawChannel_zero], fun j k j' k' before fits after => ?_⟩
    exact figures_kept_of_zero_volume (here.trans zero) before fits after

end Sys2Proof.Machine
end

section
/-! The measured volume of a bay (R74). -/

namespace Sys2Proof.Machine

/-- The weight of R74 is the greatest at the full count, a zero of 0 and the greatest scale. -/
theorem weight_le {raw : Nat} {k : Calibration} (hraw : raw ≤ 4095) (hscale : k.scale ≤ 1000000) :
    (raw - k.zero) * k.scale / 1000 ≤ 4095000 := by
  have count : raw - k.zero ≤ 4095 := (Nat.sub_le raw k.zero).trans hraw
  have product : (raw - k.zero) * k.scale ≤ 4095 * 1000000 := Nat.mul_le_mul count hscale
  omega

/-- A reading at or below the zero weighs nothing. -/
theorem weight_eq_zero {raw : Nat} {k : Calibration} (h : raw ≤ k.zero) :
    (raw - k.zero) * k.scale / 1000 = 0 := by
  rw [Nat.sub_eq_zero_of_le h, Nat.zero_mul, Nat.zero_div]

theorem measuredVolume_of_le {raw density declared : Nat} {k : Calibration}
    (h : ((raw - k.zero) * k.scale / 1000 - k.tare) * 1000000 / density ≤ declared) :
    measuredVolume raw k density declared =
      ((raw - k.zero) * k.scale / 1000 - k.tare) * 1000000 / density :=
  Nat.min_eq_left h

theorem measuredVolume_of_lt {raw density declared : Nat} {k : Calibration}
    (h : declared < ((raw - k.zero) * k.scale / 1000 - k.tare) * 1000000 / density) :
    measuredVolume raw k density declared = declared :=
  Nat.min_eq_right h.le

/-- Settles O49: the weight and the ink weight are the model's own, whose truncated subtractions are the
two zero cases of R74; the bound on the weight bounds the intermediate product. -/
theorem measuredVolume_rule : Obligations.MeasuredVolume := by
  unfold Obligations.MeasuredVolume
  intro raw k density declared hraw _ hscale _ M
  have bound : (raw - k.zero) * k.scale / 1000 ≤ 4095000 := weight_le hraw hscale
  have inkBound : (raw - k.zero) * k.scale / 1000 - k.tare ≤ 4095000 := (Nat.sub_le _ _).trans bound
  exact ⟨_, _, fun _ => rfl, weight_eq_zero, bound, fun _ => rfl, Nat.sub_eq_zero_of_le,
    Nat.mul_le_mul_right 1000000 inkBound, measuredVolume_of_le, measuredVolume_of_lt⟩

end Sys2Proof.Machine
end

section
/-! The choice of the copy to grant (R93). -/

namespace Sys2Proof.Machine

/-- Copy `n` of the job exists and passes the test. -/
def Job.HasCopy (j : Job) (p : CopyRecord → Bool) (n : Nat) : Prop :=
  ∃ c, j.copy? n = some c ∧ p c = true

/-- The lowest number of a copy that passes the test. -/
def Job.firstCopy? (j : Job) (p : CopyRecord → Bool) : Option Nat :=
  (j.copies.findIdx? p).map (· + 1)

def CopyRecord.isPending (c : CopyRecord) : Bool := c.state == .pending

/-- PENDING to be printed again: at an attempt above 1. -/
def CopyRecord.isReprint (c : CopyRecord) : Bool := c.state == .pending && 1 < c.attempt

@[simp] theorem CopyRecord.isPending_iff {c : CopyRecord} : c.isPending = true ↔ c.state = .pending := by
  simp [isPending]

@[simp] theorem CopyRecord.isReprint_iff {c : CopyRecord} :
    c.isReprint = true ↔ c.state = .pending ∧ 1 < c.attempt := by
  simp [isReprint]

theorem Job.HasCopy.mono {j : Job} {p q : CopyRecord → Bool} {n : Nat}
    (imp : ∀ c, p c = true → q c = true) : j.HasCopy p n → j.HasCopy q n :=
  fun ⟨c, copy, pass⟩ => ⟨c, copy, imp c pass⟩

/-! ### The lowest copy that passes a test -/

theorem hasCopy_of_firstCopy? {j : Job} {p : CopyRecord → Bool} {n : Nat} (h : j.firstCopy? p = some n) :
    j.HasCopy p n := by
  obtain ⟨i, found, rfl⟩ := Option.map_eq_some_iff.1 h
  obtain ⟨lt, pass, -⟩ := List.findIdx?_eq_some_iff_getElem.1 found
  exact ⟨j.copies[i], List.getElem?_eq_getElem lt, pass⟩

theorem firstCopy?_le {j : Job} {p : CopyRecord → Bool} {n k : Nat} (h : j.firstCopy? p = some n)
    (other : j.HasCopy p k) : n ≤ k := by
  obtain ⟨i, found, rfl⟩ := Option.map_eq_some_iff.1 h
  obtain ⟨_, -, before⟩ := List.findIdx?_eq_some_iff_getElem.1 found
  obtain ⟨c, copy, pass⟩ := other
  cases k with
  | zero => cases copy
  | succ m =>
    obtain ⟨_, rfl⟩ := List.getElem?_eq_some_iff.1 copy
    exact Nat.succ_le_succ (Nat.le_of_not_lt fun lt => before m lt pass)

theorem firstCopy?_eq_none {j : Job} {p : CopyRecord → Bool} :
    j.firstCopy? p = none ↔ ¬ ∃ n, j.HasCopy p n := by
  rw [Job.firstCopy?, Option.map_eq_none_iff, List.findIdx?_eq_none_iff]
  constructor
  · rintro fails ⟨n, c, copy, pass⟩
    cases n with
    | zero => cases copy
    | succ i => exact absurd pass (Bool.eq_false_iff.1 (fails c (List.mem_of_getElem? copy)))
  · intro noCopy c mem
    obtain ⟨i, copy⟩ := List.mem_iff_getElem?.1 mem
    exact Bool.eq_false_iff.2 fun pass => noCopy ⟨i + 1, c, copy, pass⟩

/-- A test that reads only some figures of a copy finds the same copy in jobs that agree on those. -/
theorem firstCopy?_congr {α : Type} {i j : Job} {f : CopyRecord → α} (q : α → Bool)
    (same : i.copies.map f = j.copies.map f) : i.firstCopy? (q ∘ f) = j.firstCopy? (q ∘ f) := by
  rw [Job.firstCopy?, Job.firstCopy?, ← List.findIdx?_map, ← List.findIdx?_map, same]

/-! ### The choice -/

theorem copyChoice_eq (j : Job) :
    j.copyChoice = (j.firstCopy? CopyRecord.isReprint).or (j.firstCopy? CopyRecord.isPending) := by
  unfold Job.copyChoice Job.firstCopy? CopyRecord.isReprint CopyRecord.isPending
  split
  · next found => rw [found]; rfl
  · next notFound => rw [notFound]; rfl

theorem copyChoice_eq_some {j : Job} {n : Nat} :
    j.copyChoice = some n ↔ j.firstCopy? CopyRecord.isReprint = some n ∨
      (¬ ∃ k, j.HasCopy CopyRecord.isReprint k) ∧ j.firstCopy? CopyRecord.isPending = some n := by
  rw [copyChoice_eq, Option.or_eq_some_iff, firstCopy?_eq_none]

theorem copyChoice_eq_none {j : Job} :
    j.copyChoice = none ↔ ¬ ∃ k, j.HasCopy CopyRecord.isPending k := by
  rw [copyChoice_eq, Option.or_eq_none_iff, firstCopy?_eq_none, firstCopy?_eq_none]
  have pending_of_reprint : ∀ c : CopyRecord, c.isReprint = true → c.isPending = true :=
    fun c h => CopyRecord.isPending_iff.2 (CopyRecord.isReprint_iff.1 h).1
  exact and_iff_right_of_imp fun noCopy ⟨k, reprint⟩ => noCopy ⟨k, reprint.mono pending_of_reprint⟩

/-- The choice reads the states and the attempt numbers of the copies, and nothing of their records. -/
theorem copyChoice_congr {i j : Job}
    (same : i.copies.map (fun c => (c.state, c.attempt)) = j.copies.map (fun c => (c.state, c.attempt))) :
    i.copyChoice = j.copyChoice := by
  have reprints : i.firstCopy? CopyRecord.isReprint = j.firstCopy? CopyRecord.isReprint :=
    firstCopy?_congr (fun x : CopyState × Nat => x.1 == .pending && 1 < x.2) same
  have pendings : i.firstCopy? CopyRecord.isPending = j.firstCopy? CopyRecord.isPending :=
    firstCopy?_congr (fun x : CopyState × Nat => x.1 == .pending) same
  rw [copyChoice_eq, copyChoice_eq, reprints, pendings]

/-- Settles O29: the choice is the lowest reprint or, where there is none, the lowest PENDING copy; both
tests read a copy's state and attempt number alone. -/
theorem copyChoice : Obligations.CopyChoice := by
  unfold Obligations.CopyChoice
  intro j pending again
  have again_iff (n : Nat) : again n ↔ j.HasCopy CopyRecord.isReprint n := by
    simp only [again, Job.HasCopy, CopyRecord.isReprint_iff]
  have pending_iff (n : Nat) : pending n ↔ j.HasCopy CopyRecord.isPending n := by
    simp only [pending, Job.HasCopy, CopyRecord.isPending_iff]
  simp only [again_iff, pending_iff]
  refine ⟨fun n chosen => ?_, copyChoice_eq_none, fun _ => copyChoice_congr⟩
  obtain first | ⟨noReprint, first⟩ := copyChoice_eq_some.1 chosen
  · have reprint := hasCopy_of_firstCopy? first
    exact ⟨fun _ => ⟨reprint, fun _ => firstCopy?_le first⟩, fun noReprint => absurd ⟨n, reprint⟩ noReprint⟩
  · exact ⟨fun someReprint => absurd someReprint noReprint,
      fun _ => ⟨hasCopy_of_firstCopy? first, fun _ => firstCopy?_le first⟩⟩

end Sys2Proof.Machine
end

section
/-! The difference of two colours (R140). -/

namespace Sys2Proof.Machine

/-! ### The root -/

/-- The search keeps the root at or above `r` and below `r + 2 ^ k`; each round halves that interval. -/
theorem sqrtFrom_eq_sqrt {n : Nat} (k r : Nat) (lower : r * r ≤ n)
    (upper : n < (r + 2 ^ k) * (r + 2 ^ k)) : sqrtFrom k n r = n.sqrt := by
  induction k generalizing r with
  | zero => exact Nat.eq_sqrt.2 ⟨lower, upper⟩
  | succ k ih =>
    have halves : r + 2 ^ (k + 1) = r + 2 ^ k + 2 ^ k := by rw [Nat.pow_succ]; omega
    rw [halves] at upper
    simp only [sqrtFrom]
    split
    · next fits => exact ih _ fits upper
    · next exceeds => exact ih r lower (Nat.lt_of_not_le exceeds)

theorem floorSqrt_eq_sqrt {n : Nat} (h : n < 4294967296) : floorSqrt n = n.sqrt :=
  sqrtFrom_eq_sqrt 16 0 (Nat.zero_le n) (by simpa using h)

/-- At the greatest d² the floor root is 57445, and the rounding adds one. -/
theorem roundSqrt_le {d : Nat} (h : d ≤ 3300000000) : roundSqrt d ≤ 57446 := by
  have root : floorSqrt d < 57446 := by
    rw [floorSqrt_eq_sqrt (by omega)]
    exact Nat.sqrt_lt.2 (by omega)
  simp only [roundSqrt]
  split <;> omega

/-! ### The square of the distance -/

theorem Colour.inRange_iff {x : Colour} : x.inRange = true ↔
    ((0 ≤ x.l ∧ x.l ≤ 10000) ∧ -20000 ≤ x.a ∧ x.a ≤ 20000) ∧ -20000 ≤ x.b ∧ x.b ≤ 20000 := by
  simp [Colour.inRange]

theorem distSq_eq (x y : Colour) :
    distSq x y = ((x.l - y.l) ^ 2 + (x.a - y.a) ^ 2 + (x.b - y.b) ^ 2).toNat := by
  simp only [distSq, sq]

/-- Two values of one range differ by at most its width. -/
theorem sq_sub_le {lo hi u v : Int} (hu : lo ≤ u ∧ u ≤ hi) (hv : lo ≤ v ∧ v ≤ hi) :
    (u - v) ^ 2 ≤ (hi - lo) ^ 2 :=
  sq_le_sq' (by omega) (by omega)

/-- Settles O55: the three ranges bound d² below 2^32, where the bitwise search finds the floor root. -/
theorem colourDifference : Obligations.ColourDifference := by
  unfold Obligations.ColourDifference
  intro x y hx hy d n
  obtain ⟨⟨xl, xa⟩, xb⟩ := Colour.inRange_iff.1 hx
  obtain ⟨⟨yl, ya⟩, yb⟩ := Colour.inRange_iff.1 hy
  have dl : (x.l - y.l) ^ 2 ≤ 100000000 := sq_sub_le xl yl
  have da : (x.a - y.a) ^ 2 ≤ 1600000000 := sq_sub_le xa ya
  have db : (x.b - y.b) ^ 2 ≤ 1600000000 := sq_sub_le xb yb
  have nonneg : 0 ≤ d := by positivity
  have bound : d ≤ 3300000000 := by omega
  have root : n = d.toNat.sqrt := floorSqrt_eq_sqrt (by omega)
  obtain ⟨floor_le, lt_next⟩ := Nat.eq_sqrt.1 root
  have rounded : deltaE x y = roundSqrt d.toNat := congrArg roundSqrt (distSq_eq x y)
  refine ⟨dl, da, db, nonneg, bound, floor_le, lt_next, rounded, ?_, fun same => ?_⟩
  · rw [rounded]
    exact roundSqrt_le (by omega)
  · rw [rounded, same]
    rfl

end Sys2Proof.Machine
end

section
/-! The tolerances of a strip (R142). -/

namespace Sys2Proof.Machine

/-- With three quarters of the records valid the figures are computed, and they decide the result. -/
theorem judge_of_enough {targets : List Colour} {records : List PatchRecord}
    (h : targets.length * 3 ≤ (records.filter PatchRecord.ok).length * 4) (p : CheckPolicy)
    (m : Option (List (Option Colour))) :
    judge p m targets records =
      (if maxOf (targetDiffs records targets) ≤ p.absMax ∧
          absMean (targetDiffs records targets) ≤ p.absMean ∧
          (editionMax p m records).getD 0 ≤ p.editionMax then .pass else .fail,
        { absMean := some (absMean (targetDiffs records targets))
          absMax := some (maxOf (targetDiffs records targets))
          editionMax := editionMax p m records
          valid := some (records.filter PatchRecord.ok).length }) :=
  if_neg (Nat.not_lt.2 h)

/-- An absent figure is within every tolerance. -/
theorem getD_zero_le_iff {figure : Option Nat} {tolerance : Nat} :
    figure.getD 0 ≤ tolerance ↔ ∀ f, figure = some f → f ≤ tolerance := by
  cases figure <;> simp

/-- Settles O56: the judgement tests the two absolute figures and, where there is one, the edition
maximum. -/
theorem tolerances : Obligations.Tolerances := by
  unfold Obligations.Tolerances
  intro p m targets records enough
  rw [judge_of_enough enough, ← getD_zero_le_iff]
  exact ⟨_, _, rfl, rfl, ite_eq_or_eq _ _ _, by simp⟩

end Sys2Proof.Machine
end

section
/-! The invariant of the bays (R26, R31, R45, R56, R57). -/

namespace Sys2Proof.Machine

/-- Settles O7: every command keeps the bays sound, whatever the cartridge-present inputs say. -/
theorem stepKeepsBays : Obligations.StepKeepsBays :=
  fun _ _ sound ran => (step_keepsBays ran).sound sound

end Sys2Proof.Machine
end

section
/-! Every command as an event: the line it moves, the frame it brings, and what its event does (95). -/

namespace Sys2Proof.Machine

/-- A request frame with a good check: its kind, its port, its tag and its payload. -/
structure Incoming where
  kind : ReqKind
  port : Port
  tag : Byte
  payload : List Byte

/-- The frame that a request command brings. -/
def incoming? : Instr → Option Incoming
  | .submitJob p tag pl => some ⟨.submitJob, p, tag, pl⟩
  | .queryJob p tag pl => some ⟨.queryJob, p, tag, pl⟩
  | .holdJob p tag pl => some ⟨.holdJob, p, tag, pl⟩
  | .releaseJob p tag pl => some ⟨.releaseJob, p, tag, pl⟩
  | .cancelJob p tag pl => some ⟨.cancelJob, p, tag, pl⟩
  | .collectJob p tag pl => some ⟨.collectJob, p, tag, pl⟩
  | .declareDrops p tag pl => some ⟨.declareDrops, p, tag, pl⟩
  | .swathReport p tag pl => some ⟨.swathReport, p, tag, pl⟩
  | .maintReport p tag pl => some ⟨.maintReport, p, tag, pl⟩
  | .panelRequest p tag pl => some ⟨.panelRequest, p, tag, pl⟩
  | .panelDone p tag pl => some ⟨.panelDone, p, tag, pl⟩
  | .panelAbort p tag pl => some ⟨.panelAbort, p, tag, pl⟩
  | .engineStatus p tag pl => some ⟨.engineStatus, p, tag, pl⟩
  | .holdTaken p tag pl => some ⟨.holdTaken, p, tag, pl⟩
  | .declareCartridge p tag pl => some ⟨.declareCartridge, p, tag, pl⟩
  | .setChannel p tag pl => some ⟨.setChannel, p, tag, pl⟩
  | .readInk p tag pl => some ⟨.readInk, p, tag, pl⟩
  | .setBayCal p tag pl => some ⟨.setBayCal, p, tag, pl⟩
  | .setScan p tag pl => some ⟨.setScan, p, tag, pl⟩
  | .startScan p tag pl => some ⟨.startScan, p, tag, pl⟩
  | .setPower p tag pl => some ⟨.setPower, p, tag, pl⟩
  | .writePhases p tag pl => some ⟨.writePhases, p, tag, pl⟩
  | .loadPhases p tag pl => some ⟨.loadPhases, p, tag, pl⟩
  | .setClassMap p tag pl => some ⟨.setClassMap, p, tag, pl⟩
  | .mountRoll p tag pl => some ⟨.mountRoll, p, tag, pl⟩
  | .unmountRoll p tag pl => some ⟨.unmountRoll, p, tag, pl⟩
  | .setMediaType p tag pl => some ⟨.setMediaType, p, tag, pl⟩
  | .setPath p tag pl => some ⟨.setPath, p, tag, pl⟩
  | .clearCutter p tag pl => some ⟨.clearCutter, p, tag, pl⟩
  | .setReference p tag pl => some ⟨.setReference, p, tag, pl⟩
  | .setHistorySize p tag pl => some ⟨.setHistorySize, p, tag, pl⟩
  | .readHistory p tag pl => some ⟨.readHistory, p, tag, pl⟩
  | .setPrices p tag pl => some ⟨.setPrices, p, tag, pl⟩
  | .setAccount p tag pl => some ⟨.setAccount, p, tag, pl⟩
  | .readAccount p tag pl => some ⟨.readAccount, p, tag, pl⟩
  | .setTime p tag pl => some ⟨.setTime, p, tag, pl⟩
  | .setFaultPolicy p tag pl => some ⟨.setFaultPolicy, p, tag, pl⟩
  | .fetchNotices p tag pl => some ⟨.fetchNotices, p, tag, pl⟩
  | .setNoticeLevels p tag pl => some ⟨.setNoticeLevels, p, tag, pl⟩
  | .readFaults p tag pl => some ⟨.readFaults, p, tag, pl⟩
  | .clearFaults p tag pl => some ⟨.clearFaults, p, tag, pl⟩
  | _ => none

def Incoming.header (x : Incoming) : Header := requestHeader x.kind x.tag x.payload

def Incoming.request (x : Incoming) : Request :=
  { port := x.port, header := x.header, payload := x.payload }

/-- What the port does with a request frame that has come in (R167, R168). -/
def Incoming.handle (x : Incoming) (e : Ev) : Ev :=
  if Config.maxPayload < x.payload.length then answerBad x.port .malformed x.header e
  else takeFrame x.kind (takeOf x.kind) x.request e

/-- The event of a request command. -/
def Incoming.event (x : Incoming) : Ev → Ev :=
  arrive x.port x.header (x.payload.length + 6) false x.handle

/-- The expiry of a timer, within its event (log 3, log 4). -/
def expiring (due : State → Option Nat) (f : Ev → Ev) (e : Ev) : Ev :=
  match due e.st with
  | none => e
  | some d => f (e.mapClock (TimeBase.reach d))

/-- What the event of a command does, its line moved; RESET's edges and power are no events. -/
def effect : Instr → Ev → Ev
  | .badFrame p bytes =>
    requestTransfer p bytes (arrive p (headerOf bytes) bytes.length false (examineFrame p bytes))
  | .overlap p bytes => requestTransfer p bytes (arrive p (headerOf bytes) bytes.length true fun e => e)
  | .readTransfer p count => readFrom p count
  | .portReset p => resetPort p
  | .cartridgePresentRise b => seat b
  | .cartridgePresentFall b => unseat b
  | .feedStep d => feed d
  | .cutHomeFall => homeFalls
  | .cutHomeRise => homeRises
  | .patch bytes | .headEnd bytes | .headOther bytes => headBytes bytes
  | .headByteGap b => fun e => headByte b (e.mapColour fun u => { u with gathered := [] })
  | .scanIntervalExpiry => expiring (fun s => s.scan.timer) intervalExpires
  | .sampleConversion raw => convert raw
  | .scanComplete => completeScan
  | .holdAckExpiry => expiring (fun s => s.media.hold.ackTimer) ackExpires
  | .pauseExpiry => expiring (fun s => s.media.pause.map (·.due)) pauseExpires
  | .cutterTimerExpiry => expiring (fun s => s.media.cutterTimer) cutterExpires
  | .dryWaitExpiry => expiring (fun s => s.colour.dryTimer) dryExpires
  | .headTimerExpiry => expiring (fun s => s.colour.headTimer) headExpires
  | c => ((incoming? c).map Incoming.event).getD id

/-- An edge of RESET, or power, which no event takes. -/
def outOfEvents : Instr → Bool
  | .deviceReset | .resetRelease | .powerApplied => true
  | _ => false

/-- The event of a command as a whole: its line moves, its effect follows, and then the end of the
event. -/
def eventOf (c : Instr) (s : State) : State :=
  (effect c (Ev.moved (lineMoved c) s)).close.finish

theorem edge_eq (move : Pins → Pins) (f : Ev → Ev) (s : State) :
    edge move f s = if s.pins.reset then { s with pins := move s.pins }
      else (f (Ev.moved move s)).close.finish := by
  unfold edge
  split
  · rfl
  · next out => exact if_neg out

/-- While RESET is asserted a command moves its line alone; otherwise it is its event (R182). -/
theorem exec_eq (c : Instr) (s : State) (h : outOfEvents c = false) :
    exec c s = .next
      (if s.pins.reset then { s with pins := lineMoved c s.pins } else eventOf c s) := by
  cases c
  case deviceReset | resetRelease | powerApplied => cases h
  case portReset p | portResetRelease p | cartridgePresentRise b | cartridgePresentFall b | cutHomeFall |
      cutHomeRise =>
    exact congrArg Host.Outcome.next (edge_eq _ _ s)
  all_goals rfl

theorem exec_held {c : Instr} {s : State} (h : outOfEvents c = false) (held : s.pins.reset = true) :
    exec c s = .next { s with pins := lineMoved c s.pins } := by
  rw [exec_eq c s h, if_pos held]

theorem exec_run {c : Instr} {s : State} (h : outOfEvents c = false) (run : s.pins.reset = false) :
    exec c s = .next (eventOf c s) := by
  rw [exec_eq c s h, if_neg (by simp [run])]

/-- A request command is the frame of its kind. -/
theorem incoming?_command (k : ReqKind) (p : Port) (tag : Byte) (pl : List Byte) :
    incoming? (k.command p tag pl) = some ⟨k, p, tag, pl⟩ := by
  cases k <;> rfl

theorem effect_incoming {c : Instr} {x : Incoming} (h : incoming? c = some x) : effect c = x.event := by
  cases c
  all_goals first | (cases h; rfl) | cases h

theorem effect_command (k : ReqKind) (p : Port) (tag : Byte) (pl : List Byte) :
    effect (k.command p tag pl) = (⟨k, p, tag, pl⟩ : Incoming).event :=
  effect_incoming (incoming?_command k p tag pl)

theorem outOfEvents_command (k : ReqKind) (p : Port) (tag : Byte) (pl : List Byte) :
    outOfEvents (k.command p tag pl) = false := by
  cases k <;> rfl

theorem lineMoved_command (k : ReqKind) (p : Port) (tag : Byte) (pl : List Byte) (pins : Pins) :
    lineMoved (k.command p tag pl) pins = pins := by
  cases k <;> rfl

/-- The command of a request is its kind's `request`. -/
theorem exec_command (k : ReqKind) (p : Port) (tag : Byte) (pl : List Byte) (s : State) :
    exec (k.command p tag pl) s = .next (request k (takeOf k) p tag pl s) := by
  cases k <;> rfl

end Sys2Proof.Machine
end

section
/-! What an operation leaves as it is: the parts of an event outside which nothing changes. -/

namespace Sys2Proof.Machine

-- One proof after another: the stacks of many waiting threads do not fit the memory of one compile.
set_option Elab.async false

/-- The parts of an event that frames speak of. Some lie within others: the roster, the books and the wait
list within the store, the grant within the schedule, the marks within the media record. -/
inductive Part where
  | store | roster | books | waitList | bays | cals | usable | channels | reserved | short | dry
  | inkSettings | meter | drops | residues | scan | sched | grant | media | marks | hold | grip | pos
  | rolls | pathSettings | colour | history | cost | terms | dues | locked | ports | portSettings
  | clock | mono | raised | due | lost | freed
  deriving DecidableEq

/-- What an account may charge, whoever charges it (R151). -/
def Account.terms (a : Account) : Bool × Nat := (a.enabled, a.limit)

/-- A job's record without what its attempts hold. -/
def Job.book (j : Job) : Job :=
  { j with editionMatch := none, copies := j.copies.map fun c => { c with record := Attempt.fresh } }

/-- What accounts owe the open jobs (R151). -/
def Account.dues (a : Account) : Nat × Nat := (a.committed, a.openJobs)

/-- The figures of a channel that reservations rest on, with its settings. -/
def Channel.gauge (ch : Channel) : (Nat × Nat × Nat × Nat) × Nat × Bool × Bool :=
  (ch.settings, ch.reserved, ch.short, ch.dry)

/-- What a feed hold grips: its reasons, its state, and whether a pause runs (R117, R122). -/
def Media.grip (m : Media) : Reasons × HoldState × Bool := (m.hold.reasons, m.hold.state, m.pause.isSome)

/-- A part is the same in two states of an event; the history ring may grow to its size. -/
def Part.Same (e e' : Ev) : Part → Prop
  | .store => e'.st.store = e.st.store
  | .roster => e'.st.roster = e.st.roster
  | .books => mapTable (Option.map Job.book) e'.st.store.jobs =
      mapTable (Option.map Job.book) e.st.store.jobs
  | .waitList => e'.st.store.waitList = e.st.store.waitList
  | .bays => e'.st.ink.bays = e.st.ink.bays
  | .cals => mapTable Bay.cal e'.st.ink.bays = mapTable Bay.cal e.st.ink.bays
  | .usable => e'.st.ink.usable = e.st.ink.usable
  | .channels => e'.st.ink.channels = e.st.ink.channels
  | .reserved => mapTable Channel.reserved e'.st.ink.channels = mapTable Channel.reserved e.st.ink.channels
  | .short => mapTable Channel.short e'.st.ink.channels = mapTable Channel.short e.st.ink.channels
  | .dry => mapTable Channel.dry e'.st.ink.channels = mapTable Channel.dry e.st.ink.channels
  | .inkSettings => e'.st.inkSettings = e.st.inkSettings
  | .meter => e'.st.meter = e.st.meter
  | .drops => e'.st.meter.drops = e.st.meter.drops
  | .residues => e'.st.meter.residue = e.st.meter.residue
  | .scan => e'.st.scan = e.st.scan
  | .sched => e'.st.sched = e.st.sched
  | .grant => e'.st.sched.grant = e.st.sched.grant
  | .media => e'.st.media.sameButHold e.st.media
  | .marks => e'.st.media.marks = e.st.media.marks
  | .hold => (e'.st.media.hold, e'.st.media.pause) = (e.st.media.hold, e.st.media.pause)
  | .grip => e'.st.media.grip = e.st.media.grip
  | .pos => e'.st.media.pos = e.st.media.pos
  | .rolls => e'.st.media.rolls = e.st.media.rolls
  | .pathSettings => e'.st.pathSettings = e.st.pathSettings
  | .colour => e'.st.colour = e.st.colour
  | .history => e'.st.colour.histSize = e.st.colour.histSize ∧
      (e.st.colour.history.length ≤ e.st.colour.histSize →
        e'.st.colour.history.length ≤ e.st.colour.histSize)
  | .cost => e'.st.cost = e.st.cost
  | .terms => mapTable Account.terms e'.st.cost.accounts = mapTable Account.terms e.st.cost.accounts
  | .dues => mapTable Account.dues e'.st.cost.accounts = mapTable Account.dues e.st.cost.accounts
  | .locked => e'.st.locked = e.st.locked
  | .ports => e'.st.ports = e.st.ports
  | .portSettings => e'.st.portSettings = e.st.portSettings
  | .clock => e'.st.clock = e.st.clock
  | .mono => e'.st.clock.mono = e.st.clock.mono
  | .raised => e'.raised = e.raised
  | .due => e'.due = e.due
  | .lost => e'.lost = e.lost
  | .freed => e'.freed = e.freed

theorem Part.Same.refl (e : Ev) (p : Part) : p.Same e e := by
  cases p <;> simp [Part.Same, sameButHold_refl]

theorem Part.Same.trans {e f g : Ev} {p : Part} (h : p.Same e f) (k : p.Same f g) : p.Same e g := by
  cases p
  case media => exact sameButHold_trans h k
  case history =>
    obtain ⟨size, grows⟩ := h
    obtain ⟨size', grows'⟩ := k
    exact ⟨size'.trans size, fun fits => size ▸ grows' (size.symm ▸ grows fits)⟩
  all_goals exact Eq.trans k h

/-- From `e` to `e'` nothing changes outside the parts of `w`; the state that the event found, the input
lines and the queue of commands stand. -/
structure Ev.Within (w : List Part) (e e' : Ev) : Prop where
  start : e'.start = e.start
  pins : e'.st.pins = e.st.pins
  pending : e'.st.pending = e.st.pending
  same : ∀ p, p ∉ w → p.Same e e'

namespace Ev.Within

theorem refl (w : List Part) (e : Ev) : Ev.Within w e e := ⟨rfl, rfl, rfl, fun p _ => Part.Same.refl e p⟩

theorem mono {w w' : List Part} {e e' : Ev} (h : e.Within w e') (sub : ∀ p ∈ w, p ∈ w') :
    e.Within w' e' :=
  ⟨h.start, h.pins, h.pending, fun p out => h.same p fun inn => out (sub p inn)⟩

theorem trans {w : List Part} {e f g : Ev} (h : e.Within w f) (k : f.Within w g) : e.Within w g :=
  ⟨k.start.trans h.start, k.pins.trans h.pins, k.pending.trans h.pending,
    fun p out => (h.same p out).trans (k.same p out)⟩

/-- One operation after another, each within its own parts. -/
theorem comp {w w' v : List Part} {e f g : Ev} (h : e.Within w f) (k : f.Within w' g)
    (sub : ∀ p ∈ w, p ∈ v := by decide) (sub' : ∀ p ∈ w', p ∈ v := by decide) : e.Within v g :=
  (h.mono sub).trans (k.mono sub')

/-- The last operation first: it is one of those whose parts are named. -/
theorem after {w v : List Part} {e f g : Ev} (k : f.Within w g) (h : e.Within v f)
    (sub : ∀ p ∈ w, p ∈ v := by decide) : e.Within v g :=
  h.trans (k.mono sub)

/-- A walk stays within the parts of its steps. -/
theorem foldl {β : Type} {w : List Part} (f : Ev → β → Ev) (l : List β) (e : Ev)
    (step : ∀ (e : Ev) (b : β), e.Within w (f e b)) : e.Within w (l.foldl f e) :=
  foldl_keeps (fun e' => e.Within w e') f l e (fun a b h => h.trans (step a b)) (refl w e)

/-- A choice between two operations. -/
theorem ite {w : List Part} {e a b : Ev} {c : Prop} [Decidable c] (h : e.Within w a) (k : e.Within w b) :
    e.Within w (if c then a else b) := by
  split
  · exact h
  · exact k

end Ev.Within

/-! ### The updates of the records -/

/-- A change of a job that keeps what its admission fixed and the number of its copies. -/
def Job.Steady (f : Job → Job) : Prop :=
  ∀ j, (f j).fixed = j.fixed ∧ (f j).copies.length = j.copies.length

/-- A copy list whose copies change in their records alone (R2). -/
theorem map_modifyCopies {α : Type} (g : CopyRecord → α) (r : CopyRef) (f : CopyRecord → CopyRecord)
    (same : ∀ c, g (f c) = g c) (cs : List CopyRecord) : (modifyCopies r f cs).map g = cs.map g := by
  unfold modifyCopies
  split
  · rfl
  · refine List.ext_getElem? fun i => ?_
    simp only [List.getElem?_map, modifyList_get?]
    split
    · cases cs[i]? with
      | none => rfl
      | some c =>
        simp only [Option.map_some]
        split
        · rw [same]
        · rfl
    · rfl

/-- A change that keeps a job's book keeps what its admission fixed. -/
theorem Job.steady_of_book {f : Job → Job} (book : ∀ j, (f j).book = j.book) : Job.Steady f := fun j =>
  ⟨(congrArg Job.fixed (book j) :), by simpa [Job.book] using congrArg (fun k => k.copies.length) (book j)⟩

section
variable (e : Ev)

theorem mapStore_within (f : JobStore → JobStore) :
    e.Within [.store, .roster, .books, .waitList] (e.mapStore f) := by
  refine ⟨rfl, rfl, rfl, fun p out => ?_⟩
  cases p
  case store | roster | books | waitList => exact absurd (by decide) out
  case history => exact ⟨rfl, id⟩
  all_goals rfl

/-- A table of the jobs that the change of one job does not show in is as it was. -/
theorem modifyJob_table {α : Type} {g : Job → α} {f : Job → Job} (h : Nat) (same : ∀ j, g (f j) = g j) :
    mapTable (Option.map g) (e.modifyJob h f).st.store.jobs = mapTable (Option.map g) e.st.store.jobs := by
  rw [modifyJob_store]
  unfold JobStore.modifyJob
  split
  · dsimp only
    rw [mapTable_modifyAt]
    cases e.st.store.jobs[(⟨h, by assumption⟩ : Fin 32)] with
    | none => rfl
    | some j => exact congrArg some (same j)
  · rfl

theorem modifyJob_counters (f : Job → Job) (h : Nat) :
    (e.modifyJob h f).st.store.freeCopies = e.st.store.freeCopies ∧
      (e.modifyJob h f).st.store.nextSeq = e.st.store.nextSeq ∧
        (e.modifyJob h f).st.store.waitList = e.st.store.waitList := by
  rw [modifyJob_store]
  unfold JobStore.modifyJob
  split <;> exact ⟨rfl, rfl, rfl⟩

/-- The jobs' fixed fields and the lengths of their copy lists follow the change of one job. -/
theorem modifyJob_roster {f : Job → Job} (h : Nat) (steady : Job.Steady f) :
    (e.modifyJob h f).st.roster = e.st.roster := by
  obtain ⟨free, seq, _⟩ := modifyJob_counters e f h
  exact Prod.ext (modifyJob_table e h fun j => Prod.ext (steady j).1 (steady j).2) (Prod.ext free seq)

theorem modifyJob_waitList (f : Job → Job) (h : Nat) :
    (e.modifyJob h f).st.store.waitList = e.st.store.waitList := (modifyJob_counters e f h).2.2

theorem modifyJob_within {f : Job → Job} (h : Nat) (steady : Job.Steady f) :
    e.Within [.store, .books] (e.modifyJob h f) := by
  refine ⟨rfl, rfl, rfl, fun p out => ?_⟩
  cases p
  case store | books => exact absurd (by decide) out
  case roster => exact modifyJob_roster e h steady
  case waitList => exact modifyJob_waitList e f h
  case history => exact ⟨rfl, id⟩
  all_goals rfl

/-- A change of what a job's attempts hold. -/
theorem modifyRecord_within {f : Job → Job} (h : Nat) (book : ∀ j, (f j).book = j.book) :
    e.Within [.store] (e.modifyJob h f) := by
  refine ⟨rfl, rfl, rfl, fun p out => ?_⟩
  cases p
  case store => exact absurd (by decide) out
  case books => exact modifyJob_table e h book
  case roster => exact modifyJob_roster e h (Job.steady_of_book book)
  case waitList => exact modifyJob_waitList e f h
  case history => exact ⟨rfl, id⟩
  all_goals rfl

@[simp] theorem modifyCopies_length (r : CopyRef) (f : CopyRecord → CopyRecord) (cs : List CopyRecord) :
    (modifyCopies r f cs).length = cs.length := by
  unfold modifyCopies
  split <;> simp

theorem modifyCopy_within (r : CopyRef) (f : CopyRecord → CopyRecord) :
    e.Within [.store, .books] (e.modifyCopy r f) :=
  modifyJob_within e r.handle fun j => ⟨rfl, by simp⟩

theorem modifyAttempt_within (r : CopyRef) (f : Attempt → Attempt) :
    e.Within [.store] (e.modifyAttempt r f) :=
  modifyRecord_within e r.handle fun j => by
    simp only [Job.book]
    rw [map_modifyCopies]
    exact fun _ => rfl

/-- The wait list alone changes. -/
theorem mapWaitList_within (f : List (Fin 32) → List (Fin 32)) :
    e.Within [.store, .waitList] (e.mapStore fun st => { st with waitList := f st.waitList }) := by
  refine ⟨rfl, rfl, rfl, fun p out => ?_⟩
  cases p
  case store | waitList => exact absurd (by decide) out
  case history => exact ⟨rfl, id⟩
  all_goals rfl

/-- The usable volumes rest on the bays and the dead volumes (R33). -/
theorem usable_congr {i k : InkUnit} (bays : k.bays = i.bays)
    (dead : mapTable Channel.dead k.channels = mapTable Channel.dead i.channels) : k.usable = i.usable := by
  funext c
  have at_ : k.channels[c].dead = i.channels[c].dead := by
    simpa [mapTable_get] using congrArg (·[c]) dead
  simp only [InkUnit.usable, bays, at_]

/-- A change of a channel beside its gauge: its active bays, its overdraw, its low flag. -/
theorem modifySource_within {f : Channel → Channel} (c : Fin 12) (gauge : ∀ ch, (f ch).gauge = ch.gauge) :
    e.Within [.channels] (e.modifyChannel c f) := by
  have kept {α : Type} (g : Channel → α) (same : ∀ ch, g (f ch) = g ch) :
      mapTable g (e.modifyChannel c f).st.ink.channels = mapTable g e.st.ink.channels :=
    mapTable_modifyAt _ _ _ _ (same _)
  refine ⟨rfl, rfl, rfl, fun p out => ?_⟩
  cases p
  case channels => exact absurd (by decide) out
  case inkSettings =>
    have settings := kept Channel.settings fun ch => congrArg (·.1) (gauge ch)
    simp only [Part.Same, State.inkSettings, settings]
    rfl
  case usable => exact usable_congr rfl (kept Channel.dead fun ch => congrArg (·.1.1) (gauge ch))
  case reserved => exact kept Channel.reserved fun ch => congrArg (·.2.1) (gauge ch)
  case short => exact kept Channel.short fun ch => congrArg (·.2.2.1) (gauge ch)
  case dry => exact kept Channel.dry fun ch => congrArg (·.2.2.2) (gauge ch)
  case history => exact ⟨rfl, id⟩
  all_goals rfl

theorem setDry_within (c : Fin 12) (b : Bool) :
    e.Within [.channels, .dry] (e.modifyChannel c fun ch => { ch with dry := b }) := by
  have kept {α : Type} (g : Channel → α) (same : ∀ ch : Channel, g { ch with dry := b } = g ch) :
      mapTable g (e.modifyChannel c fun ch => { ch with dry := b }).st.ink.channels =
        mapTable g e.st.ink.channels := mapTable_modifyAt _ _ _ _ (same _)
  refine ⟨rfl, rfl, rfl, fun p out => ?_⟩
  cases p
  case channels | dry => exact absurd (by decide) out
  case inkSettings =>
    have settings := kept Channel.settings fun _ => rfl
    simp only [Part.Same, State.inkSettings, settings]
    rfl
  case usable => exact usable_congr rfl (kept Channel.dead fun _ => rfl)
  case reserved => exact kept Channel.reserved fun _ => rfl
  case short => exact kept Channel.short fun _ => rfl
  case history => exact ⟨rfl, id⟩
  all_goals rfl

theorem setShort_within (c : Fin 12) (b : Bool) :
    e.Within [.channels, .short] (e.modifyChannel c fun ch => { ch with short := b }) := by
  have kept {α : Type} (g : Channel → α) (same : ∀ ch : Channel, g { ch with short := b } = g ch) :
      mapTable g (e.modifyChannel c fun ch => { ch with short := b }).st.ink.channels =
        mapTable g e.st.ink.channels := mapTable_modifyAt _ _ _ _ (same _)
  refine ⟨rfl, rfl, rfl, fun p out => ?_⟩
  cases p
  case channels | short => exact absurd (by decide) out
  case inkSettings =>
    have settings := kept Channel.settings fun _ => rfl
    simp only [Part.Same, State.inkSettings, settings]
    rfl
  case usable => exact usable_congr rfl (kept Channel.dead fun _ => rfl)
  case reserved => exact kept Channel.reserved fun _ => rfl
  case dry => exact kept Channel.dry fun _ => rfl
  case history => exact ⟨rfl, id⟩
  all_goals rfl

theorem mapReserved_within (f : Fin 12 → Nat → Nat) :
    e.Within [.channels, .reserved] (e.mapInk (InkUnit.mapReserved f)) := by
  have kept {α : Type} (g : Channel → α) (same : ∀ (ch : Channel) (n : Nat), g { ch with reserved := n } = g ch) :
      mapTable g (e.st.ink.mapReserved f).channels = mapTable g e.st.ink.channels :=
    mapTable_congr fun c => by simp only [InkUnit.mapReserved, tabulate_get, same]
  refine ⟨rfl, rfl, rfl, fun p out => ?_⟩
  cases p
  case channels | reserved => exact absurd (by decide) out
  case inkSettings =>
    have settings := kept Channel.settings fun _ _ => rfl
    simp only [Part.Same, State.inkSettings, mapInk_ink, settings]
    rfl
  case usable => exact usable_congr rfl (kept Channel.dead fun _ _ => rfl)
  case short => exact kept Channel.short fun _ _ => rfl
  case dry => exact kept Channel.dry fun _ _ => rfl
  case history => exact ⟨rfl, id⟩
  all_goals rfl

/-- The bays change, and their calibrations stand. -/
theorem mapBays_within {v : Vector Bay 24} (cals : mapTable Bay.cal v = mapTable Bay.cal e.st.ink.bays) :
    e.Within [.bays, .usable] (e.mapInk fun i => { i with bays := v }) := by
  refine ⟨rfl, rfl, rfl, fun p out => ?_⟩
  cases p
  case bays | usable => exact absurd (by decide) out
  case cals => exact cals
  case inkSettings => simp only [Part.Same, State.inkSettings, mapInk_ink, mapInk_scan, cals]
  case history => exact ⟨rfl, id⟩
  all_goals rfl

/-- The bays change, and neither their calibrations nor what they contribute. -/
theorem mapBays_plain_within {v : Vector Bay 24}
    (cals : mapTable Bay.cal v = mapTable Bay.cal e.st.ink.bays)
    (usable : ∀ (b : Fin 24) (dead : Nat), v[b].usable dead = e.st.ink.bays[b].usable dead) :
    e.Within [.bays] (e.mapInk fun i => { i with bays := v }) := by
  have kept := mapBays_within e cals
  refine ⟨rfl, rfl, rfl, fun p out => ?_⟩
  by_cases u : p = .usable
  · subst u
    funext c
    simp only [InkUnit.usable, mapInk_ink, usable]
  · exact kept.same p (by simpa [u] using out)

theorem modifyBay_within {f : Bay → Bay} (b : Fin 24)
    (cal : ∀ x, (f x).cal = x.cal) : e.Within [.bays, .usable] (e.modifyBay b f) :=
  mapBays_within e (mapTable_modifyAt _ _ _ _ (cal _))

theorem modifyAccount_within {f : Account → Account} (a : Fin 32)
    (terms : ∀ x, (f x).terms = x.terms) :
    e.Within [.cost, .dues] (e.modifyAccount a f) := by
  refine ⟨rfl, rfl, rfl, fun p out => ?_⟩
  cases p
  case cost | dues => exact absurd (by decide) out
  case terms => exact mapTable_modifyAt _ _ _ _ (terms _)
  case history => exact ⟨rfl, id⟩
  all_goals rfl

/-- A charge, or the overrun flag. -/
theorem chargeAccount_within {f : Account → Account} (a : Fin 32) (terms : ∀ x, (f x).terms = x.terms)
    (dues : ∀ x, (f x).dues = x.dues) : e.Within [.cost] (e.modifyAccount a f) := by
  refine ⟨rfl, rfl, rfl, fun p out => ?_⟩
  cases p
  case cost => exact absurd (by decide) out
  case terms => exact mapTable_modifyAt _ _ _ _ (terms _)
  case dues => exact mapTable_modifyAt _ _ _ _ (dues _)
  case history => exact ⟨rfl, id⟩
  all_goals rfl

/-- The totals of charges change. -/
theorem mapTotals_within (f : CostUnit → CostUnit) (accounts : (f e.st.cost).accounts = e.st.cost.accounts)
    (prices : (f e.st.cost).prices = e.st.cost.prices) : e.Within [.cost] (e.mapCost f) := by
  refine ⟨rfl, rfl, rfl, fun p out => ?_⟩
  cases p
  case cost => exact absurd (by decide) out
  case terms | dues => simp only [Part.Same, mapCost_cost, accounts]
  case locked => simp only [Part.Same, State.locked, mapCost_cost, mapCost_colour, prices]
  case history => exact ⟨rfl, id⟩
  all_goals rfl

theorem mapScan_within {f : ScanUnit → ScanUnit} (config : (f e.st.scan).config = e.st.scan.config) :
    e.Within [.scan] (e.mapScan f) := by
  refine ⟨rfl, rfl, rfl, fun p out => ?_⟩
  cases p
  case scan => exact absurd (by decide) out
  case inkSettings => simp only [Part.Same, State.inkSettings, mapScan_scan, mapScan_ink, config]
  case history => exact ⟨rfl, id⟩
  all_goals rfl

theorem mapSched_within {f : Schedule → Schedule} (classMap : (f e.st.sched).classMap = e.st.sched.classMap)
    (staged : (f e.st.sched).staged = e.st.sched.staged) (grant : (f e.st.sched).grant = e.st.sched.grant) :
    e.Within [.sched] (e.mapSched f) := by
  refine ⟨rfl, rfl, rfl, fun p out => ?_⟩
  cases p
  case sched => exact absurd (by decide) out
  case grant => exact grant
  case pathSettings =>
    simp only [Part.Same, State.pathSettings, mapSched_sched, mapSched_media, classMap, staged]
  case history => exact ⟨rfl, id⟩
  all_goals rfl

theorem mapGrant_within {f : Schedule → Schedule} (classMap : (f e.st.sched).classMap = e.st.sched.classMap)
    (staged : (f e.st.sched).staged = e.st.sched.staged) : e.Within [.sched, .grant] (e.mapSched f) := by
  refine ⟨rfl, rfl, rfl, fun p out => ?_⟩
  cases p
  case sched | grant => exact absurd (by decide) out
  case pathSettings =>
    simp only [Part.Same, State.pathSettings, mapSched_sched, mapSched_media, classMap, staged]
  case history => exact ⟨rfl, id⟩
  all_goals rfl

/-- The drop volumes are confirmed, or no longer. -/
theorem mapMeter_within {f : Metering → Metering} (drops : (f e.st.meter).drops = e.st.meter.drops)
    (residue : (f e.st.meter).residue = e.st.meter.residue) : e.Within [.meter] (e.mapMeter f) := by
  refine ⟨rfl, rfl, rfl, fun p out => ?_⟩
  cases p
  case meter => exact absurd (by decide) out
  case drops => exact drops
  case residues => exact residue
  case history => exact ⟨rfl, id⟩
  all_goals rfl

theorem mapResidue_within (v : Vector Nat 12) :
    e.Within [.meter, .residues] (e.mapMeter fun m => { m with residue := v }) := by
  refine ⟨rfl, rfl, rfl, fun p out => ?_⟩
  cases p
  case meter | residues => exact absurd (by decide) out
  case history => exact ⟨rfl, id⟩
  all_goals rfl

/-- The cutter, the roll in path or the last answer changes. -/
theorem mapMedia_within {f : Media → Media}
    (only : f e.st.media = { e.st.media with
      rollInPath := (f e.st.media).rollInPath, lastNone := (f e.st.media).lastNone,
      cutter := (f e.st.media).cutter, cutterTimer := (f e.st.media).cutterTimer }) :
    e.Within [.media] (e.mapMedia f) := by
  refine ⟨rfl, rfl, rfl, fun p out => ?_⟩
  cases p
  case media => exact absurd (by decide) out
  case grip => exact (congrArg Media.grip only :)
  case marks | hold | pos | rolls | pathSettings =>
    simp only [Part.Same, State.pathSettings, mapMedia_media, mapMedia_sched]
    rw [only]
  case history => exact ⟨rfl, id⟩
  all_goals rfl

/-- The marks change, with the cutter, the roll in path or the last answer. -/
theorem mapMarks_within {f : Media → Media}
    (only : f e.st.media = { e.st.media with
      rollInPath := (f e.st.media).rollInPath, marks := (f e.st.media).marks,
      lastNone := (f e.st.media).lastNone, cutter := (f e.st.media).cutter,
      cutterTimer := (f e.st.media).cutterTimer }) : e.Within [.media, .marks] (e.mapMedia f) := by
  refine ⟨rfl, rfl, rfl, fun p out => ?_⟩
  cases p
  case media | marks => exact absurd (by decide) out
  case grip => exact (congrArg Media.grip only :)
  case hold | pos | rolls | pathSettings =>
    simp only [Part.Same, State.pathSettings, mapMedia_media, mapMedia_sched]
    rw [only]
  case history => exact ⟨rfl, id⟩
  all_goals rfl

/-- The feed hold or the pause changes. -/
theorem mapHold_within {f : Media → Media} (only : (f e.st.media).sameButHold e.st.media) :
    e.Within [.hold, .grip] (e.mapMedia f) := by
  refine ⟨rfl, rfl, rfl, fun p out => ?_⟩
  cases p
  case hold | grip => exact absurd (by decide) out
  case media => exact only
  case marks | pos | rolls | pathSettings =>
    simp only [Part.Same, State.pathSettings, mapMedia_media, mapMedia_sched]
    rw [only]
  case history => exact ⟨rfl, id⟩
  all_goals rfl

theorem mapPos_within (q : Pos) : e.Within [.media, .pos] (e.mapMedia fun m => { m with pos := q }) := by
  refine ⟨rfl, rfl, rfl, fun p out => ?_⟩
  cases p
  case media | pos => exact absurd (by decide) out
  case history => exact ⟨rfl, id⟩
  all_goals rfl

theorem setRoll_within (n : Fin 2) (r : Roll) : e.Within [.media, .rolls] (e.setRoll n r) := by
  refine ⟨rfl, rfl, rfl, fun p out => ?_⟩
  cases p
  case media | rolls => exact absurd (by decide) out
  case history => exact ⟨rfl, id⟩
  all_goals rfl

/-- The Colour unit changes in a service or a strip; its reference sets and its history stand. -/
theorem mapColour_within {f : ColourUnit → ColourUnit} (refs : (f e.st.colour).refs = e.st.colour.refs)
    (size : (f e.st.colour).histSize = e.st.colour.histSize)
    (grows : e.st.colour.history.length ≤ e.st.colour.histSize →
      (f e.st.colour).history.length ≤ e.st.colour.histSize) : e.Within [.colour] (e.mapColour f) := by
  refine ⟨rfl, rfl, rfl, fun p out => ?_⟩
  cases p
  case colour => exact absurd (by decide) out
  case locked => simp only [Part.Same, State.locked, mapColour_colour, mapColour_cost, refs]
  case history => exact ⟨size, grows⟩
  all_goals rfl

theorem raise_within (k : NoticeKind) (x : Subject) (d : Nat) : e.Within [.raised] (e.raise k x d) := by
  refine ⟨rfl, rfl, rfl, fun p out => ?_⟩
  cases p
  case raised => exact absurd (by decide) out
  case history => exact ⟨rfl, id⟩
  all_goals rfl

theorem mayClose_within (rs : List CopyRef) : e.Within [.due] (e.mayClose rs) := by
  refine ⟨rfl, rfl, rfl, fun p out => ?_⟩
  cases p
  case due => exact absurd (by decide) out
  case history => exact ⟨rfl, id⟩
  all_goals rfl

theorem noDue_within : e.Within [.due] { e with due := [] } := by
  refine ⟨rfl, rfl, rfl, fun p out => ?_⟩
  cases p
  case due => exact absurd (by decide) out
  case history => exact ⟨rfl, id⟩
  all_goals rfl

theorem setLost_within (b : Bool) : e.Within [.lost] { e with lost := b } := by
  refine ⟨rfl, rfl, rfl, fun p out => ?_⟩
  cases p
  case lost => exact absurd (by decide) out
  case history => exact ⟨rfl, id⟩
  all_goals rfl

theorem noteFreed_within (was : InkUnit) : e.Within [.freed] (e.noteFreed was) := by
  refine ⟨rfl, rfl, rfl, fun p out => ?_⟩
  cases p
  case freed => exact absurd (by decide) out
  case history => exact ⟨rfl, id⟩
  all_goals rfl

theorem reach_within (due : Nat) : e.Within [.clock, .mono] (e.mapClock (TimeBase.reach due)) := by
  refine ⟨rfl, rfl, rfl, fun p out => ?_⟩
  cases p
  case clock | mono => exact absurd (by decide) out
  case history => exact ⟨rfl, id⟩
  all_goals rfl

/-- A change of the three units of the ports, with their settings as they were. -/
theorem mapPorts_within {f : Ports → Ports}
    (settings : ∀ p, ((f e.st.ports).unit p).settings = (e.st.ports.unit p).settings) :
    e.Within [.ports] (e.mapPorts f) := by
  refine ⟨rfl, rfl, rfl, fun p out => ?_⟩
  cases p
  case ports => exact absurd (by decide) out
  case portSettings => exact funext settings
  case history => exact ⟨rfl, id⟩
  all_goals rfl

theorem modifyPort_within {f : PortUnit → PortUnit} (p : Port)
    (settings : (f (e.st.ports.unit p)).settings = (e.st.ports.unit p).settings) :
    e.Within [.ports] (e.modifyPort p f) :=
  mapPorts_within e fun q => by
    rw [unit_modifyUnit]
    split
    · next here => subst here; exact settings
    · rfl

end

end Sys2Proof.Machine
end

section
/-! The parts that each shared operation writes: bookings, reservations, closes, the consequences at the
end of an event (ch. 1, 2, 8). -/

namespace Sys2Proof.Machine

-- One proof after another: the stacks of many waiting threads do not fit the memory of one compile.
set_option Elab.async false

/-- What the switchover and the draws write. -/
abbrev inkParts : List Part := [.bays, .usable, .channels, .raised]

/-- What reservations and the wait list write. -/
abbrev roundParts : List Part :=
  [.store, .books, .waitList, .channels, .reserved, .short, .dry, .raised, .due, .freed]

/-- What closes, bookings, reservations and the wait list write. -/
abbrev closeParts : List Part :=
  [.store, .books, .waitList, .channels, .reserved, .short, .dry, .cost, .dues, .raised, .due, .freed]

/-- What the consequences at the end of an event write. -/
abbrev settleParts : List Part := [.hold, .grip, .lost] ++ closeParts

/-! ### Jobs that keep what their admission fixed -/

theorem Job.steady_countTerminal (cs : CopyState) : Job.Steady (Job.countTerminal cs) := by
  intro j
  cases cs <;> exact ⟨rfl, rfl⟩

theorem Job.steady_cancelPending : Job.Steady Job.cancelPending :=
  fun j => ⟨rfl, by simp [Job.cancelPending]⟩

theorem Job.steady_afterGrant : Job.Steady Job.afterGrant := by
  intro j
  unfold Job.afterGrant
  split <;> exact ⟨rfl, rfl⟩

/-- A charge leaves what the account owes the open jobs. -/
theorem Account.dues_charge (n : Nat) (a : Account) : (a.charge n).dues = a.dues := by
  simp only [Account.dues, Account.charge]

/-- A charge leaves what the account may charge. -/
theorem Account.terms_charge (n : Nat) (a : Account) : (a.charge n).terms = a.terms := by
  simp only [Account.terms, Account.charge]

section
variable (e : Ev)

/-! ### Bookings and charges -/

theorem bookAttempt_within (r : CopyRef) (cls : AttemptClass) :
    e.Within [.store, .books, .cost, .dues] (bookAttempt r cls e) := by
  unfold bookAttempt
  split
  · exact .refl _ _
  · dsimp only
    exact .after (chargeAccount_within _ _ (Account.terms_charge _) (Account.dues_charge _)) <|
      .after (modifyAccount_within _ _ fun _ => by simp only [Account.terms, Account.charge]) <|
        .after (modifyJob_within _ _ fun _ => ⟨rfl, rfl⟩) <|
          .after (modifyAttempt_within _ _ _) (.refl _ _)

theorem strayCharge_within (v : Vector Nat 12) : e.Within [.cost] (strayCharge v e) := by
  unfold strayCharge
  exact .after (mapTotals_within _ _ rfl rfl) (chargeAccount_within _ _ (Account.terms_charge _) (Account.dues_charge _))

theorem maintenanceCharge_within (v : Vector Nat 12) : e.Within [.cost] (maintenanceCharge v e) := by
  unfold maintenanceCharge
  exact .after (mapTotals_within _ _ rfl rfl) (chargeAccount_within _ _ (Account.terms_charge _) (Account.dues_charge _))

theorem evalOverrun_within (i : Fin 32) : e.Within [.cost, .raised] (evalOverrun i e) := by
  have flagged := chargeAccount_within e (f := fun x =>
    { x with overrun := overrunNow i e.st.cost.accounts[i] }) i (fun _ => rfl) fun _ => rfl
  unfold evalOverrun
  dsimp only
  split
  · exact .refl _ _
  · split
    · exact flagged.comp (raise_within _ _ _ _)
    · exact flagged.mono (by decide)

theorem settleAccounts_within : e.Within [.cost, .raised] (settleAccounts e) :=
  .foldl _ _ _ fun e i => evalOverrun_within e i

/-! ### Switchover, draws, removals, declarations -/

theorem becomeActive_within (c : Fin 12) (sd : Side) : e.Within inkParts (becomeActive c sd e) :=
  .after (modifySource_within _ _ fun _ => rfl) <| .after (modifyBay_within _ _ fun _ => rfl) (.refl _ _)

theorem becomeSpent_within (c : Fin 12) (sd : Side) : e.Within inkParts (becomeSpent c sd e) :=
  .after (modifySource_within _ _ fun _ => rfl) <| .after (modifyBay_within _ _ fun _ => rfl) (.refl _ _)

theorem switchTo_within (c : Fin 12) (sd : Side) : e.Within inkParts (switchTo c sd e) := by
  have active := (becomeActive_within e c sd).comp (v := inkParts)
    (raise_within _ .baySwitch (.bay (bayOf c sd).val) e.st.ink.bays[bayOf c sd].level)
  exact .ite (active.trans (becomeSpent_within _ c sd)) active

theorem switchIfReady_within (c : Fin 12) (sd : Side) : e.Within inkParts (switchIfReady c sd e) :=
  .ite (switchTo_within e c sd) (.refl _ _)

theorem giveUp_within (c : Fin 12) : e.Within inkParts (giveUp c e) := by
  unfold giveUp
  split
  · exact .refl _ _
  · exact .ite ((becomeSpent_within e c _).trans (switchIfReady_within _ c _)) (.refl _ _)

theorem drawFrom_within (b : Fin 24) (n : Nat) : e.Within inkParts (drawFrom b n e) :=
  .after (modifyBay_within _ b fun _ => rfl) (.refl _ _)

theorem drawActive_within (c : Fin 12) (n v : Nat) : e.Within inkParts (drawActive c n v e).2 := by
  induction n generalizing v e with
  | zero => exact .refl _ _
  | succ n ih =>
    unfold drawActive
    split
    · exact .refl _ _
    · exact ((drawFrom_within e _ _).trans (giveUp_within _ c)).trans (ih _ _)

theorem drawSpent_within (c : Fin 12) (sd : Side) (v : Nat) : e.Within inkParts (drawSpent c sd v e).2 := by
  unfold drawSpent
  dsimp only
  split
  · exact drawFrom_within e _ _
  · exact .refl _ _

theorem drawChannel_within (c : Fin 12) (v : Nat) : e.Within inkParts (drawChannel c v e) := by
  have drawn (first : Side) (x y : Nat) : e.Within inkParts
      (drawSpent c first.other y (drawSpent c first x (drawActive c 2 v e).2).2).2 :=
    .after (drawSpent_within _ c _ _) <| .after (drawSpent_within _ c _ _) (drawActive_within e c 2 v)
  unfold drawChannel
  dsimp only
  split_ifs
  · exact .refl _ _
  · exact drawn _ _ _
  · exact .after (modifySource_within _ _ fun _ => by simp only [Channel.gauge, Channel.settings]) (drawn _ _ _)

theorem drawReport_within (counts : Fin 12 → Nat × Nat × Nat) :
    e.Within (.meter :: .residues :: inkParts) (drawReport counts e) :=
  (mapResidue_within e _).comp (Ev.Within.foldl _ _ _ fun e c => drawChannel_within e c _)

theorem removeCartridge_within (b : Fin 24) : e.Within inkParts (removeCartridge b e) := by
  unfold removeCartridge
  dsimp only
  have out (f : Bay → Bay) (cal : ∀ x, (f x).cal = x.cal) : e.Within inkParts
      (((e.raise .cartridgeRemoved (.bay b.val) e.st.ink.bays[b].drawn).modifyBay b f).modifyChannel
        (channelOf b) (Channel.forget (sideOf b))) :=
    .after (modifySource_within _ _ fun _ => rfl) <| .after (modifyBay_within _ _ cal) <|
      .after (raise_within _ _ _ _) (.refl _ _)
  exact .ite (.after (switchIfReady_within _ _ _) (out _ fun _ => rfl)) (out _ fun _ => rfl)

theorem declareCartridge_within (b : Fin 24) (volume lot expiry : Nat) :
    e.Within inkParts (declareCartridge b volume lot expiry e) := by
  unfold declareCartridge
  dsimp only
  have written := (modifyBay_within e b (f := fun x =>
    { x with
      state := if expiry < e.st.clock.day then .expired else .ready
      uncertain := false
      cart := some (declared e.st.now volume lot expiry) }) fun _ => rfl).mono (w' := inkParts) (by decide)
  exact .ite (by simpa using written.trans ((becomeActive_within _ _ _).trans (giveUp_within _ _)))
    (by simpa using written)

/-! ### Flags, reservations, the wait list -/

theorem evalDry_within (c : Fin 12) : e.Within [.channels, .dry, .raised] (evalDry c e) := by
  have flagged := setDry_within e c (e.st.ink.usable c == 0)
  exact .ite (.refl _ _) (.ite (flagged.comp (raise_within _ _ _ _)) (flagged.mono (by decide)))

theorem evalLow_within (c : Fin 12) : e.Within [.channels, .raised] (evalLow c e) := by
  have flagged := modifySource_within e (f := fun x =>
    { x with low := e.st.ink.usable c < e.st.ink.channels[c].lowThreshold }) c fun _ => rfl
  exact .ite (.refl _ _) (.ite (flagged.comp (raise_within _ _ _ _)) (flagged.mono (by decide)))

theorem evalFlags_within : e.Within [.channels, .dry, .raised] (evalFlags e) :=
  .foldl _ _ _ fun e c => (evalDry_within e c).comp (evalLow_within _ c)

theorem takeReservation_within (h : Nat) (j : Job) :
    e.Within [.store, .books, .channels, .reserved] (takeReservation h j e) :=
  (mapReserved_within e _).comp (modifyJob_within _ h fun _ => ⟨rfl, rfl⟩)

theorem releaseReservation_within (h : Nat) :
    e.Within [.store, .books, .channels, .reserved, .freed] (releaseReservation h e) := by
  unfold releaseReservation
  split
  · exact .refl _ _
  · exact .after (noteFreed_within _ _) <| .after (modifyJob_within _ h fun _ => ⟨rfl, rfl⟩) <|
      .after (mapReserved_within _ _) (.refl _ _)

theorem drawdown_within (h : Nat) (v : Vector Nat 12) : 
    e.Within [.store, .books, .channels, .reserved] (drawdown h v e) := by
  unfold drawdown
  split
  · exact .refl _ _
  · exact (mapReserved_within e _).comp (modifyJob_within _ h fun _ => ⟨rfl, rfl⟩)

theorem joinWaitList_within (h : Fin 32) : e.Within [.store, .books, .waitList] (joinWaitList h e) :=
  .after (mapWaitList_within _ _) <| .after (modifyJob_within e h.val fun _ => ⟨rfl, rfl⟩) (.refl _ _)

theorem leaveWaitList_within (h : Nat) : e.Within [.store, .waitList] (leaveWaitList h e) :=
  mapWaitList_within e _

theorem walkOne_within (h : Fin 32) : e.Within roundParts (walkOne h e) := by
  unfold walkOne
  split
  · exact .refl _ _
  · exact .ite (((takeReservation_within e _ _).comp (v := roundParts) (leaveWaitList_within _ _)).comp
      (raise_within _ _ _ _)) (.refl _ _)

theorem walk_within : e.Within roundParts (walk e) :=
  .foldl _ _ _ fun e h => walkOne_within e h

theorem trimJob_within (h : Fin 32) : e.Within roundParts (trimJob h e) := by
  have released := (releaseReservation_within e h.val).mono (w' := roundParts) (by decide)
  unfold trimJob
  dsimp only
  split
  · exact released
  · exact .ite ((released.comp (v := roundParts) (joinWaitList_within _ _)).comp (raise_within _ _ _ _))
      released

theorem trim_within (n : Nat) (any : Bool) : e.Within roundParts (trim n any e).2 := by
  induction n generalizing any e with
  | zero => exact .refl _ _
  | succ n ih =>
    unfold trim
    split
    · exact .refl _ _
    · exact (trimJob_within e _).trans (ih _ _)

theorem markShort_within (c : Fin 12) : e.Within [.channels, .short, .raised] (markShort c e) :=
  .ite (.after (raise_within _ _ _ _) <| .after (setShort_within _ _ _) (.refl _ _))
    (.refl _ _)

theorem clearShort_within (c : Fin 12) : e.Within [.channels, .short] (clearShort c e) :=
  .ite (setShort_within e c _) (.refl _ _)

/-- SHORT is marked and cleared on every channel (R43). -/
def settleShort (e : Ev) : Ev :=
  (List.finRange 12).foldl (fun e c => clearShort c (markShort c e)) e

theorem settleShort_within : e.Within [.channels, .short, .raised] (settleShort e) :=
  .foldl _ _ _ fun e c => (markShort_within e c).comp (clearShort_within _ c)

/-- Flags, trimming and SHORT, and then the walk where a free volume rose (log 14, log 15). -/
theorem settleInk_eq : settleInk e =
    if (trim 32 false (evalFlags e)).1 || (settleShort (trim 32 false (evalFlags e)).2).freeRose then
      walk (settleShort (trim 32 false (evalFlags e)).2)
    else settleShort (trim 32 false (evalFlags e)).2 := rfl

theorem settleInk_within : e.Within roundParts (settleInk e) := by
  have short := ((evalFlags_within e).comp (v := roundParts) (trim_within _ 32 false)).comp (v := roundParts)
    (settleShort_within _)
  rw [settleInk_eq]
  exact .ite (short.trans (walk_within _)) short

/-! ### Closes -/

theorem closeJob_within (h : Nat) : e.Within closeParts (closeJob h e) := by
  unfold closeJob
  split
  · exact .refl _ _
  · exact .after (raise_within _ _ _ _) <| .after (modifyJob_within _ h fun _ => ⟨rfl, rfl⟩) <|
      .after (modifyAccount_within _ _ fun _ => rfl) <| .after (leaveWaitList_within _ h) <|
        .after (releaseReservation_within e h) (.refl _ _)

theorem closeJobIfDone_within (h : Nat) : e.Within closeParts (closeJobIfDone h e) := by
  unfold closeJobIfDone
  split
  · exact .refl _ _
  · exact .ite (closeJob_within e h) (.refl _ _)

theorem rejoin_within (h : Nat) : e.Within roundParts (rejoin h e) := by
  unfold rejoin
  split
  · split
    · exact .refl _ _
    · split_ifs
      · exact .refl _ _
      · exact .after (modifyJob_within e h fun _ => ⟨rfl, rfl⟩) (.refl _ _)
      · exact (takeReservation_within e h _).comp (raise_within _ _ _ _)
      · exact (joinWaitList_within e _).comp (raise_within _ _ _ _)
  · exact .refl _ _

theorem closeAttempt_within (r : CopyRef) (j : Job) (c : CopyRecord) :
    e.Within closeParts (closeAttempt r j c e) := by
  have booked (cs : CopyState) (d : Nat) : e.Within closeParts
      ((((bookAttempt r (classOf j c.record) e).modifyCopy r (CopyRecord.advance cs)).modifyJob r.handle
        (Job.countTerminal cs)).raise .copyDone (.attempt r) d) :=
    .after (raise_within _ _ _ _) <| .after (modifyJob_within _ _ (Job.steady_countTerminal cs)) <|
      .after (modifyCopy_within _ r _) <| .after (bookAttempt_within e r _) (.refl _ _)
  unfold closeAttempt
  dsimp only
  split
  · exact .after (rejoin_within _ _) (booked _ _)
  · exact (booked _ _).trans (closeJobIfDone_within _ _)

theorem closeIfReady_within (r : CopyRef) : e.Within closeParts (closeIfReady r e) := by
  unfold closeIfReady
  split
  · exact .refl _ _
  · exact .ite (closeAttempt_within e r _ _) (.refl _ _)

theorem settleCloses_within : e.Within closeParts (settleCloses e) :=
  (noDue_within e).comp (Ev.Within.foldl _ _ _ fun e r => closeIfReady_within e r)

/-! ### The hold and the pause -/

theorem syncHold_within : e.Within [.hold, .grip] (syncHold e) := mapHold_within e rfl

theorem beginPause_within : e.Within [.hold, .grip] (beginPause e) := mapHold_within e rfl

theorem endPause_within : e.Within [.store, .hold, .grip] (endPause e) := by
  unfold endPause
  split
  · exact .after (mapHold_within _ rfl) <| .after (modifyAttempt_within e _ _) (.refl _ _)
  · exact .after (mapHold_within e rfl) (.refl _ _)

theorem syncPause_within : e.Within [.store, .hold, .grip] (syncPause e) :=
  .ite (.ite (.refl _ _) ((beginPause_within e).mono (by decide)))
    (.ite (endPause_within e) (.refl _ _))

/-! ### The end of an event -/

/-- The closes, the ink and the accounts at the end of an event, before the hold and the pause. -/
def settleBooks (e : Ev) : Ev := settleAccounts (settleInk (settleCloses { e with lost := false }))

theorem settle_eq : settle e = syncPause (syncHold (settleBooks e)) := rfl

theorem settleBooks_within : Ev.Within closeParts { e with lost := false } (settleBooks e) :=
  .after (settleAccounts_within _) <| .after (settleInk_within _) (settleCloses_within _)

theorem settle_within : e.Within settleParts (settle e) := by
  rw [settle_eq]
  exact (((setLost_within e false).comp (v := settleParts) (settleBooks_within e)).comp (v := settleParts)
    (syncHold_within _)).comp (syncPause_within _)

/-- The consequences settle what an engine loss left (log 14). -/
@[simp] theorem settle_lost : (settle e).lost = false := by
  have within : Ev.Within (.hold :: .grip :: closeParts) { e with lost := false } (settle e) := by
    rw [settle_eq]
    exact .after (syncPause_within _) <| .after (syncHold_within _) <|
      (settleBooks_within e).mono (by decide)
  exact within.same .lost (by decide)

theorem close_within : e.Within settleParts e.close :=
  .ite (settle_within e) (.refl _ _)

end

end Sys2Proof.Machine
end

section
/-! The parts that the operations of the marks, of the end of printing, of the ports and of the lines
write (ch. 4 to ch. 7, ch. 9). -/

namespace Sys2Proof.Machine

-- One proof after another: the stacks of many waiting threads do not fit the memory of one compile.
set_option Elab.async false

/-- What the service of the marks writes. -/
abbrev markParts : List Part := [.store, .media, .marks, .colour, .raised, .due]

/-- What the end of printing writes. -/
abbrev endParts : List Part := [.books, .hold, .grip, .sched, .grant] ++ markParts

/-- What the settling of the marks and the consequences after it write. -/
abbrev settleMarkParts : List Part := [.media, .marks, .colour] ++ settleParts

/-- What the loss of the engine writes. -/
abbrev lossParts : List Part := .bays :: .meter :: .scan :: .lost :: endParts

/-- What a fault on a port writes, the loss of the engine included. -/
abbrev faultParts : List Part := .ports :: lossParts

section
variable (e : Ev)

/-! ### The service of a mark -/

theorem dropMeasureMark_within (r : CopyRef) : e.Within [.media, .marks] (dropMeasureMark r e) :=
  mapMarks_within e rfl

theorem reportResult_within (r : CopyRef) (res : MeasureResult) (f : Figures) :
    e.Within markParts (reportResult r res f e) :=
  .after (mayClose_within _ _) <| .after (dropMeasureMark_within _ r) <| .after (raise_within _ _ _ _) <|
    .after (mapColour_within _ rfl rfl fun _ => by
      simp [ColourUnit.clearService, ColourUnit.writeHistory, ColourUnit.dropStrip]) <|
    .after (modifyAttempt_within e r _) (.refl _ _)

theorem endDropped_within (r : CopyRef) : e.Within markParts (endDropped r e) :=
  .after (mayClose_within _ _) <| .after (dropMeasureMark_within _ r) <|
    .after (mapColour_within _ rfl rfl id) <| .after (modifyAttempt_within e r _) (.refl _ _)

theorem endExchange_within (m : Measurement) (res : MeasureResult) (f : Figures) :
    e.Within markParts (endExchange m res f e) :=
  .ite (endDropped_within e _) (reportResult_within e _ _ _)

theorem judgeExchange_within (m : Measurement) (records : List PatchRecord) :
    e.Within markParts (judgeExchange m records e) := by
  unfold judgeExchange
  split_ifs
  · exact endDropped_within e _
  · split
    · exact endDropped_within e _
    · split
      · exact endDropped_within e _
      · dsimp only
        split_ifs
        · exact .after (reportResult_within _ _ _ _) <|
            .after (modifyRecord_within e _ fun _ => rfl) (.refl _ _)
        · exact reportResult_within e _ _ _

theorem beginExchange_within (m : Measurement) : e.Within markParts (beginExchange m e) := by
  unfold beginExchange
  exact .after (mapColour_within e rfl rfl id) (.refl _ _)

theorem waitForDry_within (m : Measurement) (left : Nat) : e.Within markParts (waitForDry m left e) :=
  .after (mapColour_within e rfl rfl id) (.refl _ _)

theorem beginMeasure_within (owner : CopyRef) (mark captured : Pos) :
    e.Within markParts (beginMeasure owner mark captured e) := by
  unfold beginMeasure
  dsimp only
  refine .ite (reportResult_within e _ _ _) ?_
  split
  · exact .ite (beginExchange_within e _) (reportResult_within e _ _ _)
  · exact .ite (beginExchange_within e _)
      (.ite (waitForDry_within e _ _) (reportResult_within e _ _ _))

theorem judgeGrant_within : e.Within markParts (judgeGrant e) := by
  unfold judgeGrant
  split
  · exact .refl _ _
  · split
    · exact .ite (reportResult_within e _ _ _) (.refl _ _)
    · exact .refl _ _

theorem dropNotBegun_within (r : CopyRef) : e.Within markParts (dropNotBegun r e) :=
  .after (mayClose_within _ _) <| .after (dropMeasureMark_within _ r) <|
    .after (mapColour_within _ rfl rfl id) <| .after (modifyAttempt_within e r _) (.refl _ _)

theorem dropMeasure_within (r : CopyRef) : e.Within markParts (dropMeasure r e) := by
  unfold dropMeasure
  split
  · exact .refl _ _
  · split_ifs
    · exact .refl _ _
    · split
      · exact dropNotBegun_within e r
      · split_ifs
        · exact dropNotBegun_within e r
        · split
          · exact endDropped_within e r
          · exact .after (mapColour_within e rfl rfl id) (.refl _ _)

theorem resolveCut_within (o : CutOutcome) (m : Mark) : e.Within markParts (resolveCut o m e) :=
  .after (mayClose_within _ _) <| .after (mapMarks_within _ rfl) <|
    Ev.Within.foldl _ _ _ fun e r => .after (modifyAttempt_within e r _) (.refl _ _)

theorem startCut_within (q : Pos) : e.Within markParts (startCut q e) :=
  .after (mapMarks_within e rfl) (.refl _ _)

theorem beginService_within (m : Mark) (q : Pos) : e.Within markParts (beginService m q e) := by
  unfold beginService
  split
  · split
    · exact resolveCut_within e _ _
    · exact startCut_within e q
    · exact .refl _ _
  · split
    · exact .refl _ _
    · exact (beginMeasure_within _ _ _ _).after (.after (mapMarks_within e rfl) (.refl _ _))

theorem fireHead_within : e.Within markParts (fireHead e) :=
  .after (mapMarks_within e rfl) (.refl _ _)

theorem runHeadFrom_within (n : Nat) : e.Within markParts (runHeadFrom n e) := by
  induction n generalizing e with
  | zero => exact .refl _ _
  | succ n ih =>
    unfold runHeadFrom
    split
    · exact .refl _ _
    · split_ifs
      · exact .refl _ _
      · exact ((fireHead_within e).trans (beginService_within _ _ _)).trans (ih _)
      · exact fireHead_within e

theorem runHead_within : e.Within markParts (runHead e) := runHeadFrom_within e _

theorem serveWaiting_within (q : Pos) : e.Within markParts (serveWaiting q e) := by
  unfold serveWaiting
  split
  · exact .refl _ _
  · exact .ite (beginService_within e _ _) (.refl _ _)

theorem resolveHead_within (o : CutOutcome) : e.Within markParts (resolveHead o e) := by
  unfold resolveHead
  split
  · exact .refl _ _
  · exact .ite (resolveCut_within e _ _) (.refl _ _)

theorem settleMarks_within : e.Within settleMarkParts (settleMarks e) :=
  (runHead_within e).comp (settle_within _)

/-! ### Scan triggers -/

theorem startScan_within (k : TriggerKind) : e.Within [.scan] (startScan k e) := mapScan_within e rfl

theorem dropTrigger_within (k : TriggerKind) : e.Within [.scan, .raised] (dropTrigger k e) := by
  have flagged : e.Within [.scan, .raised] (e.mapScan fun u => { u with overlap := true }) :=
    .after (mapScan_within e rfl) (.refl _ _)
  exact .ite flagged (.after (raise_within _ _ _ _) flagged)

theorem triggerScan_within (k : TriggerKind) : e.Within [.scan, .raised] (triggerScan k e) :=
  .ite (.after (startScan_within e k) (.refl _ _)) (dropTrigger_within e k)

/-! ### The end of printing -/

theorem startDryClock_within (r : CopyRef) : e.Within [.colour] (startDryClock r e) := by
  unfold startDryClock
  exact mapColour_within e rfl rfl id

theorem withdrawMeasure_within (r : CopyRef) : e.Within markParts (withdrawMeasure r e) :=
  .ite (.after (dropMeasureMark_within _ r) <| .after (mapColour_within _ rfl rfl id) <|
    .after (modifyAttempt_within e r _) (.refl _ _)) (.refl _ _)

theorem moveTrailingCut_within (r : CopyRef) (j : Job) : e.Within markParts (moveTrailingCut r j e) := by
  unfold moveTrailingCut
  split
  · exact .refl _ _
  · split_ifs
    · exact .refl _ _
    · exact .ite (.after (modifyAttempt_within _ _ _) <| .after (mapMarks_within e rfl) (.refl _ _))
        (.after (mapMarks_within e rfl) (.refl _ _))

theorem endMarks_within (r : CopyRef) : e.Within markParts (endMarks r e) := by
  unfold endMarks
  split
  · exact .refl _ _
  · exact (withdrawMeasure_within e r).trans (moveTrailingCut_within _ r _)

theorem endPrinting_within (cause : EndCause) : e.Within endParts (endPrinting cause e) := by
  unfold endPrinting
  split
  · exact .refl _ _
  · next r _ =>
    have ended : e.Within endParts
        (((endPause e).modifyCopy r (CopyRecord.endPrinting cause e.st.now e.st.media.pos)).mapSched
          (Schedule.endPrinting cause r)) :=
      .after (mapGrant_within _ rfl rfl) <| .after (modifyCopy_within _ r _) <|
        .after (endPause_within e) (.refl _ _)
    exact .after (mayClose_within _ _) (.ite (.after (startDryClock_within _ r) ended)
      (.after (endMarks_within _ r) ended))

/-! ### The loss of the engine, and faults -/

theorem holdFallback_within : e.Within [.hold, .grip] (holdFallback e) :=
  .ite (.refl _ _) (mapHold_within e rfl)

theorem Bay.distrust_cal (b : Bay) : b.distrust.cal = b.cal := by
  unfold Bay.distrust
  split <;> rfl

/-- Distrust does not change what a bay contributes (R30, R73). -/
theorem Bay.distrust_usable (b : Bay) (dead : Nat) : b.distrust.usable dead = b.usable dead := by
  cases b with
  | mk state uncertain cart removal cal => cases state <;> rfl

theorem engineLost_within : e.Within lossParts (engineLost e) :=
  .after (setLost_within _ true) <| .after (holdFallback_within _) <| .after (runHead_within _) <|
    .after (triggerScan_within _ .desk) <|
    .after (mapBays_plain_within _ (by
      exact mapTable_congr fun b => by rw [mapTable_get, Bay.distrust_cal])
      fun b dead => by rw [mapTable_get, Bay.distrust_usable]) <|
    .after (mapMeter_within _ rfl rfl) <| .after (mapSched_within _ rfl rfl rfl) <|
    .after (endPrinting_within e .engineLost) (.refl _ _)

theorem summarise_settings (p q : Port) (k : FaultKind) (now : Nat) (ps : Ports) :
    (ps.summarise p k now).unit q = ps.unit q := by
  unfold Ports.summarise
  cases ps.summary <;> cases q <;> rfl

theorem enterFaulted_within (p : Port) (k : FaultKind) : e.Within faultParts (enterFaulted p k e) := by
  have noted : e.Within faultParts
      (((e.modifyPort p fun u => { u with state := .faulted }).mapPorts
        (Ports.summarise p k e.st.now)).raise .portFault (.port p) k.index.val) :=
    .after (raise_within _ _ _ _) <| .after (mapPorts_within _ fun q => by rw [summarise_settings]) <|
      .after (modifyPort_within e p rfl) (.refl _ _)
  exact .ite (.after (engineLost_within _) noted) noted

theorem PortUnit.note_settings (k : FaultKind) (h : Option Header) (now : Nat) (u : PortUnit) :
    (u.note k h now).settings = u.settings := by
  unfold PortUnit.note
  dsimp only
  split_ifs
  · rfl
  · split <;> rfl

theorem recordFault_within (p : Port) (k : FaultKind) (h : Option Header) :
    e.Within faultParts (recordFault p k h e) := by
  have noted : e.Within faultParts (e.modifyPort p (PortUnit.note k h e.st.now)) :=
    .after (modifyPort_within e p (PortUnit.note_settings _ _ _ _)) (.refl _ _)
  exact .ite (.refl _ _) (.ite (.after (enterFaulted_within _ p k) noted) noted)

theorem dropReply_within (p : Port) (h : Header) : e.Within faultParts (dropReply p h e) := by
  unfold dropReply
  split
  · exact .after (recordFault_within _ _ _ _) <| .after (modifyPort_within e p rfl) (.refl _ _)
  · exact .refl _ _

theorem respond_within (p : Port) (h : Header) (x : Ev × Reply) : x.1.Within [.ports] (respond p h x) :=
  modifyPort_within x.1 p rfl

theorem answerBad_within (p : Port) (k : FaultKind) (h : Header) :
    e.Within faultParts (answerBad p k h e) := by
  unfold answerBad
  dsimp only
  have first := recordFault_within e p k (some h)
  have both : e.Within faultParts (if 8 ≤ (e.st.ports.unit p).badCount + 1 then
      recordFault p .consecutiveBad (some h) (recordFault p k (some h) e)
      else recordFault p k (some h) e) :=
    .ite (.after (recordFault_within _ _ _ _) first) first
  exact .after (respond_within p h (_, _)) <| .after (modifyPort_within _ p rfl) <|
    .after (dropReply_within _ p h) both

end

end Sys2Proof.Machine
end

section
/-! The parts that each request and each command writes (9.3, 95). -/

namespace Sys2Proof.Machine

-- One proof after another: the stacks of many waiting threads do not fit the memory of one compile.
set_option Elab.async false

section
variable (e : Ev)

/-! ### Updates that write a setting -/

theorem setTypes_within {f : Media → Media}
    (only : f e.st.media = { e.st.media with
      types := (f e.st.media).types, settings := (f e.st.media).settings }) :
    e.Within [.media, .pathSettings] (e.mapMedia f) := by
  refine ⟨rfl, rfl, rfl, fun p out => ?_⟩
  cases p
  case media | pathSettings => exact absurd (by decide) out
  case grip => exact (congrArg Media.grip only :)
  case marks | hold | pos | rolls =>
    simp only [Part.Same, mapMedia_media]
    rw [only]
  case history => exact ⟨rfl, id⟩
  all_goals rfl

theorem setSched_within {f : Schedule → Schedule} (grant : (f e.st.sched).grant = e.st.sched.grant) :
    e.Within [.sched, .pathSettings] (e.mapSched f) := by
  refine ⟨rfl, rfl, rfl, fun p out => ?_⟩
  cases p
  case sched | pathSettings => exact absurd (by decide) out
  case grant => exact grant
  case history => exact ⟨rfl, id⟩
  all_goals rfl

theorem setScan_within (f : ScanUnit → ScanUnit) : e.Within [.scan, .inkSettings] (e.mapScan f) := by
  refine ⟨rfl, rfl, rfl, fun p out => ?_⟩
  cases p
  case scan | inkSettings => exact absurd (by decide) out
  case history => exact ⟨rfl, id⟩
  all_goals rfl

theorem setChannels_within (c : Fin 12) (x : ChannelSettings) :
    e.Within [.channels, .usable, .inkSettings] (e.modifyChannel c (Channel.set x)) := by
  have kept {α : Type} (g : Channel → α) (same : ∀ ch : Channel, g (ch.set x) = g ch) :
      mapTable g (e.modifyChannel c (Channel.set x)).st.ink.channels = mapTable g e.st.ink.channels :=
    mapTable_modifyAt _ _ _ _ (same _)
  refine ⟨rfl, rfl, rfl, fun p out => ?_⟩
  cases p
  case channels | usable | inkSettings => exact absurd (by decide) out
  case reserved => exact kept Channel.reserved fun _ => rfl
  case short => exact kept Channel.short fun _ => rfl
  case dry => exact kept Channel.dry fun _ => rfl
  case history => exact ⟨rfl, id⟩
  all_goals rfl

theorem setBays_within (b : Fin 24) (cal : Calibration) :
    e.Within [.bays, .cals, .inkSettings] (e.modifyBay b fun x => { x with cal := cal }) := by
  refine ⟨rfl, rfl, rfl, fun p out => ?_⟩
  cases p
  case bays | cals | inkSettings => exact absurd (by decide) out
  case usable =>
    funext c
    simp only [InkUnit.usable, modifyBay_ink, modifyAt_get]
    split_ifs <;> simp [Bay.usable, Bay.level, *]
  case history => exact ⟨rfl, id⟩
  all_goals rfl

theorem setDrops_within {f : Metering → Metering} (residue : (f e.st.meter).residue = e.st.meter.residue) :
    e.Within [.meter, .drops] (e.mapMeter f) := by
  refine ⟨rfl, rfl, rfl, fun p out => ?_⟩
  cases p
  case meter | drops => exact absurd (by decide) out
  case residues => exact residue
  case history => exact ⟨rfl, id⟩
  all_goals rfl

theorem setRefs_within {f : ColourUnit → ColourUnit} (size : (f e.st.colour).histSize = e.st.colour.histSize)
    (history : (f e.st.colour).history = e.st.colour.history) :
    e.Within [.colour, .locked] (e.mapColour f) := by
  refine ⟨rfl, rfl, rfl, fun p out => ?_⟩
  cases p
  case colour | locked => exact absurd (by decide) out
  case history =>
    simp only [Part.Same, mapColour_colour, size, history]
    exact ⟨trivial, id⟩
  all_goals rfl

theorem setHistory_within {f : ColourUnit → ColourUnit} (refs : (f e.st.colour).refs = e.st.colour.refs) :
    e.Within [.colour, .history] (e.mapColour f) := by
  refine ⟨rfl, rfl, rfl, fun p out => ?_⟩
  cases p
  case colour | history => exact absurd (by decide) out
  case locked => simp only [Part.Same, State.locked, mapColour_colour, mapColour_cost, refs]
  all_goals rfl

theorem setPrices_within {f : CostUnit → CostUnit} (accounts : (f e.st.cost).accounts = e.st.cost.accounts) :
    e.Within [.cost, .locked] (e.mapCost f) := by
  refine ⟨rfl, rfl, rfl, fun p out => ?_⟩
  cases p
  case cost | locked => exact absurd (by decide) out
  case terms | dues => simp only [Part.Same, mapCost_cost, accounts]
  case history => exact ⟨rfl, id⟩
  all_goals rfl

theorem setAccount_within {f : Account → Account} (a : Fin 32) (dues : ∀ x, (f x).dues = x.dues) :
    e.Within [.cost, .terms] (e.modifyAccount a f) := by
  refine ⟨rfl, rfl, rfl, fun p out => ?_⟩
  cases p
  case cost | terms => exact absurd (by decide) out
  case dues => exact mapTable_modifyAt _ _ _ _ (dues _)
  case history => exact ⟨rfl, id⟩
  all_goals rfl

theorem setTime_within (day ms : Nat) :
    e.Within [.clock] (e.mapClock fun t => { t with day := day, ms := ms }) := by
  refine ⟨rfl, rfl, rfl, fun p out => ?_⟩
  cases p
  case clock => exact absurd (by decide) out
  case history => exact ⟨rfl, id⟩
  all_goals rfl

theorem setPorts_within (f : Ports → Ports) : e.Within [.ports, .portSettings] (e.mapPorts f) := by
  refine ⟨rfl, rfl, rfl, fun p out => ?_⟩
  cases p
  case ports | portSettings => exact absurd (by decide) out
  case history => exact ⟨rfl, id⟩
  all_goals rfl

theorem modifyHeld_within (h : Nat) (f : Job → Job) : e.Within [.store, .roster, .books] (e.modifyJob h f) := by
  refine ⟨rfl, rfl, rfl, fun p out => ?_⟩
  cases p
  case store | roster | books => exact absurd (by decide) out
  case waitList => exact modifyJob_waitList e f h
  case history => exact ⟨rfl, id⟩
  all_goals rfl

/-- The jobs and the copy pool change, and the wait list stands. -/
theorem setJobs_within {f : JobStore → JobStore}
    (waitList : (f e.st.store).waitList = e.st.store.waitList) :
    e.Within [.store, .roster, .books] (e.mapStore f) := by
  refine ⟨rfl, rfl, rfl, fun p out => ?_⟩
  cases p
  case store | roster | books => exact absurd (by decide) out
  case waitList => exact waitList
  case history => exact ⟨rfl, id⟩
  all_goals rfl

/-- The timer of the feed hold changes alone. -/
theorem mapTimer_within {f : Media → Media} (only : (f e.st.media).sameButHold e.st.media)
    (grip : (f e.st.media).grip = e.st.media.grip) : e.Within [.hold] (e.mapMedia f) := by
  refine ⟨rfl, rfl, rfl, fun p out => ?_⟩
  by_cases g : p = .grip
  · exact g ▸ grip
  · exact (mapHold_within e only).same p (by simpa [g] using out)

/-! ### What each request writes -/

/-- What an event that ends printing or serves marks may write beside the ports. -/
abbrev workParts : List Part := [.bays, .usable, .meter, .scan, .sched, .grant] ++ settleMarkParts

end

/-- The parts that the taking of a request writes (9.3). -/
def takeParts : ReqKind → List Part
  | .submitJob => [.store, .roster, .books, .waitList, .channels, .reserved, .cost, .dues, .locked, .colour,
      .raised]
  | .holdJob | .releaseJob => [.store, .roster, .books]
  | .cancelJob => [.sched, .grant] ++ settleMarkParts
  | .declareDrops => [.meter, .drops]
  | .swathReport => [.ports, .residues] ++ workParts
  | .maintReport => [.meter, .residues, .bays, .usable] ++ settleParts
  | .panelRequest => [.sched, .grant, .scan] ++ settleMarkParts
  | .panelDone | .panelAbort | .holdTaken => .ports :: workParts
  | .collectJob => [.store, .roster, .books, .cost, .dues, .locked, .colour]
  | .declareCartridge => [.bays, .usable] ++ settleParts
  | .setChannel => [.bays, .usable, .inkSettings] ++ settleParts
  | .readInk => [.scan]
  | .setBayCal => [.bays, .cals, .inkSettings]
  | .setScan => [.scan, .inkSettings]
  | .startScan => [.scan, .raised]
  | .setPower | .loadPhases => [.sched]
  | .writePhases | .setClassMap => [.sched, .pathSettings]
  | .mountRoll | .unmountRoll => [.media, .rolls]
  | .setMediaType | .setPath => [.media, .pathSettings]
  | .clearCutter => [.media]
  | .setReference => [.colour, .locked]
  | .setHistorySize => [.colour, .history]
  | .setPrices => [.cost, .locked]
  | .setAccount => [.cost, .terms, .raised]
  | .setTime => [.clock]
  | .setFaultPolicy | .setNoticeLevels => [.ports, .portSettings]
  | .fetchNotices | .clearFaults => [.ports]
  | .queryJob | .engineStatus | .readHistory | .readAccount | .readFaults => []

section
variable (q : Request) (e : Ev) {w : List Part}

/-- An answer goes with the event that it is given in. -/
theorem Ev.Within.answer {e' : Ev} {r : Reply} (h : e.Within w e') : e.Within w (e', r).1 := h

theorem withRead_within {α : Type} {x : Option α} {f : α → Ev × Reply} (k : ∀ a, e.Within w (f a).1) :
    e.Within w (withRead x e f).1 := by
  unfold withRead
  split
  · exact .refl _ _
  · exact k _

theorem withNone_within {f : Ev × Reply} (k : e.Within w f.1) : e.Within w (withNone q e f).1 := by
  unfold withNone
  split
  · exact k
  · exact .refl _ _

theorem withJob_within {f : Fin 32 → Job → Ev × Reply} (k : ∀ h j, e.Within w (f h j).1) :
    e.Within w (withJob q e f).1 := by
  unfold withJob
  split
  · split
    · exact .refl _ _
    · split
      · exact .refl _ _
      · exact k _ _
  · exact .refl _ _

theorem ite_within {c : Prop} [Decidable c] {a b : Ev × Reply} (h : e.Within w a.1) (k : e.Within w b.1) :
    e.Within w (if c then a else b).1 := by
  split
  · exact h
  · exact k

theorem lockRefs_within (k : Option CheckPolicy) (f : Nat → Nat) :
    e.Within [.colour, .locked] (e.mapColour (ColourUnit.lockRefs k f)) :=
  setRefs_within e (by cases k <;> rfl) (by cases k <;> rfl)

theorem admitJob_within (h : Fin 32) (j : Job) :
    e.Within [.store, .roster, .books, .waitList, .channels, .reserved, .cost, .dues, .locked, .colour] (admitJob h j e) := by
  have listed : e.Within [.store, .roster, .books, .waitList, .channels, .reserved, .cost, .dues, .locked, .colour]
      ((((e.mapStore (JobStore.addJob h j)).modifyAccount j.account fun a =>
        { a with openJobs := a.openJobs + 1, committed := a.committed + j.estimateCost }).mapCost
          (CostUnit.lockPrices j.priceSet (· + 1))).mapColour (ColourUnit.lockRefs j.check (· + 1))) :=
    .after (lockRefs_within _ _ _) <|
      .after (setPrices_within _ rfl) <| .after (modifyAccount_within _ _ fun _ => rfl) <|
        .after (setJobs_within e rfl) (.refl _ _)
  exact .ite (.after (takeReservation_within _ _ _) listed) (.after (joinWaitList_within _ _) listed)

theorem takeSubmitJob_within : e.Within (takeParts .submitJob) (takeSubmitJob q e).1 := by
  refine withRead_within e fun x => ?_
  split
  · exact .refl _ _
  · refine ite_within e (.refl _ _) (ite_within e (.refl _ _) ?_)
    dsimp only
    exact .after (settleAccounts_within _) (.after (admitJob_within e _ _) (.refl _ _))

theorem setHeld_within (held : Bool) : e.Within [.store, .roster, .books] (setHeld held q e).1 :=
  withJob_within q e fun h _ => ite_within e (.refl _ _) (modifyHeld_within e h _)

theorem refsFold_within (l : List CopyRef) :
    e.Within markParts (l.foldl (fun e r => dropMeasure r e) e) :=
  .foldl _ _ _ fun e r => dropMeasure_within e r

theorem cancelJob_within (h : Fin 32) (j : Job) :
    e.Within ([.sched, .grant] ++ settleMarkParts) (cancelJob h j e) := by
  have cancelled : e.Within ([.sched, .grant] ++ settleMarkParts)
      ((leaveWaitList h.val (releaseReservation h.val
        (e.modifyJob h.val fun k => { k with cancelled := true }))).modifyJob h.val Job.cancelPending) :=
    .after (modifyJob_within _ _ Job.steady_cancelPending) <| .after (leaveWaitList_within _ _) <|
      .after (releaseReservation_within _ _) <|
        .after (modifyJob_within e _ fun _ => ⟨rfl, rfl⟩) (.refl _ _)
  have ended := Ev.Within.ite (c := e.st.jobPrints h.val = true)
    (.after (endPrinting_within _ .cancelled) cancelled) cancelled
  exact .after (closeJobIfDone_within _ _) <| .after (modifyJob_within _ _ fun _ => ⟨rfl, rfl⟩) <|
    .after (refsFold_within _ _) ended

theorem takeCancelJob_within : e.Within (takeParts .cancelJob) (takeCancelJob q e).1 := by
  refine withJob_within q e fun h j => ite_within e (.refl _ _) ?_
  dsimp only
  exact .after (settleMarks_within _) (.after (cancelJob_within e h j) (.refl _ _))

theorem takeCollectJob_within : e.Within (takeParts .collectJob) (takeCollectJob q e).1 := by
  refine withJob_within q e fun h j => ite_within e ?_ (.refl _ _)
  dsimp only
  have freed : e.Within (takeParts .collectJob)
      (((e.modifyAccount j.account fun a => { a with openJobs := a.openJobs - 1 }).mapCost
        (CostUnit.lockPrices j.priceSet (· - 1))).mapColour (ColourUnit.lockRefs j.check (· - 1))) :=
    .after (lockRefs_within _ _ _) <| .after (setPrices_within _ rfl) <|
      .after (modifyAccount_within _ _ fun _ => rfl) (.refl _ _)
  exact .after (setJobs_within _ rfl) freed

theorem takeDeclareDrops_within : e.Within (takeParts .declareDrops) (takeDeclareDrops q e).1 := by
  refine withRead_within e fun x => ite_within e (.refl _ _) ?_
  dsimp only
  exact setDrops_within e rfl

theorem assign_within (cls : SwathClass) (r : CopyRef) (v : Vector Nat 12) :
    e.Within [.store, .books, .channels, .reserved, .cost] (assign cls r v e) := by
  have consumed : e.Within [.store, .books, .channels, .reserved, .cost] (consume r v e) :=
    .after (modifyAttempt_within e _ _) (.refl _ _)
  cases cls
  case attempt => exact .after (drawdown_within _ _ _) consumed
  case ended => exact consumed
  case stray => exact .after (strayCharge_within e _) (.refl _ _)

theorem swathFaults_within (cls : SwathClass) (held : Bool) (h : Header) :
    e.Within faultParts (swathFaults cls held h e) := by
  have first : e.Within faultParts (if cls = .stray then recordFault .engine .staleRef (some h) e else e) :=
    .ite (recordFault_within e _ _ _) (.refl _ _)
  exact .ite (.after (recordFault_within _ _ _ _) first) first

theorem takeSwathReport_within : e.Within (takeParts .swathReport) (takeSwathReport q e).1 := by
  refine ite_within e ?_ (.refl _ _)
  dsimp only
  exact .after (settle_within _) <| .after (swathFaults_within _ _ _ _) <|
    .after (assign_within _ _ _ _) <| .after (drawReport_within e _) (.refl _ _)

theorem takeMaintReport_within : e.Within (takeParts .maintReport) (takeMaintReport q e).1 := by
  refine ite_within e ?_ (.refl _ _)
  dsimp only
  exact .after (settle_within _) <| .after (maintenanceCharge_within _ _) <|
    .after (drawReport_within e _) (.refl _ _)

theorem addStrip_within (r : CopyRef) (j : Job) : e.Within [.colour] (e.mapColour (ColourUnit.addStrip r j)) := by
  refine mapColour_within e ?_ ?_ ?_ <;> (unfold ColourUnit.addStrip; cases j.check)
  all_goals first | rfl | exact id

theorem grant_within (r : CopyRef) (j : Job) (roll : Fin 2) (i : Fin 32) :
    e.Within ([.books, .sched, .grant, .scan] ++ markParts) (grant r j roll i e) := by
  unfold grant
  dsimp only
  exact .after (judgeGrant_within _) <| .after (addStrip_within _ r j) <|
    .after (mapScan_within _ rfl) <| .after (mapGrant_within _ rfl rfl) <| .after (mapMarks_within _ rfl) <|
    .after (modifyJob_within _ _ Job.steady_afterGrant) <| .after (modifyCopy_within _ _ _) (.refl _ _)

theorem answerNone_within (r : NoneReasons) : e.Within [.media] (answerNone r e).1 := by
  unfold answerNone
  exact .answer _ (mapMedia_within e rfl)

theorem answerWalk_within : e.Within (takeParts .panelRequest) (answerWalk e).1 := by
  have none (r : NoneReasons) : e.Within (takeParts .panelRequest) (answerNone r e).1 :=
    .after (answerNone_within e r) (.refl _ _)
  unfold answerWalk
  split
  · exact none _
  · split
    · exact none _
    · split
      · split
        · exact none _
        · dsimp only
          exact .after (settleMarks_within _) <| .after (grant_within e _ _ _ _) (.refl _ _)
      · exact none _

theorem load_within : e.Within [.sched] (e.mapSched Schedule.load) :=
  mapSched_within e (by unfold Schedule.load; split <;> rfl) (by unfold Schedule.load; split <;> rfl)
    (by unfold Schedule.load; split <;> rfl)

theorem takePanelRequest_within : e.Within (takeParts .panelRequest) (takePanelRequest q e).1 := by
  refine withNone_within q e (ite_within e (.refl _ _) ?_)
  dsimp only
  have loaded : e.Within (takeParts .panelRequest) (e.mapSched Schedule.load) :=
    .after (load_within e) (.refl _ _)
  exact ite_within e (loaded.trans (answerWalk_within _)) (.after (answerNone_within _ _) loaded)

theorem copyEndTrigger_within : e.Within [.scan, .raised] (copyEndTrigger e) :=
  .ite (triggerScan_within e _) (.refl _ _)

theorem clearAbort_within : e.Within [.sched] (clearAbort e) := mapSched_within e rfl rfl rfl

theorem staleEnding_within : e.Within faultParts (staleEnding q e).1 := recordFault_within e _ _ _

theorem takePanelDone_within : e.Within (takeParts .panelDone) (takePanelDone q e).1 := by
  refine withRead_within e fun r => ?_
  split
  · exact .answer _ <| .after (settleMarks_within _) <| .after (copyEndTrigger_within _) <|
      .after (endPrinting_within e _) (.refl _ _)
  · exact .answer _ <| .after (clearAbort_within e) (.refl _ _)
  · exact .after (staleEnding_within q e) (.refl _ _)

theorem takePanelAbort_within : e.Within (takeParts .panelAbort) (takePanelAbort q e).1 := by
  refine withRead_within e fun r => ?_
  split
  · exact .answer _ <| .after (settleMarks_within _) <| .after (endPrinting_within e _) (.refl _ _)
  · exact .answer _ <| .after (clearAbort_within e) (.refl _ _)
  · exact .after (staleEnding_within q e) (.refl _ _)

theorem holdTaken_within : e.Within settleMarkParts (holdTaken e) :=
  .after (settleMarks_within _) <| .after (serveWaiting_within _ _) <| .after (syncPause_within _) <|
    .after (mapHold_within e rfl) (.refl _ _)

theorem takeHoldTaken_within : e.Within (takeParts .holdTaken) (takeHoldTaken q e).1 :=
  withNone_within q e <| ite_within e (.answer _ <| .after (holdTaken_within e) (.refl _ _))
    (.answer _ <| .after (recordFault_within e _ _ _) (.refl _ _))

theorem takeDeclareCartridge_within : e.Within (takeParts .declareCartridge) (takeDeclareCartridge q e).1 := by
  refine withRead_within e fun x => ?_
  split
  · exact .refl _ _
  · dsimp only
    exact .after (settle_within _) <| .after (declareCartridge_within e _ _ _ _) (.refl _ _)
  · exact .refl _ _

theorem setChannel_within (c : Fin 12) (x : ChannelSettings) :
    e.Within (.inkSettings :: inkParts) (setChannel c x e) := by
  have written : e.Within (.inkSettings :: inkParts) (e.modifyChannel c (Channel.set x)) :=
    .after (setChannels_within e c _) (.refl _ _)
  exact .ite (.after (giveUp_within _ _) written) written

theorem takeSetChannel_within : e.Within (takeParts .setChannel) (takeSetChannel q e).1 :=
  withRead_within e fun _ => .answer _ <|
    .after (settle_within _) <| .after (setChannel_within e _ _) (.refl _ _)

theorem takeSetAccount_within : e.Within (takeParts .setAccount) (takeSetAccount q e).1 := by
  refine withRead_within e fun _ => ?_
  dsimp only
  exact .after (settleAccounts_within _) <| .after (setAccount_within e _ fun _ => rfl) (.refl _ _)

theorem unmount_within (n : Fin 2) : e.Within [.media, .rolls] (unmount n e) :=
  .after (mapMedia_within _ rfl) (setRoll_within e n _)

theorem takeUnmountRoll_within : e.Within (takeParts .unmountRoll) (takeUnmountRoll q e).1 := by
  refine withRead_within e fun _ => ite_within e (.refl _ _) ?_
  split
  · exact .refl _ _
  · exact unmount_within e _

theorem takeClearCutter_within : e.Within (takeParts .clearCutter) (takeClearCutter q e).1 := by
  refine withNone_within q e ?_
  split
  · exact .refl _ _
  · refine ite_within e ?_ (.refl _ _)
    dsimp only
    exact mapMedia_within e rfl
  · exact .refl _ _

theorem setPower_within (x : Power) (printing : Bool) :
    e.Within [.sched] (e.mapSched fun _ => e.st.sched.setPower x printing) := by
  refine mapSched_within e ?_ ?_ ?_ <;>
    (unfold Schedule.setPower; split <;> [skip; split_ifs] <;> rfl)

theorem Ports.clearSummary_unit (p q : Port) (ps : Ports) : (ps.clearSummary p).unit q = ps.unit q := by
  unfold Ports.clearSummary
  split <;> cases q <;> rfl

theorem takeClearFaults_within : e.Within (takeParts .clearFaults) (takeClearFaults q e).1 :=
  withNone_within q e <| .answer _ <|
    .after (mapPorts_within _ fun p => by rw [Ports.clearSummary_unit]) <|
      .after (modifyPort_within e _ rfl) (.refl _ _)

/-- Every request writes its parts alone. -/
theorem takeOf_within (k : ReqKind) : e.Within (takeParts k) (takeOf k q e).1 := by
  cases k
  case submitJob => exact takeSubmitJob_within q e
  case queryJob => exact withJob_within q e fun _ _ => .refl _ _
  case holdJob | releaseJob => exact setHeld_within q e _
  case cancelJob => exact takeCancelJob_within q e
  case declareDrops => exact takeDeclareDrops_within q e
  case swathReport => exact takeSwathReport_within q e
  case maintReport => exact takeMaintReport_within q e
  case panelRequest => exact takePanelRequest_within q e
  case panelDone => exact takePanelDone_within q e
  case panelAbort => exact takePanelAbort_within q e
  case engineStatus | readFaults => exact withNone_within q e (.refl _ _)
  case holdTaken => exact takeHoldTaken_within q e
  case collectJob => exact takeCollectJob_within q e
  case declareCartridge => exact takeDeclareCartridge_within q e
  case setChannel => exact takeSetChannel_within q e
  case readInk => exact withNone_within q e (.answer _ (mapScan_within e rfl))
  case setBayCal => exact withRead_within e fun _ => .answer _ (setBays_within e _ _)
  case setScan => exact withRead_within e fun _ => .answer _ (setScan_within e _)
  case startScan => exact withNone_within q e (ite_within e (.answer _ (triggerScan_within e _)) (.refl _ _))
  case setPower => exact withRead_within e fun _ => by dsimp only; exact setPower_within e _ _
  case writePhases | setClassMap => exact withRead_within e fun _ => .answer _ (setSched_within e rfl)
  case loadPhases => exact withNone_within q e (.answer _ (mapSched_within e rfl rfl rfl))
  case mountRoll => exact withRead_within e fun _ => ite_within e (.refl _ _) (by dsimp only; exact setRoll_within e _ _)
  case unmountRoll => exact takeUnmountRoll_within q e
  case setMediaType | setPath => exact withRead_within e fun _ => by dsimp only; exact setTypes_within e rfl
  case clearCutter => exact takeClearCutter_within q e
  case setReference =>
    exact withRead_within e fun _ => ite_within e (by dsimp only; exact setRefs_within e rfl rfl) (.refl _ _)
  case setHistorySize => exact withRead_within e fun _ => .answer _ (setHistory_within e rfl)
  case readHistory | readAccount => exact withRead_within e fun _ => .refl _ _
  case setPrices => exact withRead_within e fun _ => ite_within e (.answer _ (setPrices_within e rfl)) (.refl _ _)
  case setAccount => exact takeSetAccount_within q e
  case setTime => exact withRead_within e fun _ => by dsimp only; exact setTime_within e _ _
  case setFaultPolicy | setNoticeLevels => exact withRead_within e fun _ => by dsimp only; exact setPorts_within e _
  case fetchNotices => exact withNone_within q e (.answer _ (modifyPort_within e _ rfl))
  case clearFaults => exact takeClearFaults_within q e

end

/-! ### What each command writes -/

section
variable (e : Ev) {w : List Part}

theorem takeFrame_within (k : ReqKind) (q : Request) :
    e.Within (faultParts ++ takeParts k) (takeFrame k (takeOf k) q e) := by
  have inFaults : ∀ {w : List Part}, (∀ p ∈ w, p ∈ faultParts) → ∀ p ∈ w, p ∈ faultParts ++ takeParts k :=
    fun sub p inn => List.mem_append_left _ (sub p inn)
  have dropped : e.Within (faultParts ++ takeParts k)
      ((dropReply q.port q.header e).modifyPort q.port fun u => { u with badCount := 0 }) :=
    .after (modifyPort_within _ _ rfl) ((dropReply_within e _ _).mono (inFaults (by decide)))
      (inFaults (by decide))
  unfold takeFrame
  dsimp only
  split
  · exact .after (respond_within _ _ (_, _)) dropped (inFaults (by decide))
  · exact .after (respond_within _ _ _) (.after (takeOf_within q _ k) dropped
      fun _ inn => List.mem_append_right _ inn) (inFaults (by decide))

theorem arrive_within (p : Port) (h : Header) (n : Nat) (discard : Bool) {go : Ev → Ev}
    (k : ∀ e : Ev, e.Within (faultParts ++ w) (go e)) :
    e.Within (faultParts ++ w) (arrive p h n discard go e) := by
  have inFaults : ∀ {v : List Part}, (∀ p ∈ v, p ∈ faultParts) → ∀ p ∈ v, p ∈ faultParts ++ w :=
    fun sub p inn => List.mem_append_left _ (sub p inn)
  have received : e.Within (faultParts ++ w) (e.modifyPort p (PortUnit.receive n)) :=
    (modifyPort_within e p rfl).mono (inFaults (by decide))
  unfold arrive
  split
  · exact .refl _ _
  · dsimp only
    split
    · exact .after (recordFault_within _ _ _ _) received (inFaults (by decide))
    · exact .ite (.after (recordFault_within _ _ _ _) received (inFaults (by decide))) (received.trans (k _))

theorem Incoming.event_within (x : Incoming) : e.Within (faultParts ++ takeParts x.kind) (x.event e) :=
  arrive_within e _ _ _ _ fun e => .ite
    ((answerBad_within e _ _ _).mono fun _ inn => List.mem_append_left _ inn)
    (takeFrame_within e x.kind x.request)

theorem readFrom_within (p : Port) (count : Nat) : e.Within [.ports] (readFrom p count e) :=
  .ite (.refl _ _) <| .after (mapPorts_within _ fun q => by cases q <;> split <;> rfl) <|
    modifyPort_within e p rfl

/-- The parts that a frame writes, by what its checks find. -/
def frameParts (bytes : List Byte) : List Part :=
  match checkFrame bytes with
  | .bad _ => []
  | .good k => takeParts k

theorem examineFrame_within (p : Port) (bytes : List Byte) :
    e.Within (faultParts ++ frameParts bytes) (examineFrame p bytes e) := by
  unfold examineFrame frameParts
  cases checkFrame bytes with
  | bad k => exact (answerBad_within e _ _ _).mono fun _ inn => List.mem_append_left _ inn
  | good k => exact takeFrame_within e _ _

theorem requestTransfer_within (p : Port) (bytes : List Byte) {go : Ev → Ev}
    (k : e.Within (faultParts ++ w) (go e)) :
    e.Within (faultParts ++ w) (requestTransfer p bytes go e) :=
  .ite k ((readFrom_within e p _).mono fun p inn => List.mem_append_left _
    ((by decide : ∀ p ∈ [Part.ports], p ∈ faultParts) p inn))

theorem resetPort_within (p : Port) : e.Within (.portSettings :: faultParts) (resetPort p e) := by
  have reset : e.Within (.portSettings :: faultParts) (e.modifyPort p (PortUnit.portReset p)) :=
    .after (setPorts_within e _) (.refl _ _)
  exact .ite (.after (setPorts_within _ _) <| .after (engineLost_within _) reset) reset

theorem seat_within (b : Fin 24) : e.Within [.bays] (seat b e) :=
  mapBays_plain_within e (mapTable_modifyAt _ _ _ _ (by split <;> rfl)) fun k dead => by
    rw [modifyAt_get]
    split
    · next h =>
      subst h
      split
      · next empty => simp only [Bay.usable, empty]
      · rfl
    · rfl

theorem unseat_within (b : Fin 24) : e.Within ([.bays, .usable] ++ settleParts) (unseat b e) :=
  .ite (.refl _ _) <| .after (settle_within _) <| .after (removeCartridge_within e b) (.refl _ _)

theorem countStep_within (d : Direction) : e.Within [.media, .pos, .rolls, .raised] (countStep d e) := by
  unfold countStep
  have moved (q : Pos) : e.Within [.media, .pos, .rolls, .raised] (e.mapMedia fun m => { m with pos := q }) :=
    .after (mapPos_within e q) (.refl _ _)
  split
  · dsimp only
    split
    · exact moved _
    · next n f _ =>
      have rolled : e.Within [.media, .pos, .rolls, .raised]
          ((e.mapMedia fun m => { m with pos := m.pos + 1 }).setRoll n f.stepped) :=
        .after (setRoll_within _ n _) (moved _)
      have low (d : Nat) := Ev.Within.ite (c := f.crossesLow = true)
        (.after (raise_within _ .rollLow (.roll n.val) d) rolled) rolled
      exact .ite (.after (raise_within _ _ _ _) (low _)) (low _)
  · dsimp only
    split
    · exact moved _
    · exact .after (setRoll_within _ _ _) (moved _)

theorem feed_within (d : Direction) :
    e.Within ([.ports, .pos, .rolls] ++ workParts) (feed d e) := by
  have counted : e.Within ([.ports, .pos, .rolls] ++ workParts) (countStep d e) :=
    .after (countStep_within e d) (.refl _ _)
  have ended := Ev.Within.ite (c := e.st.media.exhausts d = true)
    (.after (endPrinting_within _ .mediaOut) counted) counted
  have faulted (held : Bool) (f : Ev) : f.Within faultParts (feedFault held f) :=
    .ite (recordFault_within _ _ _ _) (.refl _ _)
  cases d
  · exact .after (settle_within _) <| .after (faulted _ _) <| .after (runHead_within _) ended
  · exact .after (faulted _ _) ended

theorem homeFalls_within : e.Within [.media, .raised] (homeFalls e) := by
  unfold homeFalls
  split
  · exact .after (mapMedia_within e rfl) (.refl _ _)
  · exact .after (raise_within _ _ _ _) <| .after (mapMedia_within e rfl) (.refl _ _)
  · exact .refl _ _

theorem homeRises_within : e.Within settleMarkParts (homeRises e) := by
  unfold homeRises
  split
  · exact .after (settleMarks_within _) <| .after (resolveHead_within _ _) <|
      .after (mapMedia_within e rfl) (.refl _ _)
  · exact .refl _ _

theorem examineMessage_within (g : List Byte) : e.Within settleMarkParts (examineMessage g e) := by
  unfold examineMessage
  split
  · exact .refl _ _
  · split
    · exact .refl _ _
    · split_ifs
      · exact .refl _ _
      · exact .after (settleMarks_within _) <| .after (endExchange_within e _ _ _) (.refl _ _)
      · exact .after (mapColour_within e rfl rfl id) (.refl _ _)
      · exact .after (settleMarks_within _) <| .after (judgeExchange_within e _ _) (.refl _ _)

theorem headByte_within (b : Byte) : e.Within settleMarkParts (headByte b e) :=
  .ite (.after (mapColour_within e rfl rfl id) (.refl _ _)) <|
    .after (examineMessage_within _ _) <| .after (mapColour_within e rfl rfl id) (.refl _ _)

theorem headBytes_within (bytes : List Byte) : e.Within settleMarkParts (headBytes bytes e) :=
  .foldl _ _ _ fun e b => headByte_within e b

theorem intervalExpires_within : e.Within [.scan, .raised] (intervalExpires e) := by
  have restarted : e.Within [.scan, .raised]
      (e.mapScan fun u => { u with timer := some (e.st.now + u.config.seconds * 1000) }) :=
    .after (mapScan_within e rfl) (.refl _ _)
  exact .ite (.after (triggerScan_within _ _) restarted) restarted

theorem convert_within (raw : BitVec 12) : e.Within [.scan] (convert raw e) := by
  unfold convert
  split
  · exact .refl _ _
  · split_ifs
    · exact mapScan_within e rfl
    · exact .refl _ _
    · exact .refl _ _

theorem checkBay_within (r : RunningScan) (b : Fin 24) (x : CheckCounts × Ev) :
    x.2.Within inkParts (checkBay r b x).2 := by
  have certain : x.2.Within inkParts (x.2.modifyBay b fun y => { y with uncertain := false }) :=
    .after (modifyBay_within _ b fun _ => rfl) (.refl _ _)
  unfold checkBay
  -- For any measure of the volume, stated as such (`id`): the kernel must not evaluate R74's formula.
  generalize measuredVolume = volume
  revert volume
  refine id fun volume => ?_
  dsimp only
  split
  · exact .refl _ _
  · split
    · exact certain
    · exact .after (raise_within _ _ _ _) certain
    · have written (m l : Nat) : x.2.Within inkParts
          (((x.2.modifyBay b fun y => { y with uncertain := false }).modifyBay b fun y =>
            { y with cart := y.cart.map (Cartridge.writeDown m) }).raise .writeOff (.bay b.val) l) :=
        .after (raise_within _ _ _ _) <| .after (modifyBay_within _ b fun _ => rfl) certain
      exact .ite (.after (giveUp_within _ _) (written _ _)) (written _ _)

theorem levelChecks_within (r : RunningScan) : e.Within inkParts (levelChecks r e).2 := by
  unfold levelChecks
  split
  · exact foldl_keeps (fun x : CheckCounts × Ev => e.Within inkParts x.2) _ _ _
      (fun x b kept => kept.trans (checkBay_within r b x)) (Ev.Within.refl _ e)
  · exact .refl _ _

theorem completeScan_within : e.Within ([.bays, .usable, .scan] ++ settleParts) (completeScan e) := by
  unfold completeScan
  split
  · exact .refl _ _
  · exact .ite (.refl _ _) <| .after (settle_within _) <| .after (mapScan_within _ rfl) <|
      .after (levelChecks_within e _) (.refl _ _)

theorem ackExpires_within : e.Within faultParts (ackExpires e) :=
  .after (recordFault_within _ _ _ _) <| .after (mapTimer_within e rfl rfl) (.refl _ _)

theorem exhaustPause_within : e.Within [.store, .hold, .grip] (exhaustPause e) := by
  unfold exhaustPause
  have ended : e.Within [.store, .hold, .grip] (e.mapMedia fun m => { m with pause := none }) :=
    .after (mapHold_within e rfl) (.refl _ _)
  dsimp only
  split
  · exact ended
  · exact .after (modifyAttempt_within _ _ _) ended

theorem pauseExpires_within : e.Within ([.sched, .grant] ++ settleMarkParts) (pauseExpires e) :=
  .after (settleMarks_within _) <| .after (endPrinting_within _ _) <|
    .after (exhaustPause_within e) (.refl _ _)

theorem cutterExpires_within : e.Within settleMarkParts (cutterExpires e) := by
  have stopped : e.Within settleMarkParts (e.mapMedia fun m => { m with cutterTimer := none }) :=
    .after (mapMedia_within e rfl) (.refl _ _)
  have stroke : e.Within settleMarkParts (settleMarks (resolveHead .failed
      (((e.mapMedia fun m => { m with cutterTimer := none }).mapMedia fun m =>
        { m with cutter := .fault }).raise .cutterFault .none 1))) :=
    .after (settleMarks_within _) <| .after (resolveHead_within _ _) <| .after (raise_within _ _ _ _) <|
      .after (mapMedia_within _ rfl) stopped
  unfold cutterExpires
  dsimp only
  split
  · exact stroke
  · exact stroke
  · exact stopped

theorem dryExpires_within : e.Within settleMarkParts (dryExpires e) := by
  have stopped : e.Within settleMarkParts (e.mapColour fun u => { u with dryTimer := none }) :=
    .after (mapColour_within e rfl rfl id) (.refl _ _)
  unfold dryExpires
  dsimp only
  split
  · exact stopped
  · split
    · exact .after (beginExchange_within _ _) stopped
    · exact stopped

theorem headExpires_within : e.Within settleMarkParts (headExpires e) := by
  have stopped : e.Within settleMarkParts (e.mapColour fun u => { u with headTimer := none }) :=
    .after (mapColour_within e rfl rfl id) (.refl _ _)
  unfold headExpires
  dsimp only
  split
  · exact stopped
  · split
    · exact stopped
    · exact .after (settleMarks_within _) <| .after (endExchange_within _ _ _ _) stopped

theorem expiring_within (due : State → Option Nat) {f : Ev → Ev} (k : ∀ e : Ev, e.Within w (f e)) :
    e.Within ([.clock, .mono] ++ w) (expiring due f e) := by
  unfold expiring
  split
  · exact .refl _ _
  · exact .after (k _) ((reach_within e _).mono fun _ inn => List.mem_append_left _ inn)
      fun _ inn => List.mem_append_right _ inn

end

/-- The parts that the event of a command writes before its end. -/
def effectParts : Instr → List Part
  | .badFrame _ bytes => faultParts ++ frameParts bytes
  | .overlap _ _ => faultParts
  | .readTransfer _ _ => [.ports]
  | .portReset _ => .portSettings :: faultParts
  | .cartridgePresentRise _ => [.bays]
  | .cartridgePresentFall _ => [.bays, .usable] ++ settleParts
  | .feedStep _ => [.ports, .pos, .rolls] ++ workParts
  | .cutHomeFall => [.media, .raised]
  | .cutHomeRise | .patch _ | .headEnd _ | .headOther _ | .headByteGap _ => settleMarkParts
  | .scanIntervalExpiry => [.clock, .mono] ++ [.scan, .raised]
  | .sampleConversion _ => [.scan]
  | .scanComplete => [.bays, .usable, .scan] ++ settleParts
  | .holdAckExpiry => [.clock, .mono] ++ faultParts
  | .pauseExpiry => [.clock, .mono] ++ ([.sched, .grant] ++ settleMarkParts)
  | .cutterTimerExpiry | .dryWaitExpiry | .headTimerExpiry => [.clock, .mono] ++ settleMarkParts
  | c => ((incoming? c).map fun x => faultParts ++ takeParts x.kind).getD []

theorem effect_within (c : Instr) (e : Ev) : e.Within (effectParts c) (effect c e) := by
  cases c
  case badFrame p bytes =>
    exact requestTransfer_within e p bytes (arrive_within e _ _ _ _ fun e => examineFrame_within e p bytes)
  case overlap p bytes =>
    have kept := requestTransfer_within (w := []) e p bytes
      (arrive_within e p (headerOf bytes) bytes.length true fun e => .refl _ e)
    rwa [List.append_nil] at kept
  case readTransfer p count => exact readFrom_within e p count
  case portReset p => exact resetPort_within e p
  case cartridgePresentRise b => exact seat_within e b
  case cartridgePresentFall b => exact unseat_within e b
  case feedStep d => exact feed_within e d
  case cutHomeFall => exact homeFalls_within e
  case cutHomeRise => exact homeRises_within e
  case patch bytes | headEnd bytes | headOther bytes => exact headBytes_within e bytes
  case headByteGap b =>
    have cleared : e.Within settleMarkParts (e.mapColour fun u => { u with gathered := [] }) :=
      .after (mapColour_within e rfl rfl id) (.refl _ _)
    exact cleared.trans (headByte_within _ b)
  case scanIntervalExpiry => exact expiring_within e (fun s => s.scan.timer) intervalExpires_within
  case sampleConversion raw => exact convert_within e raw
  case scanComplete => exact completeScan_within e
  case holdAckExpiry => exact expiring_within e (fun s => s.media.hold.ackTimer) ackExpires_within
  case pauseExpiry => exact expiring_within e (fun s => s.media.pause.map (·.due)) pauseExpires_within
  case cutterTimerExpiry => exact expiring_within e (fun s => s.media.cutterTimer) cutterExpires_within
  case dryWaitExpiry => exact expiring_within e (fun s => s.colour.dryTimer) dryExpires_within
  case headTimerExpiry => exact expiring_within e (fun s => s.colour.headTimer) headExpires_within
  case portResetRelease | deviceReset | resetRelease | powerApplied => exact .refl _ _
  all_goals exact Incoming.event_within e _

end Sys2Proof.Machine
end

section
/-! A step and what it may be: a command's event, a line moved under RESET, an edge of RESET, power, a
millisecond (95, 9.8, 9.9). -/

namespace Sys2Proof.Machine

-- One proof after another: the stacks of many waiting threads do not fit the memory of one compile.
set_option Elab.async false

/-! ### One step -/

/-- A property that a command and a millisecond keep, whatever commands wait, is kept by a step. -/
theorem stepKeeps_of {P : State → Prop} (pending : ∀ s rest, P s → P { s with pending := rest })
    (tick : ∀ s, P s → P s.tick) (run : ∀ c s t, P s → exec c s = .next t → P t) : StepKeeps P := by
  intro s t sound ran
  unfold step at ran
  split at ran
  · cases ran
    exact tick s sound
  · exact run _ _ t (pending s _ sound) ran

/-- The five forms of a command (R182): its event; its line alone, under RESET; the assertion and the
release of RESET; power. -/
theorem exec_cases {P : State → Prop} {c : Instr} {s t : State} (ran : exec c s = .next t)
    (event : outOfEvents c = false → s.pins.reset = false → P (eventOf c s))
    (held : outOfEvents c = false → s.pins.reset = true → P { s with pins := lineMoved c s.pins })
    (assert : c = .deviceReset → P s.enterReset) (release : c = .resetRelease → P s.releaseReset)
    (power : c = .powerApplied → P s.applyPower) : P t := by
  by_cases out : outOfEvents c = false
  · cases level : s.pins.reset with
    | false =>
      rw [exec_run out level] at ran
      cases ran
      exact event out level
    | true =>
      rw [exec_held out level] at ran
      cases ran
      exact held out level
  · cases c <;> first | exact absurd rfl out | skip
    case deviceReset => cases ran; exact assert rfl
    case resetRelease => cases ran; exact release rfl
    case powerApplied => cases ran; exact power rfl

/-- A command moves no line of RESET (00_scope.md). -/
@[simp] theorem lineMoved_reset (c : Instr) (pins : Pins) : (lineMoved c pins).reset = pins.reset := by
  cases c
  case portReset p | portResetRelease p => cases p <;> rfl
  all_goals rfl

theorem outOfEvents_eq_false {c : Instr} (assert : c ≠ .deviceReset) (release : c ≠ .resetRelease)
    (power : c ≠ .powerApplied) : outOfEvents c = false := by
  cases c <;> first | rfl | contradiction

/-! ### The event of a command -/

/-- The event of a command, before its end. -/
abbrev started (c : Instr) (s : State) : Ev := effect c (Ev.moved (lineMoved c) s)

/-- What a command's event leaves unchanged, its end included. -/
theorem closed_within (c : Instr) (s : State) :
    Ev.Within (effectParts c ++ settleParts) (Ev.moved (lineMoved c) s) (started c s).close :=
  .after (close_within _) ((effect_within c _).mono fun _ inn => List.mem_append_left _ inn)
    fun _ inn => List.mem_append_right _ inn

theorem closed_start (c : Instr) (s : State) : (started c s).close.start = s := (closed_within c s).start

/-- The end of an event touches the ports alone. -/
theorem finish_within (e : Ev) : e.Within [.ports] { e with st := e.finish } := by
  refine ⟨rfl, rfl, rfl, fun p out => ?_⟩
  cases p
  case ports => exact absurd (by decide) out
  case portSettings =>
    exact funext fun p => by
      show (e.finish.ports.unit p).settings = _
      rw [finish_unit_kept e p]
      rfl
  case history => exact ⟨rfl, id⟩
  all_goals rfl

/-- Outside the parts that a command names, and the ports, its event leaves everything as it was. -/
theorem eventOf_within (c : Instr) (s : State) :
    Ev.Within (.ports :: (effectParts c ++ settleParts)) (Ev.moved (lineMoved c) s)
      { (started c s).close with st := eventOf c s } :=
  ((closed_within c s).mono fun _ inn => List.mem_cons_of_mem _ inn).trans
    ((finish_within _).mono fun _ inn => List.mem_cons.2 (.inl (List.mem_singleton.1 inn)))

/-! ### The step, and RESET -/

/-- Settles O1: a step takes the command at the front. -/
theorem stepRunsFront : Obligations.StepRunsFront := fun _ _ _ => rfl

/-- One millisecond on the calendar: at the last of a day it carries into the day (R181). -/
theorem advance_one (t : TimeBase) (day : t.day < 65536) (ms : t.ms < 86400000) :
    t.advance 1 =
      { mono := t.mono + 1
        day := if t.ms = 86399999 then (if t.day = 65535 then 0 else t.day + 1) else t.day
        ms := if t.ms = 86399999 then 0 else t.ms + 1 } := by
  unfold TimeBase.advance Config.msPerDay
  congr 1 <;> split_ifs <;> omega

/-- Settles O2: on an empty queue a step is a tick. -/
theorem idleStepTicks : Obligations.IdleStepTicks := by
  intro s empty
  have ticks : step s = .next s.tick := by simp [step, empty]
  refine ⟨fun held => ?_, fun run day ms => ?_⟩
  · rw [ticks, State.tick, if_pos held]
  · rw [ticks, State.tick, if_neg (by simp [run]), advance_one _ day ms]

/-- While RESET is asserted no port shows a response or calls for attention, and no cut is ordered
(R182). -/
theorem silent_under_reset {t : State} (held : t.pins.reset = true) :
    (∀ p : Port, t.reply p = false ∧ t.attn p = false) ∧ t.cutGo = false := by
  simp [State.reply, State.attn, State.cutGo, held]

theorem resetHolds_holds : resetHolds := by
  intro c s held assert release power t
  have low : t.pins.reset = true := (lineMoved_reset c s.pins).trans held
  exact ⟨exec_held (outOfEvents_eq_false assert release power) held, low, silent_under_reset low⟩

theorem resetAssertedAndReleased_holds : resetAssertedAndReleased := by
  refine ⟨fun s => ⟨_, rfl, ?_⟩, fun s => ?_, fun s => ⟨_, rfl, rfl, fun c => ?_, fun b => ?_⟩⟩
  · refine ⟨rfl, rfl, rfl, rfl, rfl, rfl, rfl, rfl, rfl, rfl, fun p => ?_, ?_⟩
    · cases p <;> rfl
    · exact ⟨rfl, rfl, rfl, rfl, rfl, rfl, rfl, rfl, rfl, rfl⟩
  · rfl
  · exact Vector.getElem_replicate ..
  · exact mapTable_get _ _ b

/-- Settles O4: what RESET holds, and what its edges and power write. -/
theorem deviceReset : Obligations.DeviceReset := ⟨resetHolds_holds, resetAssertedAndReleased_holds⟩

/-! ### Orders -/

/-- Settles O5: the end of an event compares the orders with those it found; RESET's assertion, power and
a line moved under RESET change none. -/
theorem orderChangesNoted : Obligations.OrderChangesNoted := by
  intro c s t ran notRelease differs
  have noticed : ordersDiffer s t = true := (ordersDiffer_iff s t).2 (by simpa [ne_comm] using differs)
  revert noticed
  have same (u : State) (sched : u.sched = s.sched) (media : u.media = s.media)
      (noticed : ordersDiffer s u = true) : u.ports.orderChange = true := by
    rw [ordersDiffer_same s u sched media] at noticed
    cases noticed
  refine exec_cases (P := fun t => ordersDiffer s t = true → t.ports.orderChange = true) ran ?_ ?_ ?_ ?_ ?_
  · intro _ _ noticed
    rw [eventOf, finish_orderChange, closed_start]
    exact Bool.or_eq_true_iff.2 (.inr noticed)
  · exact fun _ _ => same _ rfl rfl
  · intro _ noticed
    rw [ordersDiffer, Bool.or_eq_true_iff, Bool.or_eq_true_iff, Bool.or_eq_true_iff] at noticed
    simp [State.enterReset, State.holdOrder, State.feedTo, State.printing, State.capOrder] at noticed
  · exact fun is => absurd is notRelease
  · exact fun _ => same _ rfl rfl

/-! ### Who writes what -/

/-- A part that the event of a command does not name ends as it began. -/
theorem eventOf_same (c : Instr) (s : State) {p : Part} (ports : p ≠ .ports) (settled : p ∉ settleParts)
    (out : p ∉ effectParts c) :
    p.Same (Ev.moved (lineMoved c) s) { (started c s).close with st := eventOf c s } :=
  (eventOf_within c s).same p <| by
    rw [List.mem_cons, List.mem_append]
    exact fun inn => inn.elim ports fun inn => inn.elim out settled

theorem mem_frameParts {p : Part} {bytes : List Byte} (inn : p ∈ frameParts bytes) :
    ∃ k, checkFrame bytes = .good k ∧ p ∈ takeParts k := by
  unfold frameParts at inn
  split at inn
  · cases inn
  · next k good => exact ⟨k, good, inn⟩

/-- The drop volumes are DECLARE_DROPS's. -/
theorem mem_takeParts_drops {k : ReqKind} (inn : .drops ∈ takeParts k) : k = .declareDrops := by
  cases k
  case declareDrops => rfl
  all_goals exact absurd inn (of_decide_eq_false rfl)

/-- The calibrations are SET_BAY_CAL's. -/
theorem mem_takeParts_cals {k : ReqKind} (inn : .cals ∈ takeParts k) : k = .setBayCal := by
  cases k
  case setBayCal => rfl
  all_goals exact absurd inn (of_decide_eq_false rfl)

/-- A frame that writes a part that faults do not write spells a request that writes it. -/
theorem mem_badFrame {q : Part} {p : Port} {bytes : List Byte} (inn : q ∈ effectParts (.badFrame p bytes))
    (fault : q ∉ faultParts) : ∃ k, checkFrame bytes = .good k ∧ q ∈ takeParts k :=
  (List.mem_append.1 inn).elim (fun h => absurd h fault) mem_frameParts

theorem mem_effectParts_drops {c : Instr} (inn : .drops ∈ effectParts c) :
    (∃ p tag pl, c = .declareDrops p tag pl) ∨
      ∃ p bytes, c = .badFrame p bytes ∧ checkFrame bytes = .good .declareDrops := by
  cases c
  case declareDrops p tag pl => exact .inl ⟨p, tag, pl, rfl⟩
  case badFrame p bytes =>
    obtain ⟨k, good, named⟩ := mem_badFrame inn (by decide)
    exact .inr ⟨p, bytes, rfl, mem_takeParts_drops named ▸ good⟩
  all_goals exact absurd inn (of_decide_eq_false rfl)

theorem mem_effectParts_cals {c : Instr} (inn : .cals ∈ effectParts c) :
    (∃ p tag pl, c = .setBayCal p tag pl) ∨
      ∃ p bytes, c = .badFrame p bytes ∧ checkFrame bytes = .good .setBayCal := by
  cases c
  case setBayCal p tag pl => exact .inl ⟨p, tag, pl, rfl⟩
  case badFrame p bytes =>
    obtain ⟨k, good, named⟩ := mem_badFrame inn (by decide)
    exact .inr ⟨p, bytes, rfl, mem_takeParts_cals named ▸ good⟩
  all_goals exact absurd inn (of_decide_eq_false rfl)

/-- No request moves the path or the monotonic count. -/
theorem not_mem_takeParts (k : ReqKind) : .pos ∉ takeParts k ∧ .mono ∉ takeParts k := by
  cases k <;> exact ⟨of_decide_eq_false rfl, of_decide_eq_false rfl⟩

theorem mem_effectParts_pos {c : Instr} (inn : .pos ∈ effectParts c) : ∃ d, c = .feedStep d := by
  cases c
  case feedStep d => exact ⟨d, rfl⟩
  case badFrame p bytes =>
    obtain ⟨k, _, named⟩ := mem_badFrame inn (by decide)
    exact absurd named (not_mem_takeParts k).1
  all_goals exact absurd inn (of_decide_eq_false rfl)

/-- The expiries of the six timers (R180). -/
abbrev expiries : List Instr :=
  [.scanIntervalExpiry, .holdAckExpiry, .pauseExpiry, .cutterTimerExpiry, .dryWaitExpiry, .headTimerExpiry]

theorem mem_effectParts_mono {c : Instr} (inn : .mono ∈ effectParts c) : c ∈ expiries := by
  cases c
  case badFrame p bytes =>
    obtain ⟨k, _, named⟩ := mem_badFrame inn (by decide)
    exact absurd named (not_mem_takeParts k).2
  case scanIntervalExpiry | holdAckExpiry | pauseExpiry | cutterTimerExpiry | dryWaitExpiry |
      headTimerExpiry => decide
  all_goals exact absurd inn (of_decide_eq_false rfl)

/-- An expiry sets the count to the due time, and never back (log 3). -/
theorem expiring_mono {w : List Part} (due : State → Option Nat) (f : Ev → Ev) (e : Ev)
    (k : ∀ e : Ev, e.Within w (f e)) (out : .mono ∉ w) :
    e.st.clock.mono ≤ (expiring due f e).st.clock.mono := by
  unfold expiring
  split
  · exact le_rfl
  · next d _ =>
    have same : (f (e.mapClock (TimeBase.reach d))).st.clock.mono = e.st.clock.mono + (d - e.st.clock.mono) :=
      (k _).same .mono out
    omega

/-- The count never goes back in a command's event. -/
theorem effect_mono (c : Instr) (e : Ev) : e.st.clock.mono ≤ (effect c e).st.clock.mono := by
  by_cases inn : .mono ∈ effectParts c
  · cases c
    case scanIntervalExpiry => exact expiring_mono _ _ e intervalExpires_within (by decide)
    case holdAckExpiry => exact expiring_mono _ _ e ackExpires_within (by decide)
    case pauseExpiry => exact expiring_mono _ _ e pauseExpires_within (by decide)
    case cutterTimerExpiry => exact expiring_mono _ _ e cutterExpires_within (by decide)
    case dryWaitExpiry => exact expiring_mono _ _ e dryExpires_within (by decide)
    case headTimerExpiry => exact expiring_mono _ _ e headExpires_within (by decide)
    all_goals exact absurd (mem_effectParts_mono inn) (by simp)
  · exact ((effect_within c e).same .mono inn).ge

theorem eventOf_mono (c : Instr) (s : State) : s.clock.mono ≤ (eventOf c s).clock.mono :=
  (effect_mono c (Ev.moved (lineMoved c) s)).trans_eq ((close_within _).same .mono (by decide)).symm

/-- What an event writes of the drop volumes, the position, the calibrations and the count. -/
theorem eventOf_writers (c : Instr) (s : State) :
    ((eventOf c s).meter.drops ≠ s.meter.drops → .drops ∈ effectParts c) ∧
    ((eventOf c s).media.pos ≠ s.media.pos → .pos ∈ effectParts c) ∧
    ((∃ b : Fin 24, (eventOf c s).ink.bays[b].cal ≠ s.ink.bays[b].cal) → .cals ∈ effectParts c) ∧
    ((eventOf c s).clock.mono ≠ s.clock.mono → .mono ∈ effectParts c) := by
  refine ⟨fun differs => ?_, fun differs => ?_, fun ⟨b, differs⟩ => ?_, fun differs => ?_⟩ <;>
    refine by_contra fun out => differs ?_
  · exact eventOf_same c s (p := .drops) (by decide) (by decide) out
  · exact eventOf_same c s (p := .pos) (by decide) (by decide) out
  · have same : mapTable Bay.cal (eventOf c s).ink.bays = mapTable Bay.cal s.ink.bays :=
      eventOf_same c s (p := .cals) (by decide) (by decide) out
    simpa [mapTable_get] using congrArg (·[b]) same
  · exact eventOf_same c s (p := .mono) (by decide) (by decide) out

/-- What a command that wrote a part must be, by the parts that it names. -/
structure Writers (c : Instr) (s t : State) : Prop where
  drops : t.meter.drops ≠ s.meter.drops → c = .powerApplied ∨ .drops ∈ effectParts c
  pos : t.media.pos ≠ s.media.pos → c = .resetRelease ∨ .pos ∈ effectParts c
  cals : (∃ b : Fin 24, t.ink.bays[b].cal ≠ s.ink.bays[b].cal) → c = .powerApplied ∨ .cals ∈ effectParts c
  back : t.clock.mono < s.clock.mono → c = .deviceReset ∨ c = .resetRelease
  count : t.clock.mono ≠ s.clock.mono → c = .deviceReset ∨ c = .resetRelease ∨ .mono ∈ effectParts c

theorem exec_writers {c : Instr} {s t : State} (ran : exec c s = .next t) : Writers c s t := by
  refine exec_cases (P := Writers c s) ran ?_ ?_ ?_ ?_ ?_
  · intro _ _
    obtain ⟨drops, pos, cals, count⟩ := eventOf_writers c s
    exact ⟨fun h => .inr (drops h), fun h => .inr (pos h), fun h => .inr (cals h),
      fun h => absurd h (eventOf_mono c s).not_gt, fun h => .inr (.inr (count h))⟩
  · exact fun _ _ => ⟨fun h => absurd rfl h, fun h => absurd rfl h, fun ⟨_, h⟩ => absurd rfl h,
      fun h => absurd h (lt_irrefl _), fun h => absurd rfl h⟩
  · exact fun is => ⟨fun h => absurd rfl h, fun h => absurd rfl h, fun ⟨_, h⟩ => absurd rfl h,
      fun _ => .inl is, fun _ => .inl is⟩
  · refine fun is => ⟨fun h => absurd rfl h, fun _ => .inl is, fun ⟨b, h⟩ => absurd ?_ h,
      fun _ => .inr is, fun _ => .inr (.inl is)⟩
    exact (congrArg Bay.cal (tabulate_get (fun b => Bay.atReset s.pins.present[b] s.ink.bays[b].cal) b) :)
  · exact fun is => ⟨fun _ => .inl is, fun h => absurd rfl h, fun _ => .inl is,
      fun h => absurd h (lt_irrefl _), fun h => absurd rfl h⟩

/-- Settles O6: the parts that the events name, RESET's edges and power. -/
theorem soleWriters : Obligations.SoleWriters := by
  intro c s t ran
  obtain ⟨drops, pos, cals, back, count⟩ := exec_writers ran
  exact ⟨fun h => (drops h).imp_right mem_effectParts_drops, fun h => (pos h).imp_right mem_effectParts_pos,
    fun h => (cals h).imp_right mem_effectParts_cals, back,
    fun h => (count h).imp_right (·.imp_right mem_effectParts_mono)⟩

end Sys2Proof.Machine
end

section
/-! What every transfer keeps, from what its parts keep: the fields of a port unit that a transfer moves,
faults, and the taking of requests (9.1 to 9.3, 9.6). -/

namespace Sys2Proof.Machine

-- One proof after another: the stacks of many waiting threads do not fit the memory of one compile.
set_option Elab.async false

/-- From `u` to `v` a transfer moves the transaction, the bytes sent and the counter of bad frames, which
stays below eight where it changes (R165, R167). -/
structure PortUnit.Transfers (u v : PortUnit) : Prop where
  rest : v = { u with txn := v.txn, sent := v.sent, badCount := v.badCount }
  bad : v.badCount = u.badCount ∨ v.badCount < 8

/-- A property of events that transfers, faults and the requests keep. -/
structure Tour (P : Ev → Prop) : Prop where
  transfer : ∀ (e : Ev) (p : Port) (f : PortUnit → PortUnit),
    PortUnit.Transfers (e.st.ports.unit p) (f (e.st.ports.unit p)) → P e → P (e.modifyPort p f)
  read : ∀ (e : Ev) (p : Port) (count : Nat), P e → P (readFrom p count e)
  fault : ∀ (e : Ev) (p : Port) (k : FaultKind) (h : Option Header), P e → P (recordFault p k h e)
  take : ∀ (e : Ev) (k : ReqKind) (q : Request), P e → (e.lost = true → k.servedFaulted = true) →
    e.st.portHeld q.port = false → P (takeOf k q e).1

/-! ### A port that the loss of the engine stops -/

theorem enterFaulted_lost {p : Port} {k : FaultKind} {e : Ev} (quiet : e.lost = false)
    (lost : (enterFaulted p k e).lost = true) :
    ((enterFaulted p k e).st.ports.unit p).state = .faulted := by
  unfold enterFaulted at lost ⊢
  dsimp only at lost ⊢
  split at lost
  · next engine =>
    rw [if_pos engine, (engineLost_within _).same .ports (by decide), raise_st, mapPorts_ports,
      summarise_settings, modifyPort_ports, unit_modifyUnit, if_pos rfl]
  · exact absurd lost (by simp [quiet])

theorem recordFault_lost {p : Port} {k : FaultKind} {h : Option Header} {e : Ev} (quiet : e.lost = false)
    (lost : (recordFault p k h e).lost = true) :
    ((recordFault p k h e).st.ports.unit p).state = .faulted := by
  unfold recordFault at lost ⊢
  split at lost
  · exact absurd lost (by simp [quiet])
  · next unheld =>
    rw [if_neg unheld]
    dsimp only at lost ⊢
    split at lost
    · next stops =>
      rw [if_pos stops]
      exact enterFaulted_lost quiet lost
    · exact absurd lost (by simp [quiet])

theorem dropReply_lost {p : Port} {h : Header} {e : Ev} (quiet : e.lost = false)
    (lost : (dropReply p h e).lost = true) : ((dropReply p h e).st.ports.unit p).state = .faulted := by
  unfold dropReply at lost ⊢
  split at lost
  · exact recordFault_lost quiet lost
  · exact absurd lost (by simp [quiet])

/-- A FAULTED port lets two kinds pass (R168). -/
theorem servedFaulted_of_portRefusal {k : ReqKind} {p : Port} {u : PortUnit}
    (passes : portRefusal k p u = none) (faulted : u.state = .faulted) : k.servedFaulted = true := by
  unfold portRefusal at passes
  split_ifs at passes with unserved stopped
  simpa [faulted] using stopped

/-! ### Frames -/

namespace Tour

variable {P : Ev → Prop} (T : Tour P) {e : Ev}

include T

theorem respond (p : Port) (h : Header) (x : Ev × Reply) (sound : P x.1) : P (respond p h x) :=
  T.transfer _ _ _ ⟨rfl, .inl rfl⟩ sound

theorem dropReply (p : Port) (h : Header) (sound : P e) : P (dropReply p h e) := by
  unfold Machine.dropReply
  split
  · exact T.fault _ _ _ _ (T.transfer _ _ _ ⟨rfl, .inl rfl⟩ sound)
  · exact sound

theorem takeFrame (k : ReqKind) (q : Request) (sound : P e) (quiet : e.lost = false)
    (free : e.st.portHeld q.port = false) : P (takeFrame k (takeOf k) q e) := by
  have dropped := T.transfer _ q.port (fun u => { u with badCount := 0 }) ⟨rfl, .inr (Nat.zero_lt_succ 7)⟩
    (T.dropReply q.port q.header sound)
  unfold Machine.takeFrame
  dsimp only
  split
  · exact T.respond _ _ _ dropped
  · next passes =>
    refine T.respond _ _ _ (T.take _ k q dropped (fun lost => ?_) ?_)
    · refine servedFaulted_of_portRefusal passes ?_
      rw [modifyPort_ports, unit_modifyUnit, if_pos rfl]
      exact dropReply_lost quiet lost
    · exact (congrArg (Pins.portReset · q.port) (dropReply_within e q.port q.header).pins :).trans free

theorem answerBad (p : Port) (k : FaultKind) (h : Header) (sound : P e) : P (answerBad p k h e) := by
  have first := T.fault e p k (some h) sound
  have both : P (if 8 ≤ (e.st.ports.unit p).badCount + 1 then
      recordFault p .consecutiveBad (some h) (recordFault p k (some h) e)
      else recordFault p k (some h) e) := by
    split
    · exact T.fault _ _ _ _ first
    · exact first
  refine T.respond _ _ _ (T.transfer _ _ _ ⟨rfl, .inr ?_⟩ (T.dropReply _ _ both))
  dsimp only
  split <;> omega

theorem arrive (p : Port) (h : Header) (n : Nat) (discard : Bool) {go : Ev → Ev} (sound : P e)
    (quiet : e.lost = false) 
    (k : ∀ e : Ev, P e → e.lost = false → e.st.portHeld p = false → P (go e)) :
    P (arrive p h n discard go e) := by
  have received := T.transfer e p (PortUnit.receive n) ⟨rfl, .inl rfl⟩ sound
  unfold Machine.arrive
  split
  · exact sound
  · next free =>
    dsimp only
    split
    · exact T.fault _ _ _ _ received
    · split
      · exact T.fault _ _ _ _ received
      · exact k _ received quiet (Bool.eq_false_iff.2 free)

theorem request (x : Incoming) (sound : P e) (quiet : e.lost = false) : P (x.event e) :=
  T.arrive _ _ _ _ sound quiet fun e sound quiet free => by
    unfold Incoming.handle
    split
    · exact T.answerBad _ _ _ sound
    · exact T.takeFrame _ _ sound quiet free

theorem examineFrame (p : Port) (bytes : List Byte) (sound : P e) (quiet : e.lost = false)
    (free : e.st.portHeld p = false) : P (examineFrame p bytes e) := by
  unfold Machine.examineFrame
  split
  · exact T.answerBad _ _ _ sound
  · exact T.takeFrame _ _ sound quiet free

theorem badFrame (p : Port) (bytes : List Byte) (sound : P e) (quiet : e.lost = false) :
    P (effect (.badFrame p bytes) e) := by
  show P (requestTransfer _ _ _ _)
  unfold requestTransfer
  split
  · exact T.arrive _ _ _ _ sound quiet fun e sound quiet free =>
      T.examineFrame p bytes sound quiet free
  · exact T.read _ _ _ sound

theorem overlap (p : Port) (bytes : List Byte) (sound : P e) (quiet : e.lost = false) :
    P (effect (.overlap p bytes) e) := by
  show P (requestTransfer _ _ _ _)
  unfold requestTransfer
  split
  · exact T.arrive _ _ _ _ sound quiet fun e sound _ _ => sound
  · exact T.read _ _ _ sound

end Tour

/-- The commands that are transfers of a port. -/
def isTransfer : Instr → Bool
  | .badFrame _ _ | .overlap _ _ | .readTransfer _ _ => true
  | c => (incoming? c).isSome

/-- What transfers keep and the other commands keep, every command keeps. -/
theorem Tour.effect {P : Ev → Prop} (T : Tour P) (c : Instr) (e : Ev)
    (own : isTransfer c = false → P e → P (effect c e)) (sound : P e) (quiet : e.lost = false) :
    P (effect c e) := by
  cases frame : incoming? c with
  | some x =>
    rw [effect_incoming frame]
    exact T.request x sound quiet
  | none =>
    cases c
    case badFrame p bytes => exact T.badFrame p bytes sound quiet
    case overlap p bytes => exact T.overlap p bytes sound quiet
    case readTransfer p count => exact T.read e p count sound
    all_goals first | exact own rfl sound | cases frame

/-! ### Properties of parts -/

/-- A property that rests on some parts of an event. -/
def Rests (w : List Part) (P : Ev → Prop) : Prop :=
  ∀ e e' : Ev, (∀ p ∈ w, p.Same e e') → P e → P e'

theorem Rests.within {w v : List Part} {P : Ev → Prop} (R : Rests w P) {e e' : Ev} (h : e.Within v e')
    (sound : P e) (free : ∀ p ∈ w, p ∉ v := by decide) : P e' :=
  R e e' (fun p inn => h.same p (free p inn)) sound

theorem PortUnit.Transfers.settings {u v : PortUnit} (h : u.Transfers v) : v.settings = u.settings := by
  rw [h.rest]
  rfl

/-- Transfers and faults do not reach the property; the requests that write its parts keep it. -/
theorem Rests.tour {w : List Part} {P : Ev → Prop} (R : Rests w P) (free : ∀ p ∈ w, p ∉ faultParts)
    (take : ∀ (e : Ev) (k : ReqKind) (q : Request), ¬ (∀ p ∈ w, p ∉ takeParts k) → P e →
      P (takeOf k q e).1) : Tour P where
  transfer e p f moved sound :=
    R.within (modifyPort_within e p moved.settings) sound fun p inn at_ => free p inn
      (by rw [List.mem_singleton.1 at_]; decide)
  read e p count sound :=
    R.within (readFrom_within e p count) sound fun p inn at_ => free p inn
      (by rw [List.mem_singleton.1 at_]; decide)
  fault e p k h sound := R.within (recordFault_within e p k h) sound free
  take e k q sound _ _ := by
    by_cases out : ∀ p ∈ w, p ∉ takeParts k
    · exact R.within (takeOf_within q e k) sound out
    · exact take e k q out sound

/-! ### Requests, by what their operands read -/

section
variable {P : Ev → Prop} {e : Ev} (sound : P e)

include sound

theorem withRead_keeps {α : Type} {x : Option α} {f : α → Ev × Reply} (k : ∀ a, x = some a → P (f a).1) :
    P (withRead x e f).1 := by
  unfold withRead
  split
  · exact sound
  · exact k _ rfl

theorem withNone_keeps {q : Request} {f : Ev × Reply} (k : P f.1) : P (withNone q e f).1 := by
  unfold withNone
  split
  · exact k
  · exact sound

theorem withJob_keeps {q : Request} {f : Fin 32 → Job → Ev × Reply}
    (k : ∀ h j, e.st.store.jobs[h] = some j → P (f h j).1) : P (withJob q e f).1 := by
  unfold withJob
  split
  · split
    · exact sound
    · split
      · exact sound
      · next open_ => exact k _ _ open_
  · exact sound

end

/-! ### Steps -/

/-- A property of states that does not look at the ports, the waiting commands, or the input lines but
RESET's, is kept by the end of an event. -/
theorem keeps_of_tour {P : Ev → Prop} {Q : State → Prop} (T : Tour P)
    (own : ∀ c e, isTransfer c = false → P e → P (Machine.effect c e))
    (start : ∀ c s, s.pins.reset = false → Q s → P (Ev.moved (lineMoved c) s))
    (finish : ∀ e, P e → Q e.close.finish) (c : Instr) (s : State) (run : s.pins.reset = false)
    (sound : Q s) : Q (eventOf c s) :=
  finish _ (T.effect c _ (own c _) (start c s run sound) rfl)

end Sys2Proof.Machine
end

section
/-! The copy pool: records held and records free always number 1,024 (R2). -/

namespace Sys2Proof.Machine

-- One proof after another: the stacks of many waiting threads do not fit the memory of one compile.
set_option Elab.async false

/-- Two sums that differ in one summand. -/
theorem sumOver_change {n : Nat} {f g : Fin n → Nat} (i : Fin n) (same : ∀ j, j ≠ i → f j = g j) :
    sumOver n f + g i = sumOver n g + f i := by
  have rest : ∑ j ∈ Finset.univ.erase i, f j = ∑ j ∈ Finset.univ.erase i, g j :=
    Finset.sum_congr rfl fun j out => same j (Finset.ne_of_mem_erase out)
  have left := Finset.add_sum_erase _ f (Finset.mem_univ i)
  have right := Finset.add_sum_erase _ g (Finset.mem_univ i)
  rw [sumOver_eq_sum, sumOver_eq_sum]
  omega

/-- The copy records that an entry of the job table holds. -/
def heldBy (x : Option Job) : Nat := (x.map fun j => j.copies.length).getD 0

theorem copiesHeld_eq (s : State) : s.copiesHeld = sumOver 32 fun h => heldBy s.store.jobs[h] := rfl

/-- The copy records held when one entry of the table is written. -/
theorem copiesHeld_set (s t : State) (h : Fin 32) (x : Option Job)
    (jobs : t.store.jobs = s.store.jobs.set h.val x h.isLt) :
    t.copiesHeld + heldBy s.store.jobs[h] = s.copiesHeld + heldBy x := by
  have here : t.store.jobs[h] = x := by simp [jobs]
  rw [copiesHeld_eq, copiesHeld_eq, ← here]
  refine sumOver_change (f := fun h : Fin 32 => heldBy t.store.jobs[h])
    (g := fun h : Fin 32 => heldBy s.store.jobs[h]) h fun j other => ?_
  have apart : h.val ≠ j.val := fun same => other (Fin.ext same.symm)
  simp [jobs, apart]

/-- The pool rests on the roster of the jobs. -/
theorem poolSound_rests : Rests [.roster] fun e => PoolSound e.st := by
  intro e e' same sound
  obtain ⟨jobs, free⟩ := Prod.ext_iff.1 (same .roster (by decide) : e'.st.roster = e.st.roster)
  have held : e'.st.copiesHeld = e.st.copiesHeld := by
    rw [copiesHeld_eq, copiesHeld_eq]
    refine sumOver_congr fun h => ?_
    have entry := congrArg (·[h]) jobs
    simp only [State.roster, mapTable_get] at entry
    cases was : e.st.store.jobs[h] <;> cases is : e'.st.store.jobs[h] <;> simp_all [heldBy]
  show e'.st.copiesHeld + e'.st.store.freeCopies = _
  have left : e'.st.store.freeCopies = e.st.store.freeCopies := (Prod.ext_iff.1 free).1
  rw [held, left]
  exact sound

/-- A job whose copies the pool has room for may be listed in a free entry. -/
theorem addJob_pool {e : Ev} {h : Fin 32} {j : Job} (empty : e.st.store.jobs[h] = none)
    (room : j.copies.length ≤ e.st.store.freeCopies) (sound : PoolSound e.st) :
    PoolSound (e.mapStore (JobStore.addJob h j)).st := by
  have held := copiesHeld_set e.st (e.mapStore (JobStore.addJob h j)).st h (some j) rfl
  have total : e.st.copiesHeld + e.st.store.freeCopies = Config.poolSize := sound
  rw [empty] at held
  show _ + (e.st.store.freeCopies - j.copies.length) = Config.poolSize
  simp only [heldBy, Option.map_none, Option.map_some, Option.getD_none, Option.getD_some] at held
  omega

theorem admitJob_pool {e : Ev} {h : Fin 32} {j : Job} (empty : e.st.store.jobs[h] = none)
    (room : j.copies.length ≤ e.st.store.freeCopies) (sound : PoolSound e.st) :
    PoolSound (admitJob h j e).st := by
  have listed := poolSound_rests.within (lockRefs_within _ j.check (· + 1))
    (poolSound_rests.within (setPrices_within _ (f := CostUnit.lockPrices j.priceSet (· + 1)) rfl)
      (poolSound_rests.within (modifyAccount_within _ j.account (f := fun a =>
        { a with openJobs := a.openJobs + 1, committed := a.committed + j.estimateCost }) fun _ => rfl)
        (addJob_pool empty room sound)))
  unfold admitJob
  dsimp only
  split
  · exact poolSound_rests.within (takeReservation_within _ _ _) listed
  · exact poolSound_rests.within (joinWaitList_within _ _) listed

theorem freeEntry_empty {s : State} {h : Fin 32} (entry : s.freeEntry = some h) :
    s.store.jobs[h] = none := by
  have free : s.store.jobs[h].isNone = true := by
    unfold State.freeEntry at entry
    simpa using List.find?_some entry
  exact Option.isNone_iff_eq_none.1 free

theorem copies_newJob (s : State) (x : Submission) : (newJob s x).copies.length = x.copies :=
  List.length_replicate

theorem takeSubmitJob_pool {e : Ev} (q : Request) (sound : PoolSound e.st) :
    PoolSound (takeSubmitJob q e).1.st := by
  refine withRead_keeps (P := fun e => PoolSound e.st) sound fun x _ => ?_
  split
  · exact sound
  · next h entry =>
    split_ifs with full credit
    · exact sound
    · exact sound
    · dsimp only
      exact poolSound_rests.within (settleAccounts_within _)
        (admitJob_pool (freeEntry_empty entry) (by rw [copies_newJob]; exact not_lt.1 full) sound)

/-- Holding and releasing a job leave its copies. -/
theorem setHeld_pool {e : Ev} (held : Bool) (q : Request) (sound : PoolSound e.st) :
    PoolSound (setHeld held q e).1.st := by
  refine withJob_keeps (P := fun e => PoolSound e.st) sound fun h j open_ => ?_
  split_ifs
  · exact sound
  · have total := copiesHeld_set e.st (e.modifyJob h.val fun k => { k with held := held }).st h
      (some { j with held := held }) (by simp [modifyJob_store, JobStore.modifyJob, modifyAt, open_])
    have free : (e.modifyJob h.val fun k => { k with held := held }).st.store.freeCopies =
        e.st.store.freeCopies := by
      simp [modifyJob_store, JobStore.modifyJob]
    have before : e.st.copiesHeld + e.st.store.freeCopies = Config.poolSize := sound
    simp only [open_, heldBy, Option.map_some, Option.getD_some] at total
    unfold PoolSound
    dsimp only
    omega

theorem takeCollectJob_pool {e : Ev} (q : Request) (sound : PoolSound e.st) :
    PoolSound (takeCollectJob q e).1.st := by
  refine withJob_keeps (P := fun e => PoolSound e.st) sound fun h j open_ => ?_
  split_ifs
  · dsimp only
    generalize collected : Ev.mapStore (JobStore.collect h j) _ = e'
    have total := copiesHeld_set e.st e'.st h none (by rw [← collected]; rfl)
    have free : e'.st.store.freeCopies = e.st.store.freeCopies + j.copies.length := by
      rw [← collected]; rfl
    have before : e.st.copiesHeld + e.st.store.freeCopies = Config.poolSize := sound
    simp only [open_, heldBy, Option.map_some, Option.map_none, Option.getD_some, Option.getD_none] at total
    show _ + _ = _
    omega
  · exact sound

theorem pool_tour : Tour fun e => PoolSound e.st := by
  refine poolSound_rests.tour (by decide) fun e k q writes sound => ?_
  cases k
  case submitJob => exact takeSubmitJob_pool q sound
  case holdJob | releaseJob => exact setHeld_pool _ q sound
  case collectJob => exact takeCollectJob_pool q sound
  all_goals exact absurd (by decide) writes

/-- Only requests write the roster. -/
theorem not_mem_effectParts_roster {c : Instr} (own : isTransfer c = false) : .roster ∉ effectParts c := by
  cases c
  all_goals first | exact of_decide_eq_false rfl | cases own

theorem eventOf_pool (c : Instr) (s : State) (run : s.pins.reset = false) (sound : PoolSound s) :
    PoolSound (eventOf c s) := by
  refine keeps_of_tour pool_tour (fun c e own sound => ?_) (fun c s _ sound => sound) (fun e sound => ?_)
    c s run sound
  · exact poolSound_rests.within (effect_within c e) sound (by simpa using not_mem_effectParts_roster own)
  · exact (poolSound_rests.within (close_within e) sound :)

theorem poolSound_empty {s : State} (jobs : s.store = JobStore.atReset) : PoolSound s := by
  have held : s.copiesHeld = 0 := by
    rw [copiesHeld_eq, jobs, sumOver_eq_sum]
    simp [JobStore.atReset, heldBy]
  show s.copiesHeld + s.store.freeCopies = _
  rw [held, jobs]
  rfl

/-- Settles O8: the pool rests on the roster, which four requests write. -/
theorem stepKeepsPool : Obligations.StepKeepsPool := by
  refine stepKeeps_of (fun _ _ sound => sound) (fun s sound => ?_) fun c s t sound ran => ?_
  · unfold State.tick
    split
    · exact sound
    · exact sound
  · exact exec_cases ran (fun _ run => eventOf_pool c s run sound) (fun _ _ => sound) (fun _ => sound)
      (fun _ => poolSound_empty rfl) fun _ => sound

end Sys2Proof.Machine
end

section
/-! The settings and counts of the part stay in their ranges (R25, R49, R54, R66, R73, R106, R107, R110,
R129, R147, R149, R151, R181). -/

namespace Sys2Proof.Machine

-- One proof after another: the stacks of many waiting threads do not fit the memory of one compile.
set_option Elab.async false

/-! ### Numbers that bytes spell, and clamped values -/

theorem leNat_lt (bs : List Byte) : leNat bs < 256 ^ bs.length := by
  induction bs with
  | nil => simp [leNat]
  | cons b bs ih =>
    have byte := b.isLt
    simp only [leNat, List.length_cons, pow_succ]
    omega

theorem field_lt (pl : List Byte) (off n : Nat) : field pl off n < 256 ^ n :=
  (leNat_lt _).trans_le (Nat.pow_le_pow_right (by decide) (List.length_take_le ..))

theorem clamp_bounds {lo hi : Nat} (x : Nat) (order : lo ≤ hi) : lo ≤ clamp lo hi x ∧ clamp lo hi x ≤ hi := by
  unfold clamp
  omega

/-! ### What the readers of operands vouch for -/

theorem readDrops_inRange {pl : List Byte} {t : Vector DropVolumes 12} (read : readDrops pl = some t)
    (c : Fin 12) : t[c].inRange = true := by
  unfold readDrops at read
  dsimp only at read
  split_ifs at read with good
  cases read
  exact (allOf_iff _).1 (Bool.and_eq_true_iff.1 good).2 c

theorem readChannel_bounds {pl : List Byte} {x : Fin 12 × ChannelSettings} (read : readChannel pl = some x) :
    x.2.dead ≤ 50000000 ∧ 100000 ≤ x.2.tolerance ∧ x.2.tolerance ≤ 50000000 ∧ 800 ≤ x.2.density ∧
      x.2.density ≤ 1500 ∧ x.2.lowThreshold ≤ 2000000000 := by
  simp only [readChannel, Option.bind_eq_bind, Option.bind_eq_some_iff] at read
  obtain ⟨_, _, _, _, is⟩ := read
  cases is
  exact ⟨(clamp_bounds _ (by decide)).2, (clamp_bounds _ (by decide)).1, (clamp_bounds _ (by decide)).2,
    (clamp_bounds _ (by decide)).1, (clamp_bounds _ (by decide)).2, (clamp_bounds _ (by decide)).2⟩

theorem readBayCal_bounds {pl : List Byte} {x : Fin 24 × Calibration} (read : readBayCal pl = some x) :
    x.2.zero ≤ 4095 ∧ 1 ≤ x.2.scale ∧ x.2.scale ≤ 1000000 ∧ x.2.tare ≤ 2000000 := by
  simp only [readBayCal, Option.bind_eq_bind, Option.bind_eq_some_iff] at read
  obtain ⟨_, _, _, _, is⟩ := read
  cases is
  exact ⟨(clamp_bounds _ (by decide)).2, (clamp_bounds _ (by decide)).1, (clamp_bounds _ (by decide)).2,
    (clamp_bounds _ (by decide)).2⟩

theorem readScan_bounds {pl : List Byte} {k : ScanConfig} (read : readScan pl = some k) :
    k.first ≤ k.last ∧ 1 ≤ k.seconds ∧ k.seconds ≤ 3600 := by
  simp only [readScan, Option.bind_eq_bind, Option.bind_eq_some_iff, guard] at read
  obtain ⟨_, _, first, _, last, _, _, order, is⟩ := read
  cases is
  split_ifs at order with le
  exact ⟨le, clamp_bounds _ (by decide)⟩

theorem readMediaType_bounds {pl : List Byte} {x : Fin 16 × MediaType} (read : readMediaType pl = some x) :
    1000 ≤ x.2.width ∧ x.2.width ≤ 16256 ∧ x.2.dryBase ≤ 3600 ∧ 1 ≤ x.2.pauseLimit ∧
      x.2.pauseLimit ≤ 600 := by
  simp only [readMediaType, Option.bind_eq_bind, Option.bind_eq_some_iff] at read
  obtain ⟨_, _, _, _, is⟩ := read
  cases is
  exact ⟨(clamp_bounds _ (by decide)).1, (clamp_bounds _ (by decide)).2, (clamp_bounds _ (by decide)).2,
    clamp_bounds _ (by decide)⟩

/-- The ranges of the path settings (R110). -/
def PathSettings.inRange (x : PathSettings) : Prop :=
  (100 ≤ x.dHead ∧ x.dHead ≤ 20000 ∧ x.dHead + 100 ≤ x.dCut ∧ x.dCut ≤ 30000 ∧ x.cutTolerance ≤ 500) ∧
    100 ≤ x.ackLimit ∧ x.ackLimit ≤ 10000 ∧ 1000 ≤ x.cutterTimeout ∧ x.cutterTimeout ≤ 20000 ∧
      5000 ≤ x.headTimeout ∧ x.headTimeout ≤ 60000

theorem readPath_bounds {pl : List Byte} {x : PathSettings} (read : readPath pl = some x) : x.inRange := by
  unfold readPath at read
  split at read
  · cases read
    have head := clamp_bounds (lo := 100) (hi := 20000) (field pl 0 2) (by decide)
    have cut := clamp_bounds (lo := clamp 100 20000 (field pl 0 2) + 100) (hi := 30000) (field pl 2 2)
      (by omega)
    exact ⟨⟨head.1, head.2, cut.1, cut.2, (clamp_bounds _ (by decide)).2⟩,
      (clamp_bounds _ (by decide)).1, (clamp_bounds _ (by decide)).2, (clamp_bounds _ (by decide)).1,
      (clamp_bounds _ (by decide)).2, clamp_bounds _ (by decide)⟩
  · cases read

theorem readMounting_bounds {types : Vector MediaType 16} {pl : List Byte} {x : Mounting}
    (read : readMounting types pl = some x) : 1 ≤ x.length ∧ x.length ≤ 1000000 := by
  simp only [readMounting, Option.bind_eq_bind, Option.bind_eq_some_iff, guard] at read
  obtain ⟨_, _, _, _, _, _, _, _, _, range, is⟩ := read
  cases is
  split_ifs at range with good
  exact good

theorem readReference_bounds {pl : List Byte} {x : Fin 16 × List Colour} (read : readReference pl = some x) :
    x.2.length ≤ 48 ∧ ∀ k ∈ x.2, k.inRange = true := by
  simp only [readReference, Option.bind_eq_bind, Option.bind_eq_some_iff, guard] at read
  obtain ⟨_, _, _, count, _, _, _, colours, is⟩ := read
  cases is
  split_ifs at count colours with few all
  exact ⟨by simpa using few.2, by simpa using all⟩

theorem readHistorySize_cases {pl : List Byte} {n : Nat} (read : readHistorySize pl = some n) :
    n = 64 ∨ n = 128 ∨ n = 256 := by
  unfold readHistorySize at read
  dsimp only at read
  split_ifs at read with good
  cases read
  exact good.2

/-- The ranges of a price set (R149). -/
def PriceSet.inRange (p : PriceSet) : Prop :=
  (∀ c : Fin 12, p.ink[c] ≤ 1000000) ∧ (∀ t : Fin 16, p.media[t] ≤ 10000000) ∧ p.cut ≤ 100000 ∧
    p.measurement ≤ 100000

theorem readPrices_bounds {pl : List Byte} {x : Fin 4 × PriceSet} (read : readPrices pl = some x) :
    x.2.inRange := by
  simp only [readPrices, Option.bind_eq_bind, Option.bind_eq_some_iff, guard] at read
  obtain ⟨_, _, _, _, _, ink, _, media, _, cut, _, measurement, is⟩ := read
  cases is
  split_ifs at ink media cut measurement with inks medias cuts measurements
  exact ⟨fun c => by simpa using (allOf_iff _).1 inks c, fun t => by simpa using (allOf_iff _).1 medias t,
    cuts, measurements⟩

theorem readAccountSettings_bounds {pl : List Byte} {x : Fin 32 × Bool × Nat}
    (read : readAccountSettings pl = some x) : (x.1 = 0 → x.2.1 = true) ∧ x.2.2 < 281474976710656 := by
  simp only [readAccountSettings, Option.bind_eq_bind, Option.bind_eq_some_iff, guard] at read
  obtain ⟨_, _, i, _, _, _, _, kept, is⟩ := read
  cases is
  split_ifs at kept with good
  exact ⟨fun house => good.resolve_left fun other => other (congrArg Fin.val house), field_lt pl 2 6⟩

theorem readTime_bounds {pl : List Byte} {x : Nat × Nat} (read : readTime pl = some x) :
    x.1 < 65536 ∧ x.2 < Config.msPerDay := by
  unfold readTime at read
  split_ifs at read with good
  cases read
  exact ⟨field_lt pl 0 2, good.2⟩

/-- The time base stays on the calendar as it moves on (R181). -/
theorem advance_calendar (d : Nat) (t : TimeBase) :
    (t.advance d).day < 65536 ∧ (t.advance d).ms < Config.msPerDay :=
  ⟨Nat.mod_lt _ (by decide), Nat.mod_lt _ (by decide)⟩

/-! ### Rolls -/

/-- The figures of a roll after a forward step, the low-noticed flag included. -/
def RollFigures.advanced (f : RollFigures) : RollFigures :=
  { f.forward with lowNoticed := f.lowNoticed || f.crossesLow }

theorem RollFigures.stepped_last {f : RollFigures} (last : f.remaining - 1 = 0) :
    f.stepped = .exhausted f.advanced := if_pos last

theorem RollFigures.stepped_more {f : RollFigures} (more : f.remaining - 1 ≠ 0) :
    f.stepped = .mounted f.advanced := if_neg more

theorem RollFigures.stepped_sound {f : RollFigures} (sound : (Roll.mounted f).sound) : f.stepped.sound := by
  obtain ⟨sum, some_, most⟩ := sound
  by_cases last : f.remaining - 1 = 0
  · rw [stepped_last last]
    exact ⟨last, most⟩
  · rw [stepped_more last]
    refine ⟨?_, ?_, most⟩ <;> (dsimp only [RollFigures.advanced, RollFigures.forward]; omega)

theorem RollFigures.reverse_sound {f : RollFigures} (sound : (Roll.mounted f).sound) :
    (Roll.mounted f.reverse).sound := by
  obtain ⟨sum, some_, most⟩ := sound
  unfold RollFigures.reverse
  by_cases room : f.remaining < f.declared
  · rw [if_pos room]
    exact ⟨by dsimp only; omega, by dsimp only; omega, most⟩
  · rw [if_neg room]
    exact ⟨sum, some_, most⟩

theorem Media.feeding_eq_some {m : Media} {n : Fin 2} {f : RollFigures} (h : m.feeding = some (n, f)) :
    m.rollInPath = some n ∧ m.rolls[n] = .mounted f := by
  unfold Media.feeding at h
  split at h
  · cases h
  · next k path =>
    split at h
    · next g here =>
      cases h
      exact ⟨path, here⟩
    · cases h

/-! ### The figures of a state -/

/-- The parts that the ranges rest on. -/
abbrev figureParts : List Part :=
  [.drops, .residues, .inkSettings, .pathSettings, .rolls, .locked, .history, .terms, .clock]

theorem Vector.map_at {α β : Type} {n : Nat} {g : α → β} {v w : Vector α n} (same : mapTable g v = mapTable g w)
    (i : Fin n) : g v[i] = g w[i] := by
  have := congrArg (·[i]) same
  simpa [mapTable_get] using this

theorem figuresSound_rests : Rests figureParts fun e => FiguresSound e.st := by
  intro e e' same sound
  have drops : e'.st.meter.drops = e.st.meter.drops := same .drops (by decide)
  have residue : e'.st.meter.residue = e.st.meter.residue := same .residues (by decide)
  have ink : e'.st.inkSettings = e.st.inkSettings := same .inkSettings (by decide)
  have path : e'.st.pathSettings = e.st.pathSettings := same .pathSettings (by decide)
  have rolls : e'.st.media.rolls = e.st.media.rolls := same .rolls (by decide)
  have locked : e'.st.locked = e.st.locked := same .locked (by decide)
  have size : e'.st.colour.histSize = e.st.colour.histSize := (same .history (by decide)).1
  have terms : mapTable Account.terms e'.st.cost.accounts = mapTable Account.terms e.st.cost.accounts :=
    same .terms (by decide)
  have clock : e'.st.clock = e.st.clock := same .clock (by decide)
  simp only [State.inkSettings, State.pathSettings, State.locked, Prod.mk.injEq] at ink path locked
  obtain ⟨channels, cals, config⟩ := ink
  obtain ⟨_, _, types, settings⟩ := path
  obtain ⟨refs, prices⟩ := locked
  have term (a : Fin 32) := Vector.map_at terms a
  have channel (c : Fin 12) := Vector.map_at channels c
  simp only [Account.terms, Channel.settings, Prod.mk.injEq] at term channel
  refine ⟨by rw [drops]; exact sound.drops, by rw [residue]; exact sound.residue, fun c => ?_, fun b => ?_,
    by rw [config]; exact sound.scan, by rw [types]; exact sound.types, by rw [rolls]; exact sound.rolls,
    by rw [settings]; exact sound.path, by rw [settings]; exact sound.limits,
    by rw [refs]; exact sound.refs, ⟨by rw [size]; exact sound.history.1, ?_⟩,
    by rw [prices]; exact sound.prices, by rw [(term 0).1]; exact sound.house,
    fun a => by rw [(term a).2]; exact sound.limit a, by rw [clock]; exact sound.calendar⟩
  · obtain ⟨dead, tolerance, density, low⟩ := channel c
    rw [dead, tolerance, density, low]
    exact sound.channels c
  · rw [Vector.map_at cals b]
    exact sound.cals b
  · rw [size]
    exact (same .history (by decide)).2 sound.history.2

/-! ### The requests that write a figure -/

section
variable {e : Ev} (sound : FiguresSound e.st)

include sound

theorem lockRefs_figures (k : Option CheckPolicy) (f : Nat → Nat) :
    FiguresSound (e.mapColour (ColourUnit.lockRefs k f)).st := by
  cases k with
  | none => exact sound
  | some p =>
    refine { sound with refs := fun r => ?_ }
    simp only [mapColour_colour, ColourUnit.lockRefs, modifyAt_get]
    split
    · exact sound.refs r
    · exact sound.refs r

theorem lockPrices_figures (n : Fin 4) (f : Nat → Nat) :
    FiguresSound (e.mapCost (CostUnit.lockPrices n f)).st := by
  refine { sound with prices := fun r => ?_ }
  simp only [mapCost_cost, CostUnit.lockPrices, modifyAt_get]
  split
  · exact sound.prices r
  · exact sound.prices r

theorem admitJob_figures (h : Fin 32) (j : Job) : FiguresSound (admitJob h j e).st := by
  have listed : FiguresSound ((e.mapStore (JobStore.addJob h j)).modifyAccount j.account fun a =>
      { a with openJobs := a.openJobs + 1, committed := a.committed + j.estimateCost }).st :=
    figuresSound_rests.within (modifyAccount_within _ _ fun _ => rfl)
      (figuresSound_rests.within (mapStore_within _ _) sound)
  have locked := lockRefs_figures (lockPrices_figures listed j.priceSet (· + 1)) j.check (· + 1)
  unfold admitJob
  dsimp only
  split
  · exact figuresSound_rests.within (takeReservation_within _ _ _) locked
  · exact figuresSound_rests.within (joinWaitList_within _ _) locked

theorem takeSubmitJob_figures (q : Request) : FiguresSound (takeSubmitJob q e).1.st := by
  refine withRead_keeps (P := fun e => FiguresSound e.st) sound fun x _ => ?_
  split
  · exact sound
  · split_ifs
    · exact sound
    · exact sound
    · dsimp only
      exact figuresSound_rests.within (settleAccounts_within _) (admitJob_figures sound _ _)

theorem takeCollectJob_figures (q : Request) : FiguresSound (takeCollectJob q e).1.st := by
  refine withJob_keeps (P := fun e => FiguresSound e.st) sound fun h j _ => ?_
  split_ifs
  · dsimp only
    have left : FiguresSound (e.modifyAccount j.account fun a => { a with openJobs := a.openJobs - 1 }).st :=
      figuresSound_rests.within (modifyAccount_within _ _ fun _ => rfl) sound
    exact figuresSound_rests.within (mapStore_within _ _)
      (lockRefs_figures (lockPrices_figures left _ _) _ _)
  · exact sound

theorem takeDeclareDrops_figures (q : Request) : FiguresSound (takeDeclareDrops q e).1.st := by
  refine withRead_keeps (P := fun e => FiguresSound e.st) sound fun t read => ?_
  split_ifs
  · exact sound
  · exact { sound with drops := readDrops_inRange read }

theorem drawReport_figures (counts : Fin 12 → Nat × Nat × Nat) : FiguresSound (drawReport counts e).st := by
  have converted : FiguresSound (e.mapMeter fun m => { m with residue := newResidues m counts }).st :=
    { sound with
      residue := fun c => by
        rw [mapMeter_meter]
        simp only [newResidues, tabulate_get]
        exact Nat.mod_lt _ (by decide) }
  exact figuresSound_rests.within (v := inkParts)
    (Ev.Within.foldl _ _ _ fun e c => drawChannel_within e c _) converted

theorem takeSwathReport_figures (q : Request) : FiguresSound (takeSwathReport q e).1.st := by
  unfold takeSwathReport
  split
  · dsimp only
    exact figuresSound_rests.within (settle_within _) <| figuresSound_rests.within (swathFaults_within _ _ _ _) <|
      figuresSound_rests.within (assign_within _ _ _ _) (drawReport_figures sound _)
  · exact sound

theorem takeMaintReport_figures (q : Request) : FiguresSound (takeMaintReport q e).1.st := by
  unfold takeMaintReport
  split
  · dsimp only
    exact figuresSound_rests.within (settle_within _) <|
      figuresSound_rests.within (maintenanceCharge_within _ _) (drawReport_figures sound _)
  · exact sound

theorem takeSetChannel_figures (q : Request) : FiguresSound (takeSetChannel q e).1.st := by
  refine withRead_keeps (P := fun e => FiguresSound e.st) sound fun x read => ?_
  have written : FiguresSound (e.modifyChannel x.1 (Channel.set x.2)).st := by
    refine { sound with channels := fun c => ?_, cals := sound.cals }
    simp only [modifyChannel_ink, modifyAt_get]
    split
    · exact readChannel_bounds read
    · exact sound.channels c
  dsimp only
  refine figuresSound_rests.within (settle_within _) ?_
  unfold setChannel
  dsimp only
  split
  · exact figuresSound_rests.within (giveUp_within _ _) written
  · exact written

theorem takeSetBayCal_figures (q : Request) : FiguresSound (takeSetBayCal q e).1.st := by
  refine withRead_keeps (P := fun e => FiguresSound e.st) sound fun x read => ?_
  refine { sound with channels := sound.channels, cals := fun b => ?_ }
  simp only [modifyBay_ink, modifyAt_get]
  split
  · exact readBayCal_bounds read
  · exact sound.cals b

theorem takeSetScan_figures (q : Request) : FiguresSound (takeSetScan q e).1.st :=
  withRead_keeps (P := fun e => FiguresSound e.st) sound fun _ read =>
    { sound with scan := readScan_bounds read }

theorem setRoll_figures (n : Fin 2) {r : Roll} (good : r.sound) : FiguresSound (e.setRoll n r).st := by
  refine { sound with rolls := fun k => ?_ }
  by_cases here : k = n
  · subst here
    simpa [Ev.setRoll] using good
  · have apart : n.val ≠ k.val := fun same => here (Fin.ext same.symm)
    simpa [Ev.setRoll, apart] using sound.rolls k

theorem takeMountRoll_figures (q : Request) : FiguresSound (takeMountRoll q e).1.st := by
  refine withRead_keeps (P := fun e => FiguresSound e.st) sound fun x read => ?_
  split_ifs
  · exact sound
  · obtain ⟨least, most⟩ := readMounting_bounds read
    exact setRoll_figures sound _ (r := .mounted _) ⟨rfl, least, most⟩

theorem takeUnmountRoll_figures (q : Request) : FiguresSound (takeUnmountRoll q e).1.st := by
  refine withRead_keeps (P := fun e => FiguresSound e.st) sound fun n _ => ?_
  split_ifs
  · exact sound
  · split
    · exact sound
    · dsimp only
      exact figuresSound_rests.within (mapMedia_within _ rfl) (setRoll_figures sound n (r := .empty) trivial)

theorem takeSetMediaType_figures (q : Request) : FiguresSound (takeSetMediaType q e).1.st := by
  refine withRead_keeps (P := fun e => FiguresSound e.st) sound fun x read => ?_
  refine { sound with types := fun t => ?_ }
  by_cases here : t = x.1
  · subst here
    simpa using readMediaType_bounds read
  · have apart : x.1.val ≠ t.val := fun same => here (Fin.ext same.symm)
    simpa [apart] using sound.types t

theorem takeSetPath_figures (q : Request) : FiguresSound (takeSetPath q e).1.st := by
  refine withRead_keeps (P := fun e => FiguresSound e.st) sound fun x read => ?_
  obtain ⟨path, limits⟩ := readPath_bounds read
  exact { sound with path := path, limits := limits }

theorem takeSetReference_figures (q : Request) : FiguresSound (takeSetReference q e).1.st := by
  refine withRead_keeps (P := fun e => FiguresSound e.st) sound fun x read => ?_
  split_ifs
  · refine { sound with refs := fun r => ?_ }
    by_cases here : r = x.1
    · subst here
      simpa using readReference_bounds read
    · have apart : x.1.val ≠ r.val := fun same => here (Fin.ext same.symm)
      simpa [apart] using sound.refs r
  · exact sound

theorem takeSetHistorySize_figures (q : Request) : FiguresSound (takeSetHistorySize q e).1.st :=
  withRead_keeps (P := fun e => FiguresSound e.st) sound fun _ read =>
    { sound with history := ⟨readHistorySize_cases read, Nat.zero_le _⟩ }

theorem takeSetPrices_figures (q : Request) : FiguresSound (takeSetPrices q e).1.st := by
  refine withRead_keeps (P := fun e => FiguresSound e.st) sound fun x read => ?_
  split_ifs
  · refine { sound with prices := fun n => ?_ }
    by_cases here : n = x.1
    · subst here
      simpa [PriceSet.inRange] using readPrices_bounds read
    · have apart : x.1.val ≠ n.val := fun same => here (Fin.ext same.symm)
      simpa [apart] using sound.prices n
  · exact sound

theorem takeSetAccount_figures (q : Request) : FiguresSound (takeSetAccount q e).1.st := by
  refine withRead_keeps (P := fun e => FiguresSound e.st) sound fun x read => ?_
  obtain ⟨house, limit⟩ := readAccountSettings_bounds read
  dsimp only
  have written : FiguresSound
      (e.modifyAccount x.1 fun a => { a with enabled := x.2.1, limit := x.2.2 }).st := by
    refine { sound with house := ?_, limit := fun a => ?_ }
    · simp only [modifyAccount_cost, modifyAt_get]
      split
      · next here => exact house here.symm
      · exact sound.house
    · simp only [modifyAccount_cost, modifyAt_get]
      split
      · exact limit
      · exact sound.limit a
  exact figuresSound_rests.within (settleAccounts_within _) written

theorem takeSetTime_figures (q : Request) : FiguresSound (takeSetTime q e).1.st :=
  withRead_keeps (P := fun e => FiguresSound e.st) sound fun _ read =>
    { sound with calendar := readTime_bounds read }

/-! ### The commands that write a figure -/

theorem reach_figures (due : Nat) : FiguresSound (e.mapClock (TimeBase.reach due)).st :=
  { sound with calendar := advance_calendar _ _ }

theorem countStep_figures (d : Direction) : FiguresSound (countStep d e).st := by
  have moved (q : Pos) : FiguresSound (e.mapMedia fun m => { m with pos := q }).st :=
    figuresSound_rests.within (mapPos_within e q) sound
  have roll {n : Fin 2} {f : RollFigures} (here : e.st.media.feeding = some (n, f)) : (Roll.mounted f).sound := by
    obtain ⟨_, mounted⟩ := Media.feeding_eq_some here
    have good := sound.rolls n
    rwa [mounted] at good
  unfold countStep
  split
  · dsimp only
    split
    · exact moved _
    · next n f here =>
      have rolled : FiguresSound ((e.mapMedia fun m => { m with pos := m.pos + 1 }).setRoll n f.stepped).st :=
        setRoll_figures (moved _) n (RollFigures.stepped_sound (roll here))
      split_ifs
      · exact rolled
      · exact rolled
      · exact rolled
      · exact rolled
  · dsimp only
    split
    · exact moved _
    · next n f here => exact setRoll_figures (moved _) n (RollFigures.reverse_sound (roll here))

theorem feed_figures (d : Direction) : FiguresSound (feed d e).st := by
  have counted := countStep_figures sound d
  have ended : FiguresSound (if e.st.media.exhausts d then endPrinting .mediaOut (countStep d e)
      else countStep d e).st := by
    split
    · exact figuresSound_rests.within (endPrinting_within _ _) counted
    · exact counted
  have faulted {f : Ev} (held : Bool) (kept : FiguresSound f.st) : FiguresSound (feedFault held f).st := by
    unfold feedFault
    split
    · exact figuresSound_rests.within (recordFault_within _ _ _ _) kept
    · exact kept
  cases d
  · exact figuresSound_rests.within (settle_within _)
      (faulted _ (figuresSound_rests.within (runHead_within _) ended))
  · exact faulted _ ended

theorem expiring_figures {w : List Part} (due : State → Option Nat) {f : Ev → Ev}
    (k : ∀ e : Ev, e.Within w (f e)) (free : ∀ p ∈ figureParts, p ∉ w) :
    FiguresSound (expiring due f e).st := by
  unfold expiring
  split
  · exact sound
  · exact figuresSound_rests.within (k _) (reach_figures sound _) free

end

theorem figures_tour : Tour fun e => FiguresSound e.st := by
  refine figuresSound_rests.tour (by decide) fun e k q writes sound => ?_
  cases k
  case submitJob => exact takeSubmitJob_figures sound q
  case collectJob => exact takeCollectJob_figures sound q
  case declareDrops => exact takeDeclareDrops_figures sound q
  case swathReport => exact takeSwathReport_figures sound q
  case maintReport => exact takeMaintReport_figures sound q
  case setChannel => exact takeSetChannel_figures sound q
  case setBayCal => exact takeSetBayCal_figures sound q
  case setScan => exact takeSetScan_figures sound q
  case writePhases | setClassMap =>
    exact withRead_keeps (P := fun e => FiguresSound e.st) sound fun _ _ => { sound with }
  case mountRoll => exact takeMountRoll_figures sound q
  case unmountRoll => exact takeUnmountRoll_figures sound q
  case setMediaType => exact takeSetMediaType_figures sound q
  case setPath => exact takeSetPath_figures sound q
  case setReference => exact takeSetReference_figures sound q
  case setHistorySize => exact takeSetHistorySize_figures sound q
  case setPrices => exact takeSetPrices_figures sound q
  case setAccount => exact takeSetAccount_figures sound q
  case setTime => exact takeSetTime_figures sound q
  all_goals exact absurd (by decide) writes

theorem effect_figures (c : Instr) (e : Ev) (own : isTransfer c = false) (sound : FiguresSound e.st) :
    FiguresSound (effect c e).st := by
  cases c
  case feedStep d => exact feed_figures sound d
  case scanIntervalExpiry => exact expiring_figures sound _ intervalExpires_within (by decide)
  case holdAckExpiry => exact expiring_figures sound _ ackExpires_within (by decide)
  case pauseExpiry => exact expiring_figures sound _ pauseExpires_within (by decide)
  case cutterTimerExpiry => exact expiring_figures sound _ cutterExpires_within (by decide)
  case dryWaitExpiry => exact expiring_figures sound _ dryExpires_within (by decide)
  case headTimerExpiry => exact expiring_figures sound _ headExpires_within (by decide)
  case portReset p => exact figuresSound_rests.within (resetPort_within e p) sound
  case cartridgePresentRise b => exact figuresSound_rests.within (seat_within e b) sound
  case cartridgePresentFall b => exact figuresSound_rests.within (unseat_within e b) sound
  case cutHomeFall => exact figuresSound_rests.within (homeFalls_within e) sound
  case cutHomeRise => exact figuresSound_rests.within (homeRises_within e) sound
  case patch bytes | headEnd bytes | headOther bytes =>
    exact figuresSound_rests.within (headBytes_within e bytes) sound
  case headByteGap b => exact figuresSound_rests.within (effect_within (.headByteGap b) e) sound fun p inn =>
      (by decide : ∀ p ∈ figureParts, p ∉ settleMarkParts) p inn
  case sampleConversion raw => exact figuresSound_rests.within (convert_within e raw) sound
  case scanComplete => exact figuresSound_rests.within (completeScan_within e) sound
  case portResetRelease | deviceReset | resetRelease | powerApplied => exact sound
  all_goals cases own

theorem eventOf_figures (c : Instr) (s : State) (run : s.pins.reset = false) (sound : FiguresSound s) :
    FiguresSound (eventOf c s) :=
  keeps_of_tour figures_tour effect_figures (fun _ _ _ sound => { sound with })
    (fun e sound => figuresSound_rests.within (finish_within e.close)
      (figuresSound_rests.within (close_within e) sound)) c s run sound

/-- The reset values lie in their ranges, with the drop volumes and the calibrations as they stood. -/
theorem atRelease_figures {drops : Vector DropVolumes 12} {cals : Fin 24 → Calibration} (pins : Pins)
    (pending : List Instr) (dropsGood : ∀ c : Fin 12, drops[c].inRange = true)
    (calsGood : ∀ b, (cals b).zero ≤ 4095 ∧ 1 ≤ (cals b).scale ∧ (cals b).scale ≤ 1000000 ∧
      (cals b).tare ≤ 2000000) : FiguresSound (State.atRelease drops cals pins pending) where
  drops := dropsGood
  residue c := by simp [State.atRelease]
  channels c := by simp [State.atRelease, Channel.atReset]
  cals b := by
    simp only [State.atRelease, tabulate_get]
    exact calsGood b
  scan := show (0 : Fin 25) ≤ 24 ∧ 1 ≤ 60 ∧ 60 ≤ 3600 by decide
  types t := by simp [State.atRelease, Media.atReset, MediaType.atReset]
  rolls n := by simp [State.atRelease, Media.atReset, Roll.sound]
  path := show 100 ≤ 3500 ∧ 3500 ≤ 20000 ∧ 3500 + 100 ≤ 6000 ∧ 6000 ≤ 30000 ∧ 20 ≤ 500 by decide
  limits := show 100 ≤ 1500 ∧ 1500 ≤ 10000 ∧ 1000 ≤ 4000 ∧ 4000 ≤ 20000 ∧ 5000 ≤ 25000 ∧
    25000 ≤ 60000 by decide
  refs r := by simp [State.atRelease, ColourUnit.atReset]
  history := ⟨.inr (.inl rfl), Nat.zero_le _⟩
  prices n := by simp [State.atRelease, CostUnit.atReset, PriceSet.atReset]
  house := rfl
  limit a := by simp [State.atRelease, CostUnit.atReset, Account.atReset]
  calendar := show 0 < 65536 ∧ 0 < 86400000 by decide

/-- Settles O13: the readers of operands clamp or refuse, and the counts keep their balance. -/
theorem stepKeepsFigures : Obligations.StepKeepsFigures := by
  refine stepKeeps_of (fun _ _ sound => { sound with }) (fun s sound => ?_) fun c s t sound ran => ?_
  · unfold State.tick
    split
    · exact sound
    · exact { sound with calendar := advance_calendar _ _ }
  · refine exec_cases ran (fun _ run => eventOf_figures c s run sound) (fun _ _ => { sound with })
      (fun _ => { sound with calendar := show 0 < 65536 ∧ 0 < 86400000 by decide }) (fun _ => ?_) fun _ => ?_
    · exact atRelease_figures _ _ sound.drops sound.cals
    · refine { sound with drops := fun c => ?_, cals := fun b => ?_ }
      · simp [State.applyPower, DropVolumes.atPower, DropVolumes.inRange]
      · simp [State.applyPower, Calibration.atPower]

end Sys2Proof.Machine
end

section
/-! The port units keep their bounds (R167, R172 to R175). -/

namespace Sys2Proof.Machine

-- One proof after another: the stacks of many waiting threads do not fit the memory of one compile.
set_option Elab.async false

/-! ### One port unit -/

theorem PortUnit.Sound.transfers {u v : PortUnit} (sound : u.Sound) (h : u.Transfers v) : v.Sound := by
  rw [h.rest]
  exact { sound with bad := h.bad.elim (fun same => same ▸ sound.bad) id }

/-- One fault more in the status table (R174). -/
theorem PortUnit.Sound.status_note {u : PortUnit} (sound : u.Sound) (k : FaultKind) (i : Fin 11) :
    (modifyAt u.status k.index FaultStatus.note)[i].count ≤ 255 ∧
      ((modifyAt u.status k.index FaultStatus.note)[i].recorded = true ↔
        0 < (modifyAt u.status k.index FaultStatus.note)[i].count) := by
  rw [modifyAt_get]
  split
  · simp [FaultStatus.note]
  · exact sound.status i

theorem PortUnit.Sound.note {u : PortUnit} (sound : u.Sound) (k : FaultKind) (h : Option Header)
    (now : Nat) : (u.note k h now).Sound := by
  unfold PortUnit.note
  dsimp only
  split
  · exact { sound with status := sound.status_note k }
  · split
    · exact { sound with status := sound.status_note k, faulted := fun _ => rfl, multiple := fun _ => rfl }
    · next c captured =>
      exact { sound with status := sound.status_note k, multiple := fun _ => by simp [captured] }

/-- An unmasked fault is captured, or one before it was (R175). -/
theorem PortUnit.note_captured {u : PortUnit} {k : FaultKind} (stops : u.stops k = true)
    (h : Option Header) (now : Nat) : (u.note k h now).capture.isSome = true := by
  have unmasked : u.policy[k.index].masked = false := by
    simp only [PortUnit.stops, Bool.and_eq_true, Bool.not_eq_true'] at stops
    exact stops.1.1
  unfold PortUnit.note
  dsimp only
  rw [if_neg (by rw [unmasked]; decide)]
  split
  · rfl
  · next captured => simp [captured]

theorem PortUnit.Sound.offer {u : PortUnit} (sound : u.Sound) (now : Nat) (n : Notice) :
    (u.offer now n).Sound := by
  unfold PortUnit.offer
  dsimp only
  split
  · exact sound
  · next queued =>
    have good : 1 ≤ u.levels[n.kind.index] ∧ u.levels[n.kind.index] ≤ 7 ∧ now % 4294967296 < 4294967296 :=
      ⟨Nat.pos_of_ne_zero queued, sound.levels _, Nat.mod_lt _ (by decide)⟩
    have entries (l : List Entry) (old : ∀ x ∈ l, x ∈ u.queue) : ∀ x ∈ l ++
        [{ notice := n, level := u.levels[n.kind.index], time := now % 4294967296 }],
        1 ≤ x.level ∧ x.level ≤ 7 ∧ x.time < 4294967296 := fun x inn =>
      (List.mem_append.1 inn).elim (fun was => sound.entries x (old x was)) fun new =>
        List.mem_singleton.1 new ▸ good
    have bound := sound.queue
    split
    · next room =>
      exact { sound with
        queue := by rw [List.length_append, List.length_singleton]; exact room
        entries := entries _ fun _ inn => inn }
    · exact { sound with
        queue := by
          simp only [List.length_append, List.length_tail, List.length_singleton, Config.queueSize] at *
          omega
        entries := entries _ fun _ inn => List.mem_of_mem_tail inn }

theorem PortUnit.Sound.offerAll {u : PortUnit} (sound : u.Sound) (now : Nat) (ns : List Notice)
    (held : Bool) : (offerAll now ns held u).Sound := by
  unfold Machine.offerAll
  split
  · exact sound
  · exact foldl_keeps PortUnit.Sound _ ns u (fun _ n kept => kept.offer now n) sound

theorem defaultLevels_le (p : Port) (i : Fin 18) : (defaultLevels p)[i] ≤ 7 := by
  cases p <;> revert i <;> decide

theorem PortUnit.atReset_sound (p : Port) : (PortUnit.atReset p).Sound where
  queue := Nat.zero_le _
  entries x inn := absurd inn List.not_mem_nil
  levels := defaultLevels_le p
  threshold := show 1 ≤ 3 ∧ 3 ≤ 7 by decide
  bad := show 0 < 8 by decide
  status i := by simp [PortUnit.atReset, noFaults]
  faulted h := nomatch h
  multiple h := nomatch h

/-! ### Properties of the ports that faults keep -/

/-- A property of events that whatever leaves the ports alone keeps, and every fault. -/
structure Ported (P : Ev → Prop) : Prop where
  within : ∀ {w : List Part} {e e' : Ev}, e.Within w e' → .ports ∉ w → P e → P e'
  fault : ∀ (e : Ev) (p : Port) (k : FaultKind) (h : Option Header), P e → P (recordFault p k h e)

namespace Ported

variable {P : Ev → Prop} (T : Ported P) {e : Ev} (sound : P e)

include T sound

theorem swathFaults (cls : SwathClass) (held : Bool) (h : Header) : P (swathFaults cls held h e) := by
  have first : P (if cls = .stray then recordFault .engine .staleRef (some h) e else e) := by
    split
    · exact T.fault _ _ _ _ sound
    · exact sound
  unfold Machine.swathFaults
  dsimp only
  split
  · exact T.fault _ _ _ _ first
  · exact first

theorem takeSwathReport (q : Request) : P (takeSwathReport q e).1 := by
  unfold Machine.takeSwathReport
  split
  · dsimp only
    refine T.within (settle_within _) (by decide) (T.swathFaults ?_ _ _ _)
    exact T.within (assign_within _ _ _ _) (by decide) (T.within (drawReport_within e _) (by decide) sound)
  · exact sound

theorem takePanelDone (q : Request) : P (takePanelDone q e).1 := by
  refine withRead_keeps sound fun r _ => ?_
  split
  · dsimp only
    exact T.within (settleMarks_within _) (by decide) <|
      T.within (copyEndTrigger_within _) (by decide) (T.within (endPrinting_within e _) (by decide) sound)
  · dsimp only
    exact T.within (clearAbort_within e) (by decide) sound
  · exact T.fault _ _ _ _ sound

theorem takePanelAbort (q : Request) : P (takePanelAbort q e).1 := by
  refine withRead_keeps sound fun r _ => ?_
  split
  · dsimp only
    exact T.within (settleMarks_within _) (by decide) (T.within (endPrinting_within e _) (by decide) sound)
  · dsimp only
    exact T.within (clearAbort_within e) (by decide) sound
  · exact T.fault _ _ _ _ sound

theorem takeHoldTaken (q : Request) : P (takeHoldTaken q e).1 := by
  refine withNone_keeps sound ?_
  split
  · dsimp only
    exact T.within (holdTaken_within e) (by decide) sound
  · exact T.fault _ _ _ _ sound

/-- A request that writes the ports is one of eight. -/
theorem take (k : ReqKind) (q : Request)
    (policy : k = .setFaultPolicy → P (takeSetFaultPolicy q e).1) (fetch : k = .fetchNotices → P (takeFetchNotices q e).1)
    (levels : k = .setNoticeLevels → P (takeSetNoticeLevels q e).1)
    (clear : k = .clearFaults → P (takeClearFaults q e).1) : P (takeOf k q e).1 := by
  by_cases out : .ports ∈ takeParts k
  · cases k
    case swathReport => exact T.takeSwathReport sound q
    case panelDone => exact T.takePanelDone sound q
    case panelAbort => exact T.takePanelAbort sound q
    case holdTaken => exact T.takeHoldTaken sound q
    case setFaultPolicy => exact policy rfl
    case fetchNotices => exact fetch rfl
    case setNoticeLevels => exact levels rfl
    case clearFaults => exact clear rfl
    all_goals exact absurd out (of_decide_eq_false rfl)
  · exact T.within (takeOf_within q e k) out sound

theorem feed (d : Direction) : P (feed d e) := by
  have counted : P (countStep d e) := T.within (countStep_within e d) (by decide) sound
  have ended : P (if e.st.media.exhausts d then endPrinting .mediaOut (countStep d e) else countStep d e) := by
    split
    · exact T.within (endPrinting_within _ _) (by decide) counted
    · exact counted
  have faulted {f : Ev} (held : Bool) (kept : P f) : P (feedFault held f) := by
    unfold feedFault
    split
    · exact T.fault _ _ _ _ kept
    · exact kept
  cases d
  · exact T.within (settle_within _) (by decide)
      (faulted _ (T.within (runHead_within _) (by decide) ended))
  · exact faulted _ ended

/-- A command that is no transfer writes the ports by a port's reset, or by a fault. -/
theorem effect (c : Instr) (own : isTransfer c = false) (reset : ∀ p, c = .portReset p → P (resetPort p e)) :
    P (effect c e) := by
  by_cases out : .ports ∈ effectParts c
  · cases c
    case portReset p => exact reset p rfl
    case feedStep d => exact T.feed sound d
    case holdAckExpiry =>
      show P (expiring (fun s => s.media.hold.ackTimer) ackExpires e)
      unfold expiring
      split
      · exact sound
      · exact T.fault _ _ _ _ (T.within (mapTimer_within _ rfl rfl) (by decide)
          (T.within (reach_within e _) (by decide) sound))
    all_goals first | exact absurd out (of_decide_eq_false rfl) | cases own
  · exact T.within (effect_within c e) out sound

end Ported

/-! ### The three units -/

theorem portsSound_rests : Rests [.ports] fun e => PortsSound e.st := by
  intro e e' same sound p
  rw [(same .ports (by decide) : e'.st.ports = e.st.ports)]
  exact sound p

section
variable {e : Ev} (sound : PortsSound e.st)

include sound

theorem modifyPort_ports_sound (p : Port) {f : PortUnit → PortUnit} (good : (f (e.st.ports.unit p)).Sound) :
    PortsSound (e.modifyPort p f).st := by
  intro q
  rw [modifyPort_ports, unit_modifyUnit]
  split
  · next here => exact here ▸ good
  · exact sound q

/-- A change beside the three units. -/
theorem mapPorts_ports_sound {f : Ports → Ports} (same : ∀ q, (f e.st.ports).unit q = e.st.ports.unit q) :
    PortsSound (e.mapPorts f).st := by
  intro q
  rw [mapPorts_ports, same]
  exact sound q

theorem readFrom_ports (p : Port) (count : Nat) : PortsSound (readFrom p count e).st := by
  unfold readFrom
  split
  · exact sound
  · refine mapPorts_ports_sound (modifyPort_ports_sound sound p ((sound p).transfers ⟨rfl, .inl rfl⟩)) fun q => ?_
    cases q <;> split <;> rfl

theorem recordFault_ports (p : Port) (k : FaultKind) (h : Option Header) :
    PortsSound (recordFault p k h e).st := by
  have noted := modifyPort_ports_sound sound p ((sound p).note k h e.st.now)
  unfold recordFault
  split
  · exact sound
  · dsimp only
    split
    · next stops =>
      have unit : (e.modifyPort p (PortUnit.note k h e.st.now)).st.ports.unit p =
          (e.st.ports.unit p).note k h e.st.now := by
        rw [modifyPort_ports, unit_modifyUnit, if_pos rfl]
      have entered : PortsSound ((((e.modifyPort p (PortUnit.note k h e.st.now)).modifyPort p fun u =>
          { u with state := .faulted }).mapPorts (Ports.summarise p k e.st.now)).raise
            .portFault (.port p) k.index.val).st :=
        mapPorts_ports_sound (modifyPort_ports_sound noted p { noted p with
          faulted := fun _ => by rw [unit]; exact PortUnit.note_captured stops h e.st.now })
          fun q => summarise_settings p q k _ _
      unfold enterFaulted
      dsimp only
      split
      · exact portsSound_rests.within (engineLost_within _) entered
      · exact entered
    · exact noted

theorem takeFetchNotices_ports (q : Request) : PortsSound (takeFetchNotices q e).1.st := by
  refine withNone_keeps (P := fun e => PortsSound e.st) sound (modifyPort_ports_sound sound _ ?_)
  have before := sound q.port
  exact { before with
    queue := (List.drop_sublist 8 _).length_le.trans before.queue
    entries := fun x inn => before.entries x (List.mem_of_mem_drop inn) }

theorem takeSetNoticeLevels_ports (q : Request) : PortsSound (takeSetNoticeLevels q e).1.st := by
  refine withRead_keeps (P := fun e => PortsSound e.st) sound fun x read => ?_
  refine modifyPort_ports_sound sound _ { sound q.port with levels := ?_, threshold := ?_ } <;>
    (unfold readLevels at read; dsimp only at read; split_ifs at read with good; cases read)
  · simp only [Bool.and_eq_true, decide_eq_true_eq] at good
    exact fun i => by simpa using (allOf_iff _).1 good.2 i
  · simp only [Bool.and_eq_true, decide_eq_true_eq] at good
    exact ⟨good.1.1.2, good.1.2⟩

theorem takeClearFaults_ports (q : Request) : PortsSound (takeClearFaults q e).1.st := by
  refine withNone_keeps (P := fun e => PortsSound e.st) sound ?_
  refine mapPorts_ports_sound (modifyPort_ports_sound sound _ { sound q.port with
    bad := show 0 < 8 by decide
    status := fun i => by simp [PortUnit.clearFaults, noFaults]
    faulted := fun h => absurd h (by simp [PortUnit.clearFaults])
    multiple := fun h => absurd h (by simp [PortUnit.clearFaults]) }) fun p => Ports.clearSummary_unit _ _ _

theorem resetPort_ports (p : Port) : PortsSound (resetPort p e).st := by
  have reset : PortsSound (e.modifyPort p (PortUnit.portReset p)).st :=
    modifyPort_ports_sound sound p { PortUnit.atReset_sound p with }
  unfold resetPort
  dsimp only
  split
  · exact mapPorts_ports_sound (portsSound_rests.within (engineLost_within _) reset) fun q => by cases q <;> rfl
  · exact reset

end

theorem ports_ported : Ported fun e => PortsSound e.st where
  within h out sound := portsSound_rests.within h sound (by simpa using out)
  fault _ p k h sound := recordFault_ports sound p k h

theorem ports_tour : Tour fun e => PortsSound e.st where
  transfer _ p _ moved sound := modifyPort_ports_sound sound p ((sound p).transfers moved)
  read _ p count sound := readFrom_ports sound p count
  fault _ p k h sound := recordFault_ports sound p k h
  take _ k q sound _ _ := ports_ported.take sound k q
    (fun _ => withRead_keeps (P := fun e => PortsSound e.st) sound fun x _ =>
      modifyPort_ports_sound sound _ { sound x.1 with })
    (fun _ => takeFetchNotices_ports sound q) (fun _ => takeSetNoticeLevels_ports sound q)
    fun _ => takeClearFaults_ports sound q

theorem effect_ports (c : Instr) (e : Ev) (own : isTransfer c = false) (sound : PortsSound e.st) :
    PortsSound (effect c e).st :=
  ports_ported.effect sound c own fun p _ => resetPort_ports sound p

theorem finish_ports {e : Ev} (sound : PortsSound e.st) : PortsSound e.finish := fun p => by
  rw [finish_unit]
  exact (sound p).offerAll _ _ _

theorem eventOf_ports (c : Instr) (s : State) (run : s.pins.reset = false) (sound : PortsSound s) :
    PortsSound (eventOf c s) :=
  keeps_of_tour ports_tour effect_ports (fun _ _ _ sound => sound)
    (fun e sound => finish_ports (portsSound_rests.within (close_within e) sound)) c s run sound

theorem atReset_ports (s : State) (ports : s.ports = Ports.atReset) : PortsSound s := fun p => by
  rw [ports]
  cases p <;> exact PortUnit.atReset_sound _

/-- RESET's assertion abandons what a port serves, and leaves the rest of its unit (R182). -/
theorem abandon_ports {s : State} (sound : PortsSound s) : PortsSound s.enterReset := fun p => by
  have unit : s.enterReset.ports.unit p = (s.ports.unit p).abandon := by cases p <;> rfl
  rw [unit]
  exact { sound p with }

/-- Settles O9: each change of a port unit keeps its bounds. -/
theorem stepKeepsPorts : Obligations.StepKeepsPorts := by
  refine stepKeeps_of (fun _ _ sound => sound) (fun s sound => ?_) fun c s t sound ran => ?_
  · unfold State.tick
    split
    · exact sound
    · exact sound
  · exact exec_cases ran (fun _ run => eventOf_ports c s run sound) (fun _ _ => sound)
      (fun _ => abandon_ports sound) (fun _ => atReset_ports _ rfl) fun _ => sound

end Sys2Proof.Machine
end

section
/-! The mark list: only its head fires and is served, and a MEASURE has one owner (6.4, O14). -/

namespace Sys2Proof.Machine

-- One proof after another: the stacks of many waiting threads do not fit the memory of one compile.
set_option Elab.async false

/-! ### Sound mark lists -/

/-- A mark has an owner, a MEASURE just one, and a mark in service has fired (R113, R116). -/
def Mark.Sound (m : Mark) : Prop :=
  (m.owners ≠ [] ∧ (m.kind = .measure → m.owners.length = 1)) ∧
    (m.service = .inService → m.fired = true ∧ m.captured.isSome = true)

/-- The marks are sound, and none after the head has fired (R113). -/
def soundMarks (ms : List Mark) : Prop := (∀ m ∈ ms.tail, m.fired = false) ∧ ∀ m ∈ ms, m.Sound

theorem marksSound_iff (s : State) : MarksSound s ↔ soundMarks s.media.marks := by
  constructor
  · intro h
    exact ⟨h.fired, fun m inn => ⟨h.owners m inn, h.service m inn⟩⟩
  · rintro ⟨fired, sound⟩
    exact ⟨fired, fun m inn => (sound m inn).1, fun m inn => (sound m inn).2⟩

theorem soundMarks_nil : soundMarks [] := ⟨by simp, by simp⟩

theorem soundMarks_cons {m : Mark} {ms : List Mark} :
    soundMarks (m :: ms) ↔ m.Sound ∧ ∀ x ∈ ms, x.fired = false ∧ x.Sound := by
  simp only [soundMarks, List.tail_cons, List.mem_cons, forall_eq_or_imp]
  exact ⟨fun ⟨f, s, r⟩ => ⟨s, fun x inn => ⟨f x inn, r x inn⟩⟩,
    fun ⟨s, r⟩ => ⟨fun x inn => (r x inn).1, s, fun x inn => (r x inn).2⟩⟩

theorem soundMarks_of_unfired {ms : List Mark} (h : ∀ x ∈ ms, x.fired = false ∧ x.Sound) : soundMarks ms :=
  ⟨fun m inn => (h m (List.mem_of_mem_tail inn)).1, fun m inn => (h m inn).2⟩

theorem soundMarks_tail {ms : List Mark} (h : soundMarks ms) : soundMarks ms.tail := by
  cases ms with
  | nil => exact h
  | cons m ms => exact soundMarks_of_unfired (soundMarks_cons.1 h).2

/-- Marks may leave the list, and change in what the service does not look at. -/
theorem soundMarks_filterMap {ms : List Mark} {f : Mark → Option Mark} (h : soundMarks ms)
    (kept : ∀ m ∈ ms, ∀ m', f m = some m' → m.Sound → m'.fired = m.fired ∧ m'.Sound) :
    soundMarks (ms.filterMap f) := by
  cases ms with
  | nil => exact soundMarks_nil
  | cons m ms =>
    obtain ⟨head, rest⟩ := soundMarks_cons.1 h
    have tail : ∀ x ∈ ms.filterMap f, x.fired = false ∧ x.Sound := by
      intro x inn
      obtain ⟨y, within, eq⟩ := List.mem_filterMap.1 inn
      obtain ⟨fired, sound⟩ := kept y (List.mem_cons_of_mem _ within) x eq (rest y within).2
      exact ⟨fired.trans (rest y within).1, sound⟩
    rw [List.filterMap_cons]
    split
    · exact soundMarks_of_unfired tail
    · next m' eq => exact soundMarks_cons.2 ⟨(kept m (List.mem_cons_self) m' eq head).2, tail⟩

theorem soundMarks_filter {ms : List Mark} (p : Mark → Bool) (h : soundMarks ms) :
    soundMarks (ms.filter p) := by
  rw [← List.filterMap_eq_filter]
  refine soundMarks_filterMap h fun m _ m' eq sound => ?_
  simp only [Option.guard_eq_some_iff] at eq
  exact eq.1 ▸ ⟨rfl, sound⟩

theorem Mark.fresh_sound (p : Pos) (k : MarkKind) (r : CopyRef) : (Mark.fresh p k r).Sound :=
  ⟨⟨List.cons_ne_nil r [], fun _ => rfl⟩, fun h => nomatch h⟩

theorem mem_insertMark {x m : Mark} {ms : List Mark} : x ∈ insertMark m ms ↔ x = m ∨ x ∈ ms := by
  induction ms with
  | nil => simp [insertMark]
  | cons y ys ih =>
    unfold insertMark
    split
    · rw [List.mem_cons, ih, List.mem_cons]
      tauto
    · simp

/-- An unfired mark enters behind a fired head (R113). -/
theorem soundMarks_insert {ms : List Mark} (p : Pos) (k : MarkKind) (r : CopyRef) (h : soundMarks ms) :
    soundMarks (insertMark (.fresh p k r) ms) := by
  have entered : ∀ x, x = Mark.fresh p k r → x.fired = false ∧ x.Sound := fun x eq =>
    eq ▸ ⟨rfl, Mark.fresh_sound p k r⟩
  cases ms with
  | nil => exact soundMarks_of_unfired fun x inn => entered x (by simpa [insertMark] using inn)
  | cons y ys =>
    obtain ⟨head, rest⟩ := soundMarks_cons.1 h
    unfold insertMark
    split
    · exact soundMarks_cons.2 ⟨head, fun x inn => (mem_insertMark.1 inn).elim (entered x) (rest x)⟩
    · next behind =>
      have unfired : y.fired = false := by
        simp only [Mark.standsBefore, Bool.or_eq_true, not_or, Bool.not_eq_true] at behind
        exact behind.1.1
      refine soundMarks_cons.2 ⟨(entered _ rfl).2, fun x inn => ?_⟩
      rcases List.mem_cons.1 inn with rfl | within
      · exact ⟨unfired, head⟩
      · exact rest x within

theorem soundMarks_placeMeasure {ms : List Mark} (r : CopyRef) (p : Pos) (h : soundMarks ms) :
    soundMarks (placeMeasure r p ms) := soundMarks_insert _ _ r h

theorem soundMarks_placeCut {ms : List Mark} (r : CopyRef) (p : Pos) (h : soundMarks ms) :
    soundMarks (placeCut r p ms) := by
  unfold placeCut
  dsimp only
  split_ifs
  · exact h
  · rw [← List.filterMap_eq_map]
    refine soundMarks_filterMap h fun m _ m' eq sound => ?_
    simp only [Function.comp_apply, Option.some.injEq] at eq
    split at eq
    · next cut =>
      simp only [Bool.and_eq_true, beq_iff_eq] at cut
      exact eq ▸ ⟨rfl, ⟨by simp, fun k => absurd (cut.1.symm.trans k) (by decide)⟩, sound.2⟩
    · exact eq ▸ ⟨rfl, sound⟩
  · exact soundMarks_insert _ _ r h

theorem soundMarks_disownCut {ms : List Mark} (r : CopyRef) (p : Pos) (h : soundMarks ms) :
    soundMarks (disownCut r p ms) := by
  unfold disownCut
  refine soundMarks_filterMap h fun m _ m' eq sound => ?_
  split at eq
  · next cut =>
    simp only [Bool.and_eq_true, beq_iff_eq] at cut
    split at eq
    · cases eq
    · next os _ kept =>
      cases eq
      exact ⟨rfl, ⟨kept, fun k => absurd (cut.1.1.symm.trans k) (by decide)⟩, sound.2⟩
  · cases eq
    exact ⟨rfl, sound⟩

theorem soundMarks_grantMarks {ms : List Mark} (r : CopyRef) (j : Job) (ps : PathSettings) (s : Pos)
    (h : soundMarks ms) : soundMarks (grantMarks r j ps s ms) := by
  have lead : soundMarks (if j.leadCut then placeCut r (s + steps ps.dCut) ms else ms) := by
    split
    · exact soundMarks_placeCut _ _ h
    · exact h
  unfold grantMarks
  dsimp only
  split <;> split
  · exact soundMarks_placeCut _ _ lead
  · exact soundMarks_placeCut _ _ (soundMarks_placeMeasure _ _ lead)
  · exact lead
  · exact soundMarks_placeMeasure _ _ lead

/-- The head changes alone. -/
theorem soundMarks_modifyHead {ms : List Mark} {f : Mark → Mark} (h : soundMarks ms)
    (head : ∀ m, ms.head? = some m → m.Sound → (f m).Sound) : soundMarks (modifyHead f ms) := by
  cases ms with
  | nil => exact h
  | cons m ms =>
    obtain ⟨sound, rest⟩ := soundMarks_cons.1 h
    exact soundMarks_cons.2 ⟨head m rfl sound, rest⟩

/-! ### What the service of the marks keeps -/

/-- The marks of an event are sound. -/
def Ev.marked (e : Ev) : Prop := soundMarks e.st.media.marks

theorem marked_rests : Rests [.marks] Ev.marked := fun e e' same sound => by
  have kept : e'.st.media.marks = e.st.media.marks := same .marks (by decide)
  rw [Ev.marked, kept]
  exact sound

/-- The head of the list has fired: its service may begin (R116). -/
def Ev.headFired (e : Ev) : Prop := ∀ m, e.st.media.marks.head? = some m → m.fired = true

section
variable {e : Ev} (sound : e.marked)

include sound

theorem dropMeasureMark_marked (r : CopyRef) : (dropMeasureMark r e).marked := soundMarks_filter _ sound

theorem reportResult_marked (r : CopyRef) (res : MeasureResult) (f : Figures) :
    (reportResult r res f e).marked := by
  unfold reportResult
  exact marked_rests.within (mayClose_within _ _) (dropMeasureMark_marked (by exact sound) r)

theorem endDropped_marked (r : CopyRef) : (endDropped r e).marked := by
  unfold endDropped
  exact marked_rests.within (mayClose_within _ _) (dropMeasureMark_marked (by exact sound) r)

theorem endExchange_marked (m : Measurement) (res : MeasureResult) (f : Figures) :
    (endExchange m res f e).marked := by
  unfold endExchange
  split
  · exact endDropped_marked sound _
  · exact reportResult_marked sound _ _ _

theorem judgeExchange_marked (m : Measurement) (records : List PatchRecord) :
    (judgeExchange m records e).marked := by
  unfold judgeExchange
  split_ifs
  · exact endDropped_marked sound _
  · split
    · exact endDropped_marked sound _
    · split
      · exact endDropped_marked sound _
      · refine reportResult_marked ?_ _ _ _
        split
        · exact marked_rests.within (modifyRecord_within e _ fun _ => rfl) sound
        · exact sound

theorem beginMeasure_marked (r : CopyRef) (p q : Pos) : (beginMeasure r p q e).marked := by
  unfold beginMeasure
  dsimp only
  split
  · exact reportResult_marked sound _ _ _
  · split
    · split
      · exact sound
      · exact reportResult_marked sound _ _ _
    · split
      · exact sound
      · split
        · exact sound
        · exact reportResult_marked sound _ _ _

theorem judgeGrant_marked : (judgeGrant e).marked := by
  unfold judgeGrant
  split
  · exact sound
  · split
    · split
      · exact reportResult_marked sound _ _ _
      · exact sound
    · exact sound

theorem dropNotBegun_marked (r : CopyRef) : (dropNotBegun r e).marked := by
  unfold dropNotBegun
  exact marked_rests.within (mayClose_within _ _) (dropMeasureMark_marked (by exact sound) r)

theorem dropMeasure_marked (r : CopyRef) : (dropMeasure r e).marked := by
  unfold dropMeasure
  split
  · exact sound
  · split
    · exact sound
    · split
      · exact dropNotBegun_marked sound r
      · split
        · exact dropNotBegun_marked sound r
        · split
          · exact endDropped_marked sound r
          · exact sound

theorem resolveCut_marked (o : CutOutcome) (m : Mark) : (resolveCut o m e).marked := by
  unfold resolveCut
  refine marked_rests.within (mayClose_within _ _) (soundMarks_tail ?_)
  exact marked_rests.within (Ev.Within.foldl _ _ _ fun e r => modifyAttempt_within e r _) sound

theorem serveHead_marked (q : Pos) (fired : e.headFired) :
    soundMarks (modifyHead (Mark.serve q) e.st.media.marks) :=
  soundMarks_modifyHead sound fun m head s => ⟨s.1, fun _ => ⟨fired m head, rfl⟩⟩

theorem beginService_marked (m : Mark) (q : Pos) (fired : e.headFired) : (beginService m q e).marked := by
  unfold beginService
  split
  · split
    · exact resolveCut_marked sound _ _
    · exact serveHead_marked sound q fired
    · exact sound
  · split
    · exact sound
    · exact beginMeasure_marked
        (e := e.mapMedia fun x => { x with marks := modifyHead (Mark.serve q) x.marks })
        (serveHead_marked sound q fired) _ _ _

theorem fireHead_marked : (fireHead e).marked :=
  soundMarks_modifyHead sound fun _ _ s => ⟨s.1, fun served => ⟨rfl, (s.2 served).2⟩⟩

omit sound in
theorem fireHead_headFired : (fireHead e).headFired := by
  intro m head
  have marks : (fireHead e).st.media.marks = modifyHead (fun m => { m with fired := true }) e.st.media.marks :=
    rfl
  rw [marks] at head
  cases list : e.st.media.marks with
  | nil => rw [list] at head; cases head
  | cons x xs => rw [list] at head; cases head; rfl

theorem serveWaiting_marked (q : Pos) : (serveWaiting q e).marked := by
  unfold serveWaiting
  split
  · exact sound
  · next m ms list =>
    split
    · next fired =>
      simp only [Bool.and_eq_true] at fired
      refine beginService_marked sound _ _ fun x head => ?_
      rw [list] at head
      cases head
      exact fired.1
    · exact sound

theorem resolveHead_marked (o : CutOutcome) : (resolveHead o e).marked := by
  unfold resolveHead
  split
  · exact sound
  · split
    · exact resolveCut_marked sound _ _
    · exact sound

theorem withdrawMeasure_marked (r : CopyRef) : (withdrawMeasure r e).marked := by
  unfold withdrawMeasure
  split
  · exact dropMeasureMark_marked (by exact sound) r
  · exact sound

theorem moveTrailingCut_marked (r : CopyRef) (j : Job) : (moveTrailingCut r j e).marked := by
  unfold moveTrailingCut
  split
  · exact sound
  · next m _ =>
    split
    · exact sound
    · have moved (p : Pos) := soundMarks_placeCut r p (soundMarks_disownCut r m.pos sound)
      dsimp only
      split <;> exact moved _

theorem endMarks_marked (r : CopyRef) : (endMarks r e).marked := by
  unfold endMarks
  split
  · exact sound
  · exact moveTrailingCut_marked (withdrawMeasure_marked sound r) r _

theorem endPrinting_marked (cause : EndCause) : (endPrinting cause e).marked := by
  unfold endPrinting
  split
  · exact sound
  · next r _ =>
    have ended : (((endPause e).modifyCopy r (CopyRecord.endPrinting cause e.st.now e.st.media.pos)).mapSched
        (Schedule.endPrinting cause r)).marked :=
      marked_rests.within (mapGrant_within _ rfl rfl) <|
        marked_rests.within (modifyCopy_within _ r _) (marked_rests.within (endPause_within e) sound)
    refine marked_rests.within (mayClose_within _ _) ?_
    split
    · exact marked_rests.within (startDryClock_within _ r) ended
    · exact endMarks_marked ended r

theorem settle_marked : (settle e).marked := marked_rests.within (settle_within e) sound

end

theorem runHeadFrom_marked (n : Nat) {e : Ev} (sound : e.marked) : (runHeadFrom n e).marked := by
  induction n generalizing e with
  | zero => exact sound
  | succ n ih =>
    unfold runHeadFrom
    split
    · exact sound
    · split_ifs
      · exact sound
      · exact ih (beginService_marked (fireHead_marked sound) _ _ fireHead_headFired)
      · exact fireHead_marked sound

section
variable {e : Ev} (sound : e.marked)

include sound

theorem runHead_marked : (runHead e).marked := runHeadFrom_marked _ sound

theorem settleMarks_marked : (settleMarks e).marked := settle_marked (runHead_marked sound)

theorem engineLost_marked : (engineLost e).marked := by
  have lost : (triggerScan .desk ((((endPrinting .engineLost e).mapSched fun u =>
      { u with abort := none }).mapMeter fun m => { m with confirmed := false }).mapInk fun i =>
        { i with bays := mapTable Bay.distrust i.bays })).marked :=
    marked_rests.within (triggerScan_within _ _) (endPrinting_marked sound .engineLost)
  exact marked_rests.within (setLost_within _ true) <|
    marked_rests.within (holdFallback_within _) (runHead_marked lost)

theorem enterFaulted_marked (p : Port) (k : FaultKind) : (enterFaulted p k e).marked := by
  unfold enterFaulted
  dsimp only
  split
  · exact engineLost_marked (by exact sound)
  · exact sound

theorem recordFault_marked (p : Port) (k : FaultKind) (h : Option Header) :
    (recordFault p k h e).marked := by
  unfold recordFault
  split
  · exact sound
  · dsimp only
    split
    · exact enterFaulted_marked (by exact sound) p k
    · exact sound

theorem grant_marked (r : CopyRef) (j : Job) (roll : Fin 2) (i : Fin 32) : (grant r j roll i e).marked := by
  unfold grant
  exact judgeGrant_marked (soundMarks_grantMarks r j _ _ sound)

/-! ### The requests that write the marks -/

theorem cancelJob_marked (h : Fin 32) (j : Job) : (cancelJob h j e).marked := by
  have withdrawn : (leaveWaitList h.val (releaseReservation h.val
      (e.modifyJob h.val fun k => { k with cancelled := true }))).marked :=
    marked_rests.within (leaveWaitList_within _ _) <| marked_rests.within (releaseReservation_within _ _) sound
  unfold cancelJob
  dsimp only
  refine marked_rests.within (closeJobIfDone_within _ _) ?_
  refine marked_rests.within (modifyJob_within _ _ fun _ => ⟨rfl, rfl⟩) ?_
  refine foldl_keeps Ev.marked _ _ _ (fun e r sound => dropMeasure_marked sound r) ?_
  split
  · exact endPrinting_marked (by exact withdrawn) _
  · exact withdrawn

theorem takeCancelJob_marked (q : Request) : (takeCancelJob q e).1.marked := by
  refine withJob_keeps (P := Ev.marked) sound fun h j _ => ?_
  split
  · exact sound
  · dsimp only
    exact settleMarks_marked (cancelJob_marked sound h j)

theorem swathFaults_marked (cls : SwathClass) (held : Bool) (h : Header) :
    (swathFaults cls held h e).marked := by
  have first : (if cls = .stray then recordFault .engine .staleRef (some h) e else e).marked := by
    split
    · exact recordFault_marked sound _ _ _
    · exact sound
  unfold swathFaults
  dsimp only
  split
  · exact recordFault_marked first _ _ _
  · exact first

theorem takeSwathReport_marked (q : Request) : (takeSwathReport q e).1.marked := by
  unfold takeSwathReport
  split
  · dsimp only
    exact settle_marked <| swathFaults_marked (marked_rests.within (assign_within _ _ _ _)
      (marked_rests.within (drawReport_within e _) sound)) _ _ _
  · exact sound

theorem answerWalk_marked : (answerWalk e).1.marked := by
  unfold answerWalk
  split
  · exact sound
  · split
    · exact sound
    · split
      · split
        · exact sound
        · dsimp only
          exact settleMarks_marked (grant_marked sound _ _ _ _)
      · exact sound

theorem takePanelRequest_marked (q : Request) : (takePanelRequest q e).1.marked := by
  refine withNone_keeps (P := Ev.marked) sound ?_
  split
  · exact sound
  · dsimp only
    split
    · exact answerWalk_marked (marked_rests.within (load_within e) sound)
    · exact sound

theorem takePanelDone_marked (q : Request) : (takePanelDone q e).1.marked := by
  refine withRead_keeps (P := Ev.marked) sound fun r _ => ?_
  split
  · dsimp only
    exact settleMarks_marked (marked_rests.within (copyEndTrigger_within _) (endPrinting_marked sound _))
  · exact sound
  · exact recordFault_marked sound _ _ _

theorem takePanelAbort_marked (q : Request) : (takePanelAbort q e).1.marked := by
  refine withRead_keeps (P := Ev.marked) sound fun r _ => ?_
  split
  · dsimp only
    exact settleMarks_marked (endPrinting_marked sound _)
  · exact sound
  · exact recordFault_marked sound _ _ _

theorem holdTaken_marked : (holdTaken e).marked := by
  unfold holdTaken
  exact settleMarks_marked (serveWaiting_marked (marked_rests.within (syncPause_within _) (by exact sound)) _)

theorem takeHoldTaken_marked (q : Request) : (takeHoldTaken q e).1.marked := by
  refine withNone_keeps (P := Ev.marked) sound ?_
  split
  · dsimp only
    exact holdTaken_marked sound
  · exact recordFault_marked sound _ _ _

/-! ### The commands of the lines and the timers -/

theorem feed_marked (d : Direction) : (feed d e).marked := by
  have counted : (countStep d e).marked := marked_rests.within (countStep_within e d) sound
  have ended : (if e.st.media.exhausts d then endPrinting .mediaOut (countStep d e)
      else countStep d e).marked := by
    split
    · exact endPrinting_marked counted _
    · exact counted
  have faulted {f : Ev} (held : Bool) (kept : f.marked) : (feedFault held f).marked := by
    unfold feedFault
    split
    · exact recordFault_marked kept _ _ _
    · exact kept
  cases d
  · exact settle_marked (faulted _ (runHead_marked ended))
  · exact faulted _ ended

theorem homeRises_marked : (homeRises e).marked := by
  unfold homeRises
  split
  · exact settleMarks_marked (resolveHead_marked (by exact sound) _)
  · exact sound

theorem examineMessage_marked (g : List Byte) : (examineMessage g e).marked := by
  unfold examineMessage
  split
  · exact sound
  · split
    · exact sound
    · split_ifs
      · exact sound
      · exact settleMarks_marked (endExchange_marked sound _ _ _)
      · exact sound
      · exact settleMarks_marked (judgeExchange_marked sound _ _)

theorem headByte_marked (b : Byte) : (headByte b e).marked := by
  unfold headByte
  dsimp only
  split
  · exact sound
  · exact examineMessage_marked (by exact sound) _

theorem headBytes_marked (bytes : List Byte) : (headBytes bytes e).marked :=
  foldl_keeps Ev.marked _ _ _ (fun _ b kept => headByte_marked kept b) sound

theorem pauseExpires_marked : (pauseExpires e).marked :=
  settleMarks_marked (endPrinting_marked (marked_rests.within (exhaustPause_within e) sound) _)

theorem cutterExpires_marked : (cutterExpires e).marked := by
  unfold cutterExpires
  dsimp only
  split
  · exact settleMarks_marked (resolveHead_marked (by exact sound) _)
  · exact settleMarks_marked (resolveHead_marked (by exact sound) _)
  · exact sound

theorem dryExpires_marked : (dryExpires e).marked := by
  unfold dryExpires
  dsimp only
  split
  · exact sound
  · split
    · exact sound
    · exact sound

theorem headExpires_marked : (headExpires e).marked := by
  unfold headExpires
  dsimp only
  split
  · exact sound
  · split
    · exact sound
    · exact settleMarks_marked (endExchange_marked (by exact sound) _ _ _)

theorem resetPort_marked (p : Port) : (resetPort p e).marked := by
  unfold resetPort
  dsimp only
  split
  · exact engineLost_marked (by exact sound)
  · exact sound

theorem expiring_marked (due : State → Option Nat) {f : Ev → Ev}
    (kept : ∀ {e : Ev}, e.marked → (f e).marked) : (expiring due f e).marked := by
  unfold expiring
  split
  · exact sound
  · exact kept (by exact sound)

end

/-! ### Every step -/

theorem marks_tour : Tour Ev.marked where
  transfer e p f moved sound := sound
  read e p count sound := marked_rests.within (readFrom_within e p count) sound
  fault e p k h sound := recordFault_marked sound p k h
  take e k q sound _ _ := by
    by_cases out : ∀ p ∈ [Part.marks], p ∉ takeParts k
    · exact marked_rests.within (takeOf_within q e k) sound out
    · cases k
      case cancelJob => exact takeCancelJob_marked sound q
      case swathReport => exact takeSwathReport_marked sound q
      case panelRequest => exact takePanelRequest_marked sound q
      case panelDone => exact takePanelDone_marked sound q
      case panelAbort => exact takePanelAbort_marked sound q
      case holdTaken => exact takeHoldTaken_marked sound q
      all_goals exact absurd (by decide) out

theorem effect_marked (c : Instr) (e : Ev) (own : isTransfer c = false) (sound : e.marked) :
    (effect c e).marked := by
  by_cases out : .marks ∈ effectParts c
  · cases c
    case portReset p => exact resetPort_marked sound p
    case feedStep d => exact feed_marked sound d
    case cutHomeRise => exact homeRises_marked sound
    case patch bytes | headEnd bytes | headOther bytes => exact headBytes_marked sound bytes
    case headByteGap b => exact headByte_marked (by exact sound) b
    case holdAckExpiry =>
      exact expiring_marked sound (fun s => s.media.hold.ackTimer) fun {e} sound =>
        recordFault_marked (by exact sound) _ _ _
    case pauseExpiry =>
      exact expiring_marked sound (fun s => s.media.pause.map (·.due)) fun sound => pauseExpires_marked sound
    case cutterTimerExpiry =>
      exact expiring_marked sound (fun s => s.media.cutterTimer) fun sound => cutterExpires_marked sound
    case dryWaitExpiry =>
      exact expiring_marked sound (fun s => s.colour.dryTimer) fun sound => dryExpires_marked sound
    case headTimerExpiry =>
      exact expiring_marked sound (fun s => s.colour.headTimer) fun sound => headExpires_marked sound
    all_goals first | exact absurd out (of_decide_eq_false rfl) | cases own
  · exact marked_rests.within (effect_within c e) sound (by simpa using out)

theorem eventOf_marks (c : Instr) (s : State) (run : s.pins.reset = false) (sound : MarksSound s) :
    MarksSound (eventOf c s) :=
  keeps_of_tour (Q := MarksSound) marks_tour effect_marked (fun _ s _ sound => (marksSound_iff s).1 sound)
    (fun e sound => (marksSound_iff _).2 (by exact marked_rests.within (close_within e) sound)) c s run sound

/-- Settles O14: marks enter unfired, and the list's head alone fires and is served. -/
theorem stepKeepsMarks : Obligations.StepKeepsMarks := by
  refine stepKeeps_of (fun _ _ sound => { sound with }) (fun s sound => ?_) fun c s t sound ran => ?_
  · unfold State.tick
    split
    · exact sound
    · exact { sound with }
  · exact exec_cases ran (fun _ run => eventOf_marks c s run sound) (fun _ _ => { sound with })
      (fun _ => { sound with }) (fun _ => (marksSound_iff _).2 soundMarks_nil) fun _ => { sound with }

end Sys2Proof.Machine
end

section
/-! The choices of the oldest and of the newest by admission order, and the walk of the phases (R42, R90,
O30). -/

namespace Sys2Proof.Machine

-- One proof after another: the stacks of many waiting threads do not fit the memory of one compile.
set_option Elab.async false

/-! ### A walk that keeps the first in an order -/

/-- One step of a walk that keeps, of those that pass, one that stands before all kept so far. -/
def keepFirst {α : Type} (ok : α → Bool) (before : α → α → Bool) (best : Option α) (x : α) : Option α :=
  if ok x then
    match best with
    | none => some x
    | some b => if before x b then some x else best
  else best

section
variable {α : Type} {ok : α → Bool} {before : α → α → Bool}

theorem keepFirst_of_not {x : α} (best : Option α) (fails : ok x = false) :
    keepFirst ok before best x = best := by
  simp [keepFirst, fails]

theorem keepFirst_of_ok {x : α} (best : Option α) (passes : ok x = true) :
    keepFirst ok before best x = some x ∨
      ∃ b, best = some b ∧ before x b = false ∧ keepFirst ok before best x = some b := by
  unfold keepFirst
  rw [if_pos passes]
  cases best with
  | none => exact .inl rfl
  | some b =>
    dsimp only
    split
    · exact .inl rfl
    · next later => exact .inr ⟨b, rfl, by simpa using later, rfl⟩

/-- What is kept passes, or was kept before. -/
theorem foldl_keepFirst_some {l : List α} {best : Option α} {h : α}
    (kept : l.foldl (keepFirst ok before) best = some h) : best = some h ∨ ok h = true := by
  induction l generalizing best with
  | nil => exact .inl kept
  | cons x l ih =>
    rcases ih kept with first | passes
    · by_cases passes : ok x = true
      · rcases keepFirst_of_ok (before := before) best passes with eq | ⟨b, was, -, eq⟩
        · cases eq.symm.trans first
          exact .inr passes
        · cases eq.symm.trans first
          exact .inl was
      · rw [keepFirst_of_not _ (by simpa using passes)] at first
        exact .inl first
    · exact .inr passes

/-- Nothing is kept where nothing passes. -/
theorem foldl_keepFirst_none {l : List α} {best : Option α} :
    l.foldl (keepFirst ok before) best = none ↔ best = none ∧ ∀ x ∈ l, ok x = false := by
  induction l generalizing best with
  | nil => simp
  | cons x l ih =>
    rw [List.foldl_cons, ih, List.forall_mem_cons]
    cases passes : ok x with
    | false => rw [keepFirst_of_not _ passes]; simp
    | true =>
      refine ⟨fun ⟨none_, _⟩ => ?_, fun ⟨_, fails, _⟩ => nomatch fails⟩
      rcases keepFirst_of_ok (before := before) best passes with eq | ⟨b, -, -, eq⟩ <;>
        exact nomatch eq.symm.trans none_

/-- What is kept stands first, where a key gives the order of all that pass. -/
theorem foldl_keepFirst_least {key : α → Nat}
    (order : ∀ x y, ok x = true → ok y = true → (before x y = true ↔ key x < key y)) {l : List α}
    {best : Option α} {h : α} (had : ∀ b, best = some b → ok b = true)
    (kept : l.foldl (keepFirst ok before) best = some h) :
    (∀ b, best = some b → key h ≤ key b) ∧ ∀ x ∈ l, ok x = true → key h ≤ key x := by
  induction l generalizing best with
  | nil => cases kept; exact ⟨fun b eq => by cases eq; exact Nat.le_refl _, by simp⟩
  | cons x l ih =>
    by_cases passes : ok x = true
    · rcases keepFirst_of_ok (before := before) best passes with eq | ⟨b, was, later, eq⟩
      · obtain ⟨now, rest⟩ := ih (fun b at_ => by cases eq.symm.trans at_; exact passes) kept
        have least := now x eq
        refine ⟨fun b at_ => ?_, fun y inn pass => ?_⟩
        · subst at_
          unfold keepFirst at eq
          rw [if_pos passes] at eq
          dsimp only at eq
          split at eq
          · next first => exact least.trans ((order x b passes (had b rfl)).1 first).le
          · cases eq; exact least
        · rcases List.mem_cons.1 inn with rfl | within
          · exact least
          · exact rest y within pass
      · obtain ⟨now, rest⟩ := ih (fun c at_ => by cases eq.symm.trans at_; exact had b was) kept
        have least := now b eq
        have after : key b ≤ key x := by
          refine Nat.le_of_not_lt fun lt => ?_
          rw [(order x b passes (had b was)).2 lt] at later
          cases later
        refine ⟨fun c at_ => by cases was.symm.trans at_; exact least, fun y inn pass => ?_⟩
        rcases List.mem_cons.1 inn with rfl | within
        · exact least.trans after
        · exact rest y within pass
    · have fails : ok x = false := by simpa using passes
      rw [List.foldl_cons, keepFirst_of_not _ fails] at kept
      obtain ⟨now, rest⟩ := ih had kept
      refine ⟨now, fun y inn pass => ?_⟩
      rcases List.mem_cons.1 inn with rfl | within
      · exact absurd pass passes
      · exact rest y within pass

end

/-! ### The oldest eligible job of a lane -/

/-- The handle names an eligible job of the lane. -/
def State.offers (s : State) (lane : Fin 4) (h : Fin 32) : Bool :=
  (s.job? h.val).any fun j => j.lane = lane ∧ s.eligible j

theorem offers_iff {s : State} {lane : Fin 4} {h : Fin 32} :
    s.offers lane h = true ↔ ∃ j, s.job? h.val = some j ∧ s.eligible j = true ∧ j.lane = lane := by
  simp only [State.offers, Option.any_eq_true, decide_eq_true_eq]
  exact ⟨fun ⟨j, open_, l, e⟩ => ⟨j, open_, e, l⟩, fun ⟨j, open_, e, l⟩ => ⟨j, open_, l, e⟩⟩

theorem seqOf_of_job? {s : State} {h : Nat} {j : Job} (open_ : s.job? h = some j) : s.seqOf h = j.seq := by
  simp [State.seqOf, open_]

theorem laneChoice_eq (s : State) (lane : Fin 4) :
    s.laneChoice lane = (List.finRange 32).foldl
      (keepFirst (s.offers lane) fun x b => admittedBefore (s.seqOf x.val) (s.seqOf b.val)) none := by
  unfold State.laneChoice
  congr 1
  funext best h
  unfold keepFirst State.offers
  cases open_ : s.job? h.val with
  | none => rfl
  | some j =>
    simp only [Option.any_some, decide_eq_true_eq, seqOf_of_job? open_]
    by_cases offered : j.lane = lane ∧ s.eligible j = true
    · rw [if_pos offered, if_pos offered]
      cases best <;> rfl
    · rw [if_neg offered, if_neg offered]

theorem laneChoice_some {s : State} {lane : Fin 4} {h : Fin 32} (chosen : s.laneChoice lane = some h) :
    ∃ j, s.job? h.val = some j ∧ s.eligible j = true ∧ j.lane = lane := by
  rw [laneChoice_eq] at chosen
  rcases foldl_keepFirst_some chosen with none_ | offered
  · cases none_
  · exact offers_iff.1 offered

theorem job?_lt {s : State} {h : Nat} {j : Job} (open_ : s.job? h = some j) : h < 32 := by
  unfold State.job? at open_
  split at open_
  · assumption
  · cases open_

theorem laneChoice_none {s : State} {lane : Fin 4} : s.laneChoice lane = none ↔
    ¬ ∃ h j, s.job? h = some j ∧ s.eligible j = true ∧ j.lane = lane := by
  rw [laneChoice_eq, foldl_keepFirst_none]
  constructor
  · rintro ⟨-, fails⟩ ⟨h, j, open_, eligible, lane_⟩
    have offered : s.offers lane ⟨h, job?_lt open_⟩ = true := offers_iff.2 ⟨j, open_, eligible, lane_⟩
    rw [fails _ (List.mem_finRange _)] at offered
    cases offered
  · intro nothing
    refine ⟨rfl, fun h _ => Bool.eq_false_iff.2 fun offered => ?_⟩
    obtain ⟨j, found⟩ := offers_iff.1 offered
    exact nothing ⟨h.val, j, found⟩

/-- Within half the counter's range of a base, admission order is that of the distances from it (R3). -/
theorem admittedBefore_iff {a b base : BitVec 32} (ha : (a - base).toNat < 2147483648)
    (hb : (b - base).toNat < 2147483648) :
    admittedBefore a b = true ↔ (a - base).toNat < (b - base).toNat := by
  unfold admittedBefore
  rw [decide_eq_true_eq, BitVec.toInt_eq_toNat_cond]
  rw [BitVec.toNat_sub] at ha hb ⊢
  rw [BitVec.toNat_sub, BitVec.toNat_sub]
  have := a.isLt
  have := b.isLt
  have := base.isLt
  split <;> omega

/-- How long after the base a job was admitted (R3). -/
def State.age (s : State) (base : BitVec 32) (h : Nat) : Nat := (s.seqOf h - base).toNat

theorem admittedBefore_age {s : State} {base : BitVec 32} {h h' : Nat} {j j' : Job}
    (near : ∀ h j, s.job? h = some j → (j.seq - base).toNat < 2147483648)
    (open_ : s.job? h = some j) (other : s.job? h' = some j') :
    admittedBefore (s.seqOf h) (s.seqOf h') = true ↔ s.age base h < s.age base h' := by
  unfold State.age
  rw [seqOf_of_job? open_, seqOf_of_job? other]
  exact admittedBefore_iff (near _ _ open_) (near _ _ other)

theorem laneChoice_oldest {s : State} {lane : Fin 4} {base : BitVec 32} {h : Fin 32} {j : Job}
    (near : ∀ h j, s.job? h = some j → (j.seq - base).toNat < 2147483648)
    (chosen : s.laneChoice lane = some h) (open_ : s.job? h.val = some j) {h' : Nat} {j' : Job}
    (other : s.job? h' = some j') (eligible : s.eligible j' = true) (lane_ : j'.lane = lane) :
    admittedBefore j'.seq j.seq = false := by
  have offered := offers_iff (h := ⟨h', job?_lt other⟩).2 ⟨j', other, eligible, lane_⟩
  have least : s.age base h.val ≤ s.age base h' := by
    rw [laneChoice_eq] at chosen
    refine (foldl_keepFirst_least (key := fun x : Fin 32 => s.age base x.val) (fun x y offX offY => ?_)
      (fun b at_ => by cases at_) chosen).2 ⟨h', job?_lt other⟩ (List.mem_finRange _) offered
    obtain ⟨i, openX, -⟩ := offers_iff.1 offX
    obtain ⟨k, openY, -⟩ := offers_iff.1 offY
    exact admittedBefore_age near openX openY
  refine Bool.eq_false_iff.2 fun before => ?_
  rw [← seqOf_of_job? open_, ← seqOf_of_job? other] at before
  exact absurd ((admittedBefore_age near other open_).1 before) (Nat.not_lt.2 least)

/-! ### The walk of the phases -/

/-- The phase `m` places from `i` on. -/
def phaseAt (i : Fin 32) (m : Nat) : Fin 32 := i + Fin.ofNat 32 m

theorem phaseAt_zero (i : Fin 32) : phaseAt i 0 = i := by
  apply Fin.ext
  simp [phaseAt]

theorem phaseAt_succ (i : Fin 32) (m : Nat) : phaseAt (i + 1) m = phaseAt i (m + 1) := by
  apply Fin.ext
  simp only [phaseAt, Fin.val_add, Fin.val_ofNat]
  show ((i.val + 1) % 32 + m % 32) % 32 = (i.val + (m + 1) % 32) % 32
  omega

theorem phaseAt_sub (i k : Fin 32) : phaseAt i (k - i).val = k := by
  apply Fin.ext
  simp only [phaseAt, Fin.val_add, Fin.val_ofNat, Fin.val_sub]
  have := i.isLt
  have := k.isLt
  omega

theorem phaseAt_val (i k : Fin 32) : phaseAt i k.val = i + k := by
  apply Fin.ext
  simp only [phaseAt, Fin.val_add, Fin.val_ofNat]
  have := k.isLt
  omega

/-- The job that a phase offers: the oldest eligible one of its lane (R90). -/
def State.phaseChoice (s : State) (i : Fin 32) : Option (Fin 32) := s.laneChoice s.sched.live[i]

theorem walkPhases_some {s : State} {n : Nat} {i k h : Fin 32} (found : s.walkPhases n i = some (k, h)) :
    s.phaseChoice k = some h ∧ ∃ m < n, k = phaseAt i m ∧ ∀ m' < m, s.phaseChoice (phaseAt i m') = none := by
  induction n generalizing i with
  | zero => cases found
  | succ n ih =>
    unfold State.walkPhases at found
    split at found
    · next chosen =>
      cases found
      exact ⟨chosen, 0, Nat.succ_pos n, (phaseAt_zero _).symm, fun _ lt => nomatch lt⟩
    · next nothing =>
      obtain ⟨chosen, m, lt, at_, before⟩ := ih found
      refine ⟨chosen, m + 1, Nat.succ_lt_succ lt, at_.trans (phaseAt_succ i m), fun m' lt' => ?_⟩
      cases m' with
      | zero => rw [phaseAt_zero]; exact nothing
      | succ m' => rw [← phaseAt_succ]; exact before m' (Nat.lt_of_succ_lt_succ lt')

theorem walkPhases_none {s : State} {n : Nat} {i : Fin 32} :
    s.walkPhases n i = none ↔ ∀ m < n, s.phaseChoice (phaseAt i m) = none := by
  induction n generalizing i with
  | zero => exact ⟨fun _ _ lt => (nomatch lt), fun _ => rfl⟩
  | succ n ih =>
    unfold State.walkPhases
    split
    · next h chosen =>
      refine ⟨fun eq => (nomatch eq), fun nothing => ?_⟩
      have first := nothing 0 (Nat.succ_pos n)
      rw [phaseAt_zero] at first
      cases first.symm.trans chosen
    · next nothing =>
      rw [ih]
      constructor
      · intro rest m lt
        cases m with
        | zero => rw [phaseAt_zero]; exact nothing
        | succ m => rw [← phaseAt_succ]; exact rest m (Nat.lt_of_succ_lt_succ lt)
      · intro all m lt
        rw [phaseAt_succ]
        exact all (m + 1) (Nat.succ_lt_succ lt)

/-- A walk that grants names an eligible job. -/
theorem walkPhases_eligible {s : State} {n : Nat} {i k h : Fin 32}
    (found : s.walkPhases n i = some (k, h)) : ∃ j, s.job? h.val = some j ∧ s.eligible j = true := by
  obtain ⟨j, open_, eligible, -⟩ := laneChoice_some (walkPhases_some found).1
  exact ⟨j, open_, eligible⟩

theorem queued_of_eligible {s : State} {j : Job} (eligible : s.eligible j = true) : j.state = .queued := by
  unfold State.eligible at eligible
  simp only [Bool.and_eq_true, beq_iff_eq] at eligible
  exact eligible.1

/-- Settles O30: the walk asks each phase in turn for the oldest eligible job of its lane. -/
theorem walkOfThePhases : Obligations.WalkOfThePhases := by
  unfold Obligations.WalkOfThePhases
  intro s start base near offers
  refine ⟨fun i h found => ?_, ?_⟩
  · obtain ⟨chosen, m, lt, at_, before⟩ := walkPhases_some found
    obtain ⟨j, open_, eligible, lane⟩ := laneChoice_some chosen
    refine ⟨⟨j, open_, eligible, lane, fun h' j' => laneChoice_oldest near chosen open_⟩, fun k passed => ?_⟩
    have distance : (i - start).val = m := by
      rw [at_]
      simp only [phaseAt, Fin.val_sub, Fin.val_add, Fin.val_ofNat]
      have := start.isLt
      omega
    have nothing := before k.val (distance ▸ passed)
    rw [phaseAt_val] at nothing
    exact laneChoice_none.1 nothing
  · rw [walkPhases_none]
    constructor
    · intro nothing i
      have passed := nothing (i - start).val (i - start).isLt
      rw [phaseAt_sub] at passed
      exact laneChoice_none.1 passed
    · exact fun nothing m _ => laneChoice_none.2 (nothing _)

end Sys2Proof.Machine
end

section
/-! A property of the jobs, the grant and the ledgers that few operations reach, with a property that the
consequences at the end of an event establish: what those operations owe, and what every step then keeps
(95_what_each_step_holds.md; log 14). -/

namespace Sys2Proof.Machine

-- One proof after another: the stacks of many waiting threads do not fit the memory of one compile.
set_option Elab.async false

/-- The parts of jobs, grant and ledgers. -/
abbrev ledgerParts : List Part := [.books, .waitList, .reserved, .short, .dues, .locked, .grant]

/-- The parts that the consequences at the end of an event bring into agreement. -/
abbrev settledParts : List Part := [.usable, .dry, .marks, .grip, .roster] ++ ledgerParts

/-- The records of a collected job freed (R22). -/
def collected (h : Fin 32) (j : Job) (e : Ev) : Ev :=
  (((e.modifyAccount j.account fun a => { a with openJobs := a.openJobs - 1 }).mapCost
      (CostUnit.lockPrices j.priceSet (· - 1))).mapColour (ColourUnit.lockRefs j.check (· - 1))).mapStore
    (JobStore.collect h j)

/-- A job entered in the table, the accounts and the locks, before its ask is tried (R7, R155). -/
def listed (h : Fin 32) (j : Job) (e : Ev) : Ev :=
  (((e.mapStore (JobStore.addJob h j)).modifyAccount j.account fun a =>
      { a with openJobs := a.openJobs + 1, committed := a.committed + j.estimateCost }).mapCost
    (CostUnit.lockPrices j.priceSet (· + 1))).mapColour (ColourUnit.lockRefs j.check (· + 1))

theorem admitJob_eq (h : Fin 32) (j : Job) (e : Ev) : admitJob h j e =
    if (listed h j e).st.ink.fits j then takeReservation h.val j (listed h j e)
    else joinWaitList h (listed h j e) := rfl

/-- What the operations on jobs, grant and ledgers owe: each keeps `P`; the consequences at the end of an
event establish `Q`, and the requests that come without them keep both. -/
structure Core (P Q : Ev → Prop) : Prop where
  restP : Rests ledgerParts P
  restQ : Rests settledParts Q
  ends : ∀ e cause, P e → P (endPrinting cause e)
  draws : ∀ e h v, P e → P (drawdown h v e)
  settles : ∀ e, P e → P (settle e) ∧ Q (settle e)
  grants : ∀ (e : Ev) (h : Fin 32) (j : Job) (n : Nat) (c : CopyRecord) (roll : Fin 2) (i : Fin 32), P e → Q e →
    e.st.printing = none → e.st.job? h.val = some j → j.state = .queued → j.copy? n = some c →
    c.state = .pending → P (grant { handle := h.val, copy := n, attempt := c.attempt } j roll i e)
  cancels : ∀ (e : Ev) (h : Fin 32) (j : Job), P e → e.st.job? h.val = some j → j.state ≠ .closed →
    P (cancelJob h j e)
  admits : ∀ (e : Ev) (pl : List Byte) (x : Submission) (h : Fin 32), P e → Q e →
    readSubmission e.st pl = some x → e.st.freeEntry = some h →
    P (admitJob h (newJob e.st x) e) ∧ Q (admitJob h (newJob e.st x) e)
  holds : ∀ (e : Ev) (h : Fin 32) (held : Bool), P e → Q e →
    P (e.modifyJob h.val fun k => { k with held := held }) ∧
      Q (e.modifyJob h.val fun k => { k with held := held })
  collects : ∀ (e : Ev) (h : Fin 32) (j : Job), P e → Q e → e.st.job? h.val = some j → j.state = .closed →
    P (collected h j e) ∧ Q (collected h j e)
  refs : ∀ (e : Ev) (n : Fin 16) (patches : List Colour), P e → Q e → e.st.colour.refs[n].inUse = 0 →
    P (e.mapColour fun u => { u with refs := u.refs.set n.val { patches := patches, inUse := 0 } n.isLt }) ∧
    Q (e.mapColour fun u => { u with refs := u.refs.set n.val { patches := patches, inUse := 0 } n.isLt })
  prices : ∀ (e : Ev) (n : Fin 4) (x : PriceSet), P e → Q e → e.st.cost.prices[n].inUse = 0 → x.inUse = 0 →
    P (e.mapCost fun c => { c with prices := c.prices.set n.val x n.isLt }) ∧
    Q (e.mapCost fun c => { c with prices := c.prices.set n.val x n.isLt })

/-- An event that lost the engine has its consequences before it (log 14); otherwise they are settled. -/
def Kept (P Q : Ev → Prop) (e : Ev) : Prop := P e ∧ (e.lost = true ∨ Q e)

theorem Rests.mono {w w' : List Part} {P : Ev → Prop} (R : Rests w P) (sub : ∀ p ∈ w, p ∈ w' := by decide) :
    Rests w' P := fun e e' same => R e e' fun p inn => same p (sub p inn)

/-! ### Faults -/

/-- A fault is noted on the ports, or the engine is lost. -/
theorem recordFault_cases (p : Port) (k : FaultKind) (h : Option Header) (e : Ev) :
    (recordFault p k h e).lost = true ∨ e.Within [.ports, .raised] (recordFault p k h e) := by
  have noted : e.Within [.ports, .raised] (e.modifyPort p (PortUnit.note k h e.st.now)) :=
    .after (modifyPort_within e p (PortUnit.note_settings _ _ _ _)) (.refl _ _)
  unfold recordFault
  split
  · exact .inr (.refl _ _)
  · dsimp only
    split
    · unfold enterFaulted
      dsimp only
      split
      · exact .inl rfl
      · refine .inr (.after (raise_within _ _ _ _) ?_)
        exact .after (mapPorts_within _ fun q => by rw [summarise_settings]) <|
          .after (modifyPort_within _ p rfl) noted
    · exact .inr noted

namespace Core

variable {P Q : Ev → Prop} (C : Core P Q) {e e' : Ev}

include C

theorem within {w : List Part} (h : e.Within w e') (sound : P e) (free : ∀ p ∈ ledgerParts, p ∉ w := by decide) :
    P e' := C.restP.within h sound free

theorem keptWithin {w : List Part} (h : e.Within w e') (sound : Kept P Q e)
    (free : ∀ p ∈ .lost :: settledParts, p ∉ w := by decide) : Kept P Q e' := by
  obtain ⟨jobs, settled⟩ := sound
  have lost : e'.lost = e.lost := h.same .lost (free _ (by decide))
  exact ⟨C.within h jobs fun p inn => free p (by simp at inn ⊢; tauto),
    lost.symm ▸ settled.imp_right fun s => C.restQ.within h s fun p inn => free p (List.mem_cons_of_mem _ inn)⟩

theorem settled (sound : P e) : Kept P Q (settle e) :=
  ⟨(C.settles e sound).1, .inr (C.settles e sound).2⟩

theorem settledMarks (sound : P e) : Kept P Q (settleMarks e) := C.settled (C.within (runHead_within e) sound)

theorem engineLost (sound : P e) : P (engineLost e) := by
  unfold Machine.engineLost
  refine C.within (setLost_within _ true) <| C.within (holdFallback_within _) <| C.within (runHead_within _) <|
    C.within (triggerScan_within _ .desk) ?_
  refine C.within (mapBays_plain_within _ (mapTable_congr fun b => by rw [mapTable_get, Bay.distrust_cal])
    fun b dead => by rw [mapTable_get, Bay.distrust_usable]) ?_
  exact C.within (mapMeter_within _ rfl rfl) <| C.within (mapSched_within _ rfl rfl rfl) <|
    C.ends e .engineLost sound

theorem enterFaulted (p : Port) (k : FaultKind) (sound : P e) : P (enterFaulted p k e) := by
  have noted := C.within (w := [.ports, .raised])
    (.after (raise_within _ .portFault (.port p) k.index.val) <|
      .after (mapPorts_within _ (f := Ports.summarise p k e.st.now) fun q => by rw [summarise_settings]) <|
      .after (modifyPort_within e p (f := fun u => { u with state := .faulted }) rfl) (.refl _ _)) sound
  unfold Machine.enterFaulted
  dsimp only
  split
  · exact C.engineLost noted
  · exact noted

theorem fault (p : Port) (k : FaultKind) (h : Option Header) (sound : Kept P Q e) :
    Kept P Q (recordFault p k h e) := by
  rcases recordFault_cases p k h e with lost | within
  · refine ⟨?_, .inl lost⟩
    unfold recordFault
    split
    · exact sound.1
    · dsimp only
      have noted := C.within (modifyPort_within e p (f := PortUnit.note k h e.st.now)
        (PortUnit.note_settings _ _ _ _)) sound.1
      split
      · exact C.enterFaulted p k noted
      · exact noted
  · exact C.keptWithin within sound

/-- A fault taken before the consequences. -/
theorem faultP (p : Port) (k : FaultKind) (h : Option Header) (sound : P e) : P (recordFault p k h e) := by
  have noted := C.within (modifyPort_within e p (f := PortUnit.note k h e.st.now)
    (PortUnit.note_settings _ _ _ _)) sound
  unfold recordFault
  split
  · exact sound
  · dsimp only
    split
    · exact C.enterFaulted p k noted
    · exact noted

/-! ### The requests -/

theorem takeSubmitJob (q : Request) (sound : Kept P Q e) (quiet : e.lost = false) :
    Kept P Q (takeSubmitJob q e).1 := by
  obtain ⟨jobs, settled⟩ := sound
  have settled : Q e := settled.resolve_left (by simp [quiet])
  refine withRead_keeps (P := Kept P Q) ⟨jobs, .inr settled⟩ fun x read => ?_
  split
  · exact ⟨jobs, .inr settled⟩
  · next h free =>
    split_ifs
    · exact ⟨jobs, .inr settled⟩
    · exact ⟨jobs, .inr settled⟩
    · dsimp only
      have admitted := C.admits e q.payload x h jobs settled read free
      exact C.keptWithin (settleAccounts_within _) ⟨admitted.1, .inr admitted.2⟩

theorem setHeld (held : Bool) (q : Request) (sound : Kept P Q e) (quiet : e.lost = false) :
    Kept P Q (setHeld held q e).1 := by
  have settled : Q e := sound.2.resolve_left (by simp [quiet])
  refine withJob_keeps (P := Kept P Q) sound fun h j _ => ?_
  split
  · exact sound
  · exact (C.holds e h held sound.1 settled).imp_right .inr

theorem takeCancelJob (q : Request) (sound : Kept P Q e) : Kept P Q (takeCancelJob q e).1 := by
  refine withJob_keeps (P := Kept P Q) sound fun h j open_ => ?_
  split
  · exact sound
  · next state =>
    dsimp only
    exact C.settledMarks (C.cancels e h j sound.1 (by simpa [State.job?] using open_) state)

theorem takeCollectJob (q : Request) (sound : Kept P Q e) (quiet : e.lost = false) :
    Kept P Q (takeCollectJob q e).1 := by
  have settled : Q e := sound.2.resolve_left (by simp [quiet])
  refine withJob_keeps (P := Kept P Q) sound fun h j open_ => ?_
  split
  · next state =>
    exact (C.collects e h j sound.1 settled (by simpa [State.job?] using open_) state).imp_right .inr
  · exact sound

theorem swathFaults (cls : SwathClass) (held : Bool) (h : Header) (sound : P e) :
    P (swathFaults cls held h e) := by
  have first : P (if cls = .stray then recordFault .engine .staleRef (some h) e else e) := by
    split
    · exact C.faultP _ _ _ sound
    · exact sound
  unfold Machine.swathFaults
  dsimp only
  split
  · exact C.faultP _ _ _ first
  · exact first

theorem assign (cls : SwathClass) (r : CopyRef) (v : Vector Nat 12) (sound : P e) : P (assign cls r v e) := by
  have consumed : P (consume r v e) := C.within (modifyAttempt_within e _ _) sound
  cases cls
  case attempt => exact C.draws _ _ _ consumed
  case ended => exact consumed
  case stray => exact C.within (strayCharge_within e _) sound

theorem takeSwathReport (q : Request) (sound : Kept P Q e) : Kept P Q (takeSwathReport q e).1 := by
  unfold Machine.takeSwathReport
  split
  · dsimp only
    exact C.settled <| C.swathFaults _ _ _ <| C.assign _ _ _ (C.within (drawReport_within e _) sound.1)
  · exact sound

theorem takeMaintReport (q : Request) (sound : Kept P Q e) : Kept P Q (takeMaintReport q e).1 := by
  unfold Machine.takeMaintReport
  split
  · dsimp only
    exact C.settled <| C.within (maintenanceCharge_within _ _) (C.within (drawReport_within e _) sound.1)
  · exact sound

theorem answerNone (r : NoneReasons) (sound : Kept P Q e) : Kept P Q (answerNone r e).1 := by
  unfold Machine.answerNone
  dsimp only
  exact C.keptWithin (w := [.media]) (mapMedia_within e rfl) sound

theorem answerWalk (sound : Kept P Q e) (settled : Q e) (idle : e.st.printing = none) :
    Kept P Q (answerWalk e).1 := by
  unfold Machine.answerWalk
  split
  · exact C.answerNone _ sound
  · next i h walked =>
    split
    · exact C.answerNone _ sound
    · next j open_ =>
      split
      · next n roll choice _ =>
        split
        · exact C.answerNone _ sound
        · next c copy =>
          dsimp only
          obtain ⟨j', here, eligible⟩ := walkPhases_eligible walked
          cases here.symm.trans open_
          refine C.settledMarks (C.grants e h j n c roll i sound.1 settled idle open_
            (queued_of_eligible eligible) copy ?_)
          have pending : j.HasCopy CopyRecord.isPending n := by
            rcases copyChoice_eq_some.1 choice with first | ⟨-, first⟩
            · refine (hasCopy_of_firstCopy? first).mono fun c => ?_
              simpa using fun pending _ => pending
            · exact hasCopy_of_firstCopy? first
          obtain ⟨c', copy', pending⟩ := pending
          cases copy'.symm.trans copy
          simpa using pending
      · exact C.answerNone _ sound

theorem takePanelRequest (q : Request) (sound : Kept P Q e) (quiet : e.lost = false) :
    Kept P Q (takePanelRequest q e).1 := by
  refine withNone_keeps (P := Kept P Q) sound ?_
  split
  · exact sound
  · next idle =>
    have loaded : Kept P Q (e.mapSched Schedule.load) := C.keptWithin (load_within e) sound
    have printing : (e.mapSched Schedule.load).st.printing = e.st.printing := by
      have grant : (e.mapSched Schedule.load).st.sched.grant = e.st.sched.grant :=
        (load_within e).same .grant (by decide)
      simp only [State.printing, grant]
    dsimp only
    split
    · refine C.answerWalk loaded (loaded.2.resolve_left (by simp [quiet])) ?_
      rw [printing]
      simpa using idle
    · exact C.answerNone _ loaded

theorem staleEnding (q : Request) (sound : Kept P Q e) : Kept P Q (staleEnding q e).1 := C.fault _ _ _ sound

theorem takePanelDone (q : Request) (sound : Kept P Q e) : Kept P Q (takePanelDone q e).1 := by
  refine withRead_keeps (P := Kept P Q) sound fun r _ => ?_
  split
  · dsimp only
    exact C.settledMarks (C.within (copyEndTrigger_within _) (C.ends e _ sound.1))
  · dsimp only
    exact C.keptWithin (clearAbort_within e) sound
  · exact C.staleEnding q sound

theorem takePanelAbort (q : Request) (sound : Kept P Q e) : Kept P Q (takePanelAbort q e).1 := by
  refine withRead_keeps (P := Kept P Q) sound fun r _ => ?_
  split
  · dsimp only
    exact C.settledMarks (C.ends e _ sound.1)
  · dsimp only
    exact C.keptWithin (clearAbort_within e) sound
  · exact C.staleEnding q sound

theorem takeHoldTaken (q : Request) (sound : Kept P Q e) : Kept P Q (takeHoldTaken q e).1 := by
  refine withNone_keeps (P := Kept P Q) sound ?_
  split
  · dsimp only
    unfold holdTaken
    exact C.settledMarks <| C.within (serveWaiting_within _ _) <| C.within (syncPause_within _) <|
      C.within (mapHold_within e rfl) sound.1
  · exact C.fault _ _ _ sound

theorem takeDeclareCartridge (q : Request) (sound : Kept P Q e) : Kept P Q (takeDeclareCartridge q e).1 := by
  refine withRead_keeps (P := Kept P Q) sound fun x _ => ?_
  split
  · exact sound
  · dsimp only
    exact C.settled (C.within (declareCartridge_within e _ _ _ _) sound.1)
  · exact sound

theorem takeSetChannel (q : Request) (sound : Kept P Q e) : Kept P Q (takeSetChannel q e).1 := by
  refine withRead_keeps (P := Kept P Q) sound fun x _ => ?_
  dsimp only
  exact C.settled (C.within (setChannel_within e _ _) sound.1)

theorem takeSetReference (q : Request) (sound : Kept P Q e) (quiet : e.lost = false) :
    Kept P Q (takeSetReference q e).1 := by
  have settled : Q e := sound.2.resolve_left (by simp [quiet])
  refine withRead_keeps (P := Kept P Q) sound fun x _ => ?_
  split
  · next unused => exact (C.refs e x.1 x.2 sound.1 settled unused).imp_right .inr
  · exact sound

theorem takeSetPrices (q : Request) (sound : Kept P Q e) (quiet : e.lost = false) :
    Kept P Q (takeSetPrices q e).1 := by
  have settled : Q e := sound.2.resolve_left (by simp [quiet])
  refine withRead_keeps (P := Kept P Q) sound fun x read => ?_
  split
  · next unused =>
    refine (C.prices e x.1 x.2 sound.1 settled unused ?_).imp_right .inr
    simp only [readPrices, Option.bind_eq_bind, Option.bind_eq_some_iff] at read
    obtain ⟨_, _, _, _, _, _, _, _, _, _, _, _, is⟩ := read
    cases is
    rfl
  · exact sound

/-- Every request keeps the two properties. -/
theorem take (q : Request) (k : ReqKind) (sound : Kept P Q e) (lost : e.lost = true → k.servedFaulted = true) :
    Kept P Q (takeOf k q e).1 := by
  have quiet (stops : k.servedFaulted = false) : e.lost = false := by
    cases here : e.lost with
    | false => rfl
    | true => exact absurd (lost here) (by simp [stops])
  by_cases out : ∀ p ∈ .lost :: settledParts, p ∉ takeParts k
  · exact C.keptWithin (takeOf_within q e k) sound out
  · cases k
    case submitJob => exact C.takeSubmitJob q sound (quiet rfl)
    case holdJob => exact C.setHeld true q sound (quiet rfl)
    case releaseJob => exact C.setHeld false q sound (quiet rfl)
    case cancelJob => exact C.takeCancelJob q sound
    case swathReport => exact C.takeSwathReport q sound
    case maintReport => exact C.takeMaintReport q sound
    case panelRequest => exact C.takePanelRequest q sound (quiet rfl)
    case panelDone => exact C.takePanelDone q sound
    case panelAbort => exact C.takePanelAbort q sound
    case holdTaken => exact C.takeHoldTaken q sound
    case collectJob => exact C.takeCollectJob q sound (quiet rfl)
    case declareCartridge => exact C.takeDeclareCartridge q sound
    case setChannel => exact C.takeSetChannel q sound
    case setReference => exact C.takeSetReference q sound (quiet rfl)
    case setPrices => exact C.takeSetPrices q sound (quiet rfl)
    all_goals exact absurd (by decide) out

theorem tour : Tour (Kept P Q) where
  transfer e p f moved sound := C.keptWithin (modifyPort_within e p moved.settings) sound
  read e p count sound := C.keptWithin (readFrom_within e p count) sound
  fault e p k h sound := C.fault p k h sound
  take e k q sound lost _ := C.take q k sound lost

/-! ### The other commands -/

theorem resetPort (p : Port) (sound : Kept P Q e) : Kept P Q (resetPort p e) := by
  have reset : Kept P Q (e.modifyPort p (PortUnit.portReset p)) := C.keptWithin (setPorts_within e _) sound
  unfold Machine.resetPort
  dsimp only
  split
  · exact ⟨C.within (setPorts_within _ _) (C.engineLost reset.1), .inl rfl⟩
  · exact reset

theorem feed (d : Direction) (sound : Kept P Q e) : Kept P Q (feed d e) := by
  have counted : Kept P Q (countStep d e) := C.keptWithin (countStep_within e d) sound
  cases d
  case forward =>
    have ended : P (if e.st.media.exhausts .forward then endPrinting .mediaOut (countStep .forward e)
        else countStep .forward e) := by
      split
      · exact C.ends _ _ counted.1
      · exact counted.1
    refine C.settled ?_
    unfold feedFault
    split
    · exact C.faultP _ _ _ (C.within (runHead_within _) ended)
    · exact C.within (runHead_within _) ended
  case reverse =>
    show Kept P Q (feedFault e.st.held (countStep .reverse e))
    unfold feedFault
    split
    · exact C.fault _ _ _ counted
    · exact counted

theorem unseat (b : Fin 24) (sound : Kept P Q e) : Kept P Q (unseat b e) := by
  unfold Machine.unseat
  split
  · exact sound
  · exact C.settled (C.within (removeCartridge_within e b) sound.1)

theorem homeRises (sound : Kept P Q e) : Kept P Q (homeRises e) := by
  unfold Machine.homeRises
  split
  · exact C.settledMarks (C.within (resolveHead_within _ _) (C.within (mapMedia_within e rfl) sound.1))
  · exact sound

theorem examineMessage (g : List Byte) (sound : Kept P Q e) : Kept P Q (examineMessage g e) := by
  unfold Machine.examineMessage
  split
  · exact sound
  · split
    · exact sound
    · split_ifs
      · exact sound
      · exact C.settledMarks (C.within (endExchange_within e _ _ _) sound.1)
      · exact C.keptWithin (mapColour_within e rfl rfl id) sound
      · exact C.settledMarks (C.within (judgeExchange_within e _ _) sound.1)

theorem headByte (b : Byte) (sound : Kept P Q e) : Kept P Q (headByte b e) := by
  unfold Machine.headByte
  dsimp only
  split
  · exact C.keptWithin (mapColour_within e rfl rfl id) sound
  · exact C.examineMessage _ (C.keptWithin (mapColour_within e rfl rfl id) sound)

theorem headBytes (bytes : List Byte) (sound : Kept P Q e) : Kept P Q (headBytes bytes e) :=
  foldl_keeps (Kept P Q) _ _ _ (fun _ b kept => C.headByte b kept) sound

theorem completeScan (sound : Kept P Q e) : Kept P Q (completeScan e) := by
  unfold Machine.completeScan
  split
  · exact sound
  · split
    · exact sound
    · exact C.settled (C.within (mapScan_within _ rfl) (C.within (levelChecks_within e _) sound.1))

theorem ackExpires (sound : Kept P Q e) : Kept P Q (ackExpires e) :=
  C.fault _ _ _ (C.keptWithin (mapTimer_within e rfl rfl) sound)

theorem pauseExpires (sound : Kept P Q e) : Kept P Q (pauseExpires e) :=
  C.settledMarks (C.ends _ _ (C.within (exhaustPause_within e) sound.1))

theorem cutterExpires (sound : Kept P Q e) : Kept P Q (cutterExpires e) := by
  have stopped : Kept P Q (e.mapMedia fun m => { m with cutterTimer := none }) :=
    C.keptWithin (mapMedia_within e rfl) sound
  have stroke : Kept P Q (settleMarks (resolveHead .failed
      (((e.mapMedia fun m => { m with cutterTimer := none }).mapMedia fun m =>
        { m with cutter := .fault }).raise .cutterFault .none 1))) :=
    C.settledMarks <| C.within (resolveHead_within _ _) <| C.within (raise_within _ _ _ _) <|
      C.within (mapMedia_within _ rfl) stopped.1
  unfold Machine.cutterExpires
  dsimp only
  split
  · exact stroke
  · exact stroke
  · exact stopped

theorem dryExpires (sound : Kept P Q e) : Kept P Q (dryExpires e) := by
  have stopped : Kept P Q (e.mapColour fun u => { u with dryTimer := none }) :=
    C.keptWithin (mapColour_within e rfl rfl id) sound
  unfold Machine.dryExpires
  dsimp only
  split
  · exact stopped
  · split
    · unfold beginExchange
      exact C.keptWithin (mapColour_within _ rfl rfl id) stopped
    · exact stopped

theorem headExpires (sound : Kept P Q e) : Kept P Q (headExpires e) := by
  have stopped : Kept P Q (e.mapColour fun u => { u with headTimer := none }) :=
    C.keptWithin (mapColour_within e rfl rfl id) sound
  unfold Machine.headExpires
  dsimp only
  split
  · exact stopped
  · split
    · exact stopped
    · exact C.settledMarks (C.within (endExchange_within _ _ _ _) stopped.1)

theorem expiring (due : State → Option Nat) {f : Ev → Ev} (sound : Kept P Q e)
    (kept : ∀ {e : Ev}, Kept P Q e → Kept P Q (f e)) : Kept P Q (expiring due f e) := by
  unfold Machine.expiring
  split
  · exact sound
  · exact kept (C.keptWithin (reach_within e _) sound)

theorem effect (c : Instr) (e : Ev) (own : isTransfer c = false) (sound : Kept P Q e) :
    Kept P Q (effect c e) := by
  by_cases out : ∀ p ∈ .lost :: settledParts, p ∉ effectParts c
  · exact C.keptWithin (effect_within c e) sound out
  · cases c
    case portReset p => exact C.resetPort p sound
    case cartridgePresentFall b => exact C.unseat b sound
    case feedStep d => exact C.feed d sound
    case cutHomeRise => exact C.homeRises sound
    case patch bytes | headEnd bytes | headOther bytes => exact C.headBytes bytes sound
    case headByteGap b =>
      exact C.headByte b (C.keptWithin (mapColour_within e (f := fun u => { u with gathered := [] }) rfl rfl id)
        sound)
    case scanComplete => exact C.completeScan sound
    case holdAckExpiry => exact C.expiring (fun s => s.media.hold.ackTimer) sound C.ackExpires
    case pauseExpiry => exact C.expiring (fun s => s.media.pause.map (·.due)) sound C.pauseExpires
    case cutterTimerExpiry => exact C.expiring (fun s => s.media.cutterTimer) sound C.cutterExpires
    case dryWaitExpiry => exact C.expiring (fun s => s.colour.dryTimer) sound C.dryExpires
    case headTimerExpiry => exact C.expiring (fun s => s.colour.headTimer) sound C.headExpires
    all_goals first | exact absurd (of_decide_eq_true rfl) out | cases own

/-- At the end of a command's event both properties hold. -/
theorem closed (c : Instr) (s : State) (jobs : P (Ev.moved (lineMoved c) s)) (settled : Q (Ev.moved (lineMoved c) s)) :
    P (started c s).close ∧ Q (started c s).close := by
  obtain ⟨kept, lost⟩ := C.tour.effect c (Ev.moved (lineMoved c) s) (C.effect c _) ⟨jobs, .inr settled⟩ rfl
  unfold Ev.close
  split
  · exact C.settles _ kept
  · next quiet => exact ⟨kept, lost.resolve_left quiet⟩

end Core

end Sys2Proof.Machine
end

section
/-! The PRINTING copy is exactly the copy of the current grant (1.4, 5.4, O10): the operations on jobs
change no PRINTING copy, but for the grant and the end of printing. -/

namespace Sys2Proof.Machine

-- One proof after another: the stacks of many waiting threads do not fit the memory of one compile.
set_option Elab.async false

/-! ### Reading the jobs -/

theorem job?_modifyJob (h : Nat) (f : Job → Job) (e : Ev) (x : Nat) :
    (e.modifyJob h f).st.job? x = if x = h then (e.st.job? x).map f else e.st.job? x := by
  split
  · next same => rw [same, job?_modifyJob_same]
  · next other =>
    unfold State.job?
    split
    · next lt =>
      rw [modifyJob_store]
      unfold JobStore.modifyJob
      split
      · rw [modifyAt_getElem, if_neg other]
      · rfl
    · rfl

/-- The open jobs agree in two states where their tables agree in what is read of a job. -/
theorem job?_congr {α : Type} {g : Job → α} {s t : State}
    (same : mapTable (Option.map g) t.store.jobs = mapTable (Option.map g) s.store.jobs) (h : Nat) :
    (t.job? h).map g = (s.job? h).map g := by
  unfold State.job?
  split
  · next lt => simpa [mapTable_get] using congrArg (·[(⟨h, lt⟩ : Fin 32)]) same
  · rfl

theorem printing_congr {s t : State} (grant : t.sched.grant = s.sched.grant) : t.printing = s.printing := by
  simp only [State.printing, grant]

/-! ### Sheets: the states and the attempt numbers of copies -/

/-- What the statements about the PRINTING copy read of a job. -/
def Job.sheet (j : Job) : JobState × List (CopyState × Nat) :=
  (j.state, j.copies.map fun c => (c.state, c.attempt))

theorem Job.sheet_of_book {j k : Job} (book : k.book = j.book) : k.sheet = j.sheet := by
  have state := congrArg (·.state) book
  have copies := congrArg (fun j => j.copies.map fun c => (c.state, c.attempt)) book
  simp only [Job.book, List.map_map] at state copies
  exact Prod.ext state copies

def State.sheet (s : State) (h : Nat) : Option (JobState × List (CopyState × Nat)) := (s.job? h).map Job.sheet

theorem sheet_congr {s t : State} {h : Nat} (books : (t.job? h).map Job.book = (s.job? h).map Job.book) :
    t.sheet h = s.sheet h := by
  unfold State.sheet
  cases old : s.job? h with
  | none =>
    rw [old] at books
    rw [Option.map_eq_none_iff.1 books]
  | some j =>
    rw [old] at books
    obtain ⟨k, new, book⟩ := Option.map_eq_some_iff.1 books
    rw [new]
    exact congrArg some (Job.sheet_of_book book)

/-- Copy `n` of a sheet, counted from 1. -/
def copyOf (cs : List (CopyState × Nat)) : Nat → Option (CopyState × Nat)
  | 0 => none
  | k + 1 => cs[k]?

theorem copyOf_sheet (j : Job) (n : Nat) :
    copyOf j.sheet.2 n = (j.copy? n).map fun c => (c.state, c.attempt) := by
  cases n with
  | zero => rfl
  | succ k => simp [copyOf, Job.sheet, Job.copy?]

theorem allTerminal_iff (j : Job) : j.allTerminal = true ↔ ∀ y ∈ j.sheet.2, y.1.terminal = true := by
  simp [Job.allTerminal, Job.sheet]

/-- The PRINTING copy is the granted one, and a CLOSED job has only terminal copies. -/
structure SoundSheets (v : Nat → Option (JobState × List (CopyState × Nat))) (p : Option CopyRef) : Prop where
  named : ∀ h x n y, v h = some x → copyOf x.2 n = some y →
    (y.1 = .printing ↔ p = some { handle := h, copy := n, attempt := y.2 })
  current : ∀ r, p = some r → ∃ x y, v r.handle = some x ∧ copyOf x.2 r.copy = some y ∧ y.2 = r.attempt
  closed : ∀ h x, v h = some x → x.1 = .closed → ∀ y ∈ x.2, y.1.terminal = true

theorem printingSound_iff (s : State) : PrintingSound s ↔ SoundSheets s.sheet s.printing := by
  constructor
  · intro sound
    refine ⟨fun h x n y sheet copy => ?_, fun r current => ?_, fun h x sheet closed => ?_⟩
    · obtain ⟨j, open_, rfl⟩ := Option.map_eq_some_iff.1 sheet
      rw [copyOf_sheet] at copy
      obtain ⟨c, found, rfl⟩ := Option.map_eq_some_iff.1 copy
      exact sound.named h j n c open_ found
    · obtain ⟨⟨j, c⟩, named⟩ := Option.isSome_iff_exists.1 (sound.current r current)
      obtain ⟨open_, copy, attempt⟩ := attempt?_eq_some.1 named
      exact ⟨j.sheet, (c.state, c.attempt), by rw [State.sheet, open_]; rfl,
        by rw [copyOf_sheet, copy]; rfl, attempt⟩
    · obtain ⟨j, open_, rfl⟩ := Option.map_eq_some_iff.1 sheet
      exact (allTerminal_iff j).1 (sound.closed h j open_ closed)
  · intro sound
    have sheet {h : Nat} {j : Job} (open_ : s.job? h = some j) : s.sheet h = some j.sheet := by
      rw [State.sheet, open_]; rfl
    refine ⟨fun h j n c open_ copy => ?_, fun r current => ?_, fun h j open_ closed => ?_⟩
    · exact sound.named h j.sheet n (c.state, c.attempt) (sheet open_) (by rw [copyOf_sheet, copy]; rfl)
    · obtain ⟨x, y, here, copy, attempt⟩ := sound.current r current
      obtain ⟨j, open_, rfl⟩ := Option.map_eq_some_iff.1 here
      rw [copyOf_sheet] at copy
      obtain ⟨c, found, rfl⟩ := Option.map_eq_some_iff.1 copy
      rw [attempt?_eq_some.2 ⟨open_, found, attempt⟩]
      rfl
    · exact (allTerminal_iff j).2 (sound.closed h j.sheet (sheet open_) closed)

/-! ### Quiet changes -/

/-- No PRINTING copy changes or appears; terminal copies stay so; a job closes with terminal copies. -/
structure QuietSheet (x x' : JobState × List (CopyState × Nat)) : Prop where
  copies : ∀ n : Nat, x'.2[n]? = x.2[n]? ∨
    ∃ y y', x.2[n]? = some y ∧ x'.2[n]? = some y' ∧ y.1 ≠ .printing ∧ y'.1 ≠ .printing
  terminal : (∀ y ∈ x.2, y.1.terminal = true) → ∀ y ∈ x'.2, y.1.terminal = true
  closed : x'.1 = .closed → x.1 = .closed ∨ ∀ y ∈ x'.2, y.1.terminal = true

theorem QuietSheet.of_copies {x x' : JobState × List (CopyState × Nat)} (copies : x'.2 = x.2)
    (closed : x'.1 = .closed → x.1 = .closed ∨ ∀ y ∈ x.2, y.1.terminal = true) : QuietSheet x x' :=
  ⟨fun n => .inl (by rw [copies]), fun t => copies ▸ t, fun c => (closed c).imp_right fun t => copies ▸ t⟩

theorem QuietSheet.refl (x : JobState × List (CopyState × Nat)) : QuietSheet x x := .of_copies rfl .inl

theorem QuietSheet.trans {x y z : JobState × List (CopyState × Nat)} (h : QuietSheet x y)
    (k : QuietSheet y z) : QuietSheet x z := by
  refine ⟨fun n => ?_, fun t => k.terminal (h.terminal t), fun c => ?_⟩
  · rcases h.copies n with eq | ⟨a, b, ha, hb, na, nb⟩
    · rw [← eq]; exact k.copies n
    · rcases k.copies n with eq | ⟨b', c, hb', hc, -, nc⟩
      · exact .inr ⟨a, b, ha, eq.trans hb, na, nb⟩
      · exact .inr ⟨a, c, ha, hc, na, nc⟩
  · rcases k.closed c with c' | t
    · exact (h.closed c').imp_right k.terminal
    · exact .inr t

/-- From `e` to `e'` the grant stands, no job comes or goes, and each sheet changes quietly. -/
structure Ev.Quiet (e e' : Ev) : Prop where
  printing : e'.st.printing = e.st.printing
  gone : ∀ h, e'.st.sheet h = none ↔ e.st.sheet h = none
  sheets : ∀ h x x', e.st.sheet h = some x → e'.st.sheet h = some x' → QuietSheet x x'

namespace Ev.Quiet

theorem of_same {e e' : Ev} (printing : e'.st.printing = e.st.printing) (sheets : ∀ h, e'.st.sheet h = e.st.sheet h) :
    e.Quiet e' :=
  ⟨printing, fun h => by rw [sheets], fun h x x' at_ at' => by
    rw [sheets, at_] at at'; cases at'; exact .refl x⟩

theorem refl (e : Ev) : e.Quiet e := of_same rfl fun _ => rfl

theorem trans {e f g : Ev} (h : e.Quiet f) (k : f.Quiet g) : e.Quiet g := by
  refine ⟨k.printing.trans h.printing, fun n => (k.gone n).trans (h.gone n), fun n x z at_ at' => ?_⟩
  cases mid : f.st.sheet n with
  | none => rw [(h.gone n).1 mid] at at_; cases at_
  | some y => exact (h.sheets n x y at_ mid).trans (k.sheets n y z mid at')

theorem of_within {w : List Part} {e e' : Ev} (h : e.Within w e') (books : .books ∉ w := by decide)
    (grant : .grant ∉ w := by decide) : e.Quiet e' := by
  exact of_same (printing_congr (h.same .grant grant)) fun n => sheet_congr (job?_congr (h.same .books books) n)

/-- One operation after another; the last stays clear of jobs and grant. -/
theorem then_within {w : List Part} {e f g : Ev} (k : f.Within w g) (h : e.Quiet f)
    (books : .books ∉ w := by decide) (grant : .grant ∉ w := by decide) : e.Quiet g :=
  h.trans (of_within k books grant)

theorem foldl {β : Type} (f : Ev → β → Ev) (l : List β) (e : Ev) (step : ∀ (e : Ev) (b : β), e.Quiet (f e b)) :
    e.Quiet (l.foldl f e) :=
  foldl_keeps (fun e' => e.Quiet e') f l e (fun a b h => h.trans (step a b)) (refl e)

theorem modifyJob (e : Ev) (h : Nat) (f : Job → Job)
    (quiet : ∀ j, e.st.job? h = some j → QuietSheet j.sheet (f j).sheet) : e.Quiet (e.modifyJob h f) := by
  refine ⟨rfl, fun n => ?_, fun n x x' at_ at' => ?_⟩
  · unfold State.sheet
    rw [job?_modifyJob]
    split <;> simp
  · obtain ⟨j, open_, rfl⟩ := Option.map_eq_some_iff.1 at_
    unfold State.sheet at at'
    rw [job?_modifyJob, open_] at at'
    split at at'
    · next same => cases at'; exact quiet j (same ▸ open_)
    · cases at'; exact .refl _

/-- A change of a job that keeps its sheet. -/
theorem modifyFigures (e : Ev) (h : Nat) {f : Job → Job} (sheet : ∀ j, (f j).sheet = j.sheet) :
    e.Quiet (e.modifyJob h f) :=
  modifyJob e h f fun j _ => by rw [sheet]; exact .refl _

/-- The state of a job moves to another than CLOSED. -/
theorem setState (e : Ev) (h : Nat) {f : Job → Job} (copies : ∀ j, (f j).copies = j.copies)
    (open_ : ∀ j, (f j).state ≠ .closed) : e.Quiet (e.modifyJob h f) :=
  modifyJob e h f fun j _ => .of_copies (by simp [Job.sheet, copies]) fun c => absurd c (open_ j)

/-- A copy that is not PRINTING moves to another state. -/
theorem modifyCopy (e : Ev) (r : CopyRef) (f : CopyRecord → CopyRecord)
    (quiet : ∀ c, (e.st.attempt? r).map Prod.snd = some c →
      c.state ≠ .printing ∧ c.state.terminal = false ∧ (f c).state ≠ .printing) : e.Quiet (e.modifyCopy r f) := by
  refine modifyJob e r.handle _ fun j open_ => ?_
  have moved (k : Nat) (at_ : r.copy = k + 1) (c : CopyRecord) (copy : j.copies[k]? = some c)
      (attempt : c.attempt = r.attempt) :
      c.state ≠ .printing ∧ c.state.terminal = false ∧ (f c).state ≠ .printing := by
    refine quiet c ?_
    rw [attempt?_eq_some.2 ⟨open_, by rw [at_]; exact copy, attempt⟩]
    rfl
  unfold modifyCopies
  split
  · exact .of_copies rfl .inl
  · next k at_ =>
    have found (n : Nat) : (modifyList j.copies k fun c => if c.attempt = r.attempt then f c else c)[n]? =
        if n = k then j.copies[n]?.map fun c => if c.attempt = r.attempt then f c else c else j.copies[n]? :=
      modifyList_get? _ _ _ _
    refine ⟨fun n => ?_, fun terminal => ?_, .inl⟩
    · simp only [Job.sheet, List.getElem?_map, found]
      split
      · next same =>
        subst same
        cases copy : j.copies[n]? with
        | none => exact .inl rfl
        | some c =>
          by_cases attempt : c.attempt = r.attempt
          · obtain ⟨was, -, is⟩ := moved n at_ c copy attempt
            exact .inr ⟨_, _, rfl, by simp [attempt]; rfl, was, is⟩
          · exact .inl (by simp [attempt])
      · exact .inl rfl
    · intro y inn
      obtain ⟨c', mem, rfl⟩ := List.mem_map.1 inn
      obtain ⟨n, at'⟩ := List.mem_iff_getElem?.1 mem
      rw [found] at at'
      have old (c : CopyRecord) (copy : j.copies[n]? = some c) : c.state.terminal = true :=
        terminal (c.state, c.attempt) (List.mem_map.2 ⟨c, List.mem_of_getElem? copy, rfl⟩)
      split at at'
      · next same =>
        obtain ⟨c, copy, eq⟩ := Option.map_eq_some_iff.1 at'
        split at eq
        · next attempt =>
          have := (moved k at_ c (same ▸ copy) attempt).2.1
          rw [old c copy] at this
          cases this
        · exact eq ▸ old c copy
      · exact old c' at'

/-- Quiet changes keep the PRINTING copy the granted one. -/
theorem keeps {e e' : Ev} (q : e.Quiet e') (sound : PrintingSound e.st) : PrintingSound e'.st := by
  rw [printingSound_iff] at sound ⊢
  have before {h : Nat} {x' : JobState × List (CopyState × Nat)} (at' : e'.st.sheet h = some x') :
      ∃ x, e.st.sheet h = some x ∧ QuietSheet x x' := by
    cases at_ : e.st.sheet h with
    | none => rw [(q.gone h).2 at_] at at'; cases at'
    | some x => exact ⟨x, rfl, q.sheets h x x' at_ at'⟩
  have printed (r : CopyRef) (current : e.st.printing = some r) {x : JobState × List (CopyState × Nat)}
      {y : CopyState × Nat} (at_ : e.st.sheet r.handle = some x) (copy : copyOf x.2 r.copy = some y) :
      y.1 = .printing := by
    obtain ⟨x₀, y₀, here, copy₀, attempt⟩ := sound.current r current
    cases here.symm.trans at_
    cases copy₀.symm.trans copy
    exact (sound.named _ _ _ _ at_ copy).2 (by rw [current, attempt])
  refine ⟨fun h x' n y' at' copy' => ?_, fun r current => ?_, fun h x' at' closed => ?_⟩
  · obtain ⟨x, at_, quiet⟩ := before at'
    rw [q.printing]
    cases n with
    | zero => cases copy'
    | succ k =>
      rcases quiet.copies k with eq | ⟨y, y₁, hy, hy₁, was, is⟩
      · exact sound.named h x (k + 1) y' at_ (eq.symm.trans copy')
      · cases hy₁.symm.trans copy'
        exact ⟨fun p => absurd p is, fun named => absurd (printed _ named at_ hy) was⟩
  · rw [q.printing] at current
    obtain ⟨x, y, at_, copy, attempt⟩ := sound.current r current
    cases at' : e'.st.sheet r.handle with
    | none => rw [(q.gone _).1 at'] at at_; cases at_
    | some x' =>
      have is := printed r current at_ copy
      cases number : r.copy with
      | zero => rw [number] at copy; cases copy
      | succ k =>
        rw [number] at copy
        rcases (q.sheets _ x x' at_ at').copies k with eq | ⟨y₁, _, hy, -, was, -⟩
        · exact ⟨x', y, rfl, eq.trans copy, attempt⟩
        · cases hy.symm.trans copy
          exact absurd is was
  · obtain ⟨x, at_, quiet⟩ := before at'
    exact (quiet.closed closed).elim (fun c => quiet.terminal (sound.closed h x at_ c)) id

end Ev.Quiet

/-! ### The operations on jobs are quiet -/

section
variable (e : Ev)

theorem bookAttempt_quiet (r : CopyRef) (cls : AttemptClass) : e.Quiet (bookAttempt r cls e) := by
  unfold bookAttempt
  split
  · exact .refl e
  · dsimp only
    exact .then_within (modifyAccount_within _ _ (Account.terms_charge _)) <|
      .then_within (modifyAccount_within _ _ fun _ => by simp only [Account.terms, Account.charge]) <|
      (Ev.Quiet.of_within (modifyAttempt_within e r _)).trans (.modifyFigures _ _ fun _ => rfl)

theorem takeReservation_quiet (h : Nat) (j : Job) : e.Quiet (takeReservation h j e) :=
  (Ev.Quiet.of_within (mapReserved_within e _)).trans (.setState _ h (fun _ => rfl) fun _ => by simp)

theorem releaseReservation_quiet (h : Nat) : e.Quiet (releaseReservation h e) := by
  unfold releaseReservation
  split
  · exact .refl e
  · exact .then_within (noteFreed_within _ _) <|
      (Ev.Quiet.of_within (mapReserved_within e _)).trans (.modifyFigures _ h fun _ => rfl)

theorem drawdown_quiet (h : Nat) (v : Vector Nat 12) : e.Quiet (drawdown h v e) := by
  unfold drawdown
  split
  · exact .refl e
  · exact (Ev.Quiet.of_within (mapReserved_within e _)).trans (.modifyFigures _ h fun _ => rfl)

theorem joinWaitList_quiet (h : Fin 32) : e.Quiet (joinWaitList h e) :=
  .then_within (mapWaitList_within _ _) (.setState e h.val (fun _ => rfl) fun _ => by simp)

theorem leaveWaitList_quiet (h : Nat) : e.Quiet (leaveWaitList h e) := .of_within (leaveWaitList_within e h)

theorem walkOne_quiet (h : Fin 32) : e.Quiet (walkOne h e) := by
  unfold walkOne
  split
  · exact .refl e
  · split
    · exact .then_within (raise_within _ _ _ _) <|
        .then_within (leaveWaitList_within _ _) (takeReservation_quiet e _ _)
    · exact .refl e

theorem walk_quiet : e.Quiet (walk e) := .foldl _ _ _ fun e h => walkOne_quiet e h

theorem trimJob_quiet (h : Fin 32) : e.Quiet (trimJob h e) := by
  have released := releaseReservation_quiet e h.val
  unfold trimJob
  dsimp only
  split
  · exact released
  · split
    · exact .then_within (raise_within _ _ _ _) (released.trans (joinWaitList_quiet _ h))
    · exact released

theorem trim_quiet (n : Nat) (any : Bool) : e.Quiet (trim n any e).2 := by
  induction n generalizing any e with
  | zero => exact .refl e
  | succ n ih =>
    unfold trim
    split
    · exact .refl e
    · exact (trimJob_quiet e _).trans (ih _ _)

theorem settleInk_quiet : e.Quiet (settleInk e) := by
  have short : e.Quiet (settleShort (trim 32 false (evalFlags e)).2) :=
    .then_within (settleShort_within _) ((Ev.Quiet.of_within (evalFlags_within e)).trans (trim_quiet _ 32 false))
  rw [settleInk_eq]
  split
  · exact short.trans (walk_quiet _)
  · exact short

theorem closeJob_quiet (h : Nat) (done : ∀ j, e.st.job? h = some j → j.allTerminal = true) :
    e.Quiet (closeJob h e) := by
  unfold closeJob
  split
  · exact .refl e
  · next j open_ =>
    have left : e.Quiet ((leaveWaitList h (releaseReservation h e)).modifyAccount j.account fun a =>
        { a with committed := a.committed - j.commitment }) :=
      .then_within (modifyAccount_within _ _ fun _ => rfl) <|
        (releaseReservation_quiet e h).trans (leaveWaitList_quiet _ h)
    refine .then_within (raise_within _ _ _ _) (left.trans (.modifyJob _ h _ fun k still => ?_))
    refine .of_copies rfl fun _ => .inr ?_
    exact (left.sheets h j.sheet k.sheet (by rw [State.sheet, open_]; rfl) (by rw [State.sheet, still]; rfl)).terminal
      ((allTerminal_iff j).1 (done j open_))

theorem closeJobIfDone_quiet (h : Nat) : e.Quiet (closeJobIfDone h e) := by
  unfold closeJobIfDone
  split
  · exact .refl e
  · next j open_ =>
    split
    · next done => exact closeJob_quiet e h fun k here => by cases open_.symm.trans here; exact done.2
    · exact .refl e

theorem rejoin_quiet (h : Nat) : e.Quiet (rejoin h e) := by
  unfold rejoin
  split
  · split
    · exact .refl e
    · split_ifs
      · exact .refl e
      · exact .setState e h (fun _ => rfl) fun _ => by simp
      · exact .then_within (raise_within _ _ _ _) (takeReservation_quiet e h _)
      · exact .then_within (raise_within _ _ _ _) (joinWaitList_quiet e _)
  · exact .refl e

theorem Job.sheet_countTerminal (cs : CopyState) (j : Job) : (j.countTerminal cs).sheet = j.sheet := by
  cases cs <;> rfl

theorem advance_state (cs : CopyState) (c : CopyRecord) : (c.advance cs).state = cs := by
  cases cs <;> rfl

theorem nextCopyState_ne_printing (j : Job) (n : Nat) (cls : AttemptClass) : nextCopyState j n cls ≠ .printing := by
  unfold nextCopyState
  split
  · simp
  · simp
  · split
    · split <;> simp
    · simp

/-- A booking leaves the state of every copy. -/
theorem bookAttempt_copy {r : CopyRef} {cls : AttemptClass} {j : Job} {c : CopyRecord}
    (here : e.st.attempt? r = some (j, c)) :
    ∃ k d, (bookAttempt r cls e).st.attempt? r = some (k, d) ∧ d.state = c.state := by
  unfold bookAttempt
  rw [here]
  have booked (f : Attempt → Attempt) (g : Job → Job) (copies : ∀ k, (g k).copies = k.copies) :=
    attempt?_modifyJob (attempt?_modifyAttempt f here) (f := g) (copies _)
  exact ⟨_, _, booked _ _ fun _ => rfl, rfl⟩

theorem closeAttempt_quiet {r : CopyRef} {j : Job} {c : CopyRecord} (here : e.st.attempt? r = some (j, c))
    (ready : c.state = .finishing) : e.Quiet (closeAttempt r j c e) := by
  obtain ⟨k, d, booked, state⟩ := bookAttempt_copy e (cls := classOf j c.record) here
  have moved (cs : CopyState) (n : Nat) (other : cs ≠ .printing) : e.Quiet
      ((((bookAttempt r (classOf j c.record) e).modifyCopy r (CopyRecord.advance cs)).modifyJob r.handle
        (Job.countTerminal cs)).raise .copyDone (.attempt r) n) := by
    refine .then_within (raise_within _ _ _ _) <|
      (((bookAttempt_quiet e r _).trans (.modifyCopy _ r _ fun x at_ => ?_)).trans
        (.modifyFigures _ _ (Job.sheet_countTerminal cs)))
    rw [booked] at at_
    cases at_
    rw [advance_state, state, ready]
    exact ⟨by simp, rfl, other⟩
  unfold closeAttempt
  dsimp only
  have other := nextCopyState_ne_printing j c.attempt (classOf j c.record)
  split
  · exact (moved _ _ other).trans (rejoin_quiet _ _)
  · exact (moved _ _ other).trans (closeJobIfDone_quiet _ _)

theorem closeIfReady_quiet (r : CopyRef) : e.Quiet (closeIfReady r e) := by
  unfold closeIfReady
  split
  · exact .refl e
  · next j c here =>
    split
    · next ready =>
      simp only [readyToClose, Bool.and_eq_true, beq_iff_eq] at ready
      exact closeAttempt_quiet e here ready.1.1.1
    · exact .refl e

theorem settleCloses_quiet : e.Quiet (settleCloses e) :=
  (Ev.Quiet.of_within (noDue_within e)).trans (.foldl _ _ _ fun e r => closeIfReady_quiet e r)

theorem settle_quiet : e.Quiet (settle e) := by
  rw [settle_eq]
  refine .then_within (syncPause_within _) <| .then_within (syncHold_within _) <|
    .then_within (settleAccounts_within _) ?_
  exact ((Ev.Quiet.of_within (setLost_within e false)).trans (settleCloses_quiet _)).trans (settleInk_quiet _)

theorem Job.quiet_cancelPending (j : Job) : QuietSheet j.sheet j.cancelPending.sheet := by
  refine ⟨fun n => ?_, fun terminal => ?_, .inl⟩
  · simp only [Job.sheet, Job.cancelPending, List.getElem?_map]
    cases j.copies[n]? with
    | none => exact .inl rfl
    | some c =>
      by_cases pending : c.state = .pending
      · exact .inr ⟨_, _, rfl, by simp [pending]; rfl, by simp [pending], by simp⟩
      · exact .inl (by simp [pending])
  · intro y inn
    simp only [Job.sheet, Job.cancelPending, List.map_map, List.mem_map, Function.comp_apply] at inn
    obtain ⟨c, mem, rfl⟩ := inn
    split
    · rfl
    · exact terminal (c.state, c.attempt) (List.mem_map.2 ⟨c, mem, rfl⟩)

end

/-! ### The end of printing, the grant, the jobs that come and go -/

section
variable {e : Ev}

theorem printing_none_of_endPrinting (cause : EndCause) (r : CopyRef) (u : Schedule) :
    ∀ g, (Schedule.endPrinting cause r u).grant = some g → g.printing = false := by
  intro g at_
  simp only [Schedule.endPrinting] at at_
  obtain ⟨g', -, rfl⟩ := Option.map_eq_some_iff.1 at_
  rfl

/-- The granted copy moves on, and nothing is PRINTING any more (R95, R97). -/
theorem endCopy_printing {r : CopyRef} (sound : PrintingSound e.st) (current : e.st.printing = some r)
    (f : CopyRecord → CopyRecord) (g : Schedule → Schedule) (state : ∀ c, (f c).state = .finishing)
    (cleared : ∀ x, (g e.st.sched).grant = some x → x.printing = false) :
    PrintingSound ((e.modifyCopy r f).mapSched g).st := by
  have idle : ((e.modifyCopy r f).mapSched g).st.printing = none := by
    unfold State.printing
    split
    · next x at_ => rw [if_neg (by rw [cleared x at_]; simp)]
    · rfl
  have jobs (h : Nat) : ((e.modifyCopy r f).mapSched g).st.job? h =
      if h = r.handle then (e.st.job? h).map fun j => { j with copies := modifyCopies r f j.copies }
      else e.st.job? h := job?_modifyJob r.handle _ e h
  -- A copy that is PRINTING still stood as it is, and was not the granted one.
  have old {h : Nat} {j : Job} {n : Nat} {c : CopyRecord}
      (open_ : ((e.modifyCopy r f).mapSched g).st.job? h = some j) (copy : j.copy? n = some c) :
      c.state = .finishing ∨ ∃ k, e.st.job? h = some k ∧ k.state = j.state ∧ k.copy? n = some c ∧
        ¬ (h = r.handle ∧ n = r.copy ∧ c.attempt = r.attempt) := by
    rw [jobs] at open_
    split at open_
    · next same =>
      obtain ⟨k, here, rfl⟩ := Option.map_eq_some_iff.1 open_
      cases n with
      | zero => cases copy
      | succ m =>
        simp only [Job.copy?, modifyCopies] at copy
        split at copy
        · next zero => exact .inr ⟨k, here, rfl, copy, fun ⟨_, n_, _⟩ => by rw [zero] at n_; cases n_⟩
        · next i at_ =>
          rw [modifyList_get?] at copy
          split at copy
          · next place =>
            obtain ⟨d, was, rfl⟩ := Option.map_eq_some_iff.1 copy
            split
            · exact .inl (state d)
            · next attempt => exact .inr ⟨k, here, rfl, was, fun ⟨_, _, a⟩ => attempt a⟩
          · next place =>
            exact .inr ⟨k, here, rfl, copy, fun ⟨_, n_, _⟩ => place (by omega)⟩
    · next other => exact .inr ⟨j, open_, rfl, copy, fun ⟨h_, _⟩ => other h_⟩
  refine ⟨fun h j n c open_ copy => ?_, fun s named => (nomatch idle.symm.trans named), fun h j open_ closed => ?_⟩
  · rw [idle]
    refine ⟨fun printing => ?_, fun none_ => (nomatch none_)⟩
    rcases old open_ copy with finishing | ⟨k, here, -, was, other⟩
    · rw [printing] at finishing; cases finishing
    · have named := (sound.named h k n c here was).1 printing
      cases current.symm.trans named
      exact absurd ⟨rfl, rfl, rfl⟩ other
  · rw [jobs] at open_
    split at open_
    · next same =>
      obtain ⟨k, here, rfl⟩ := Option.map_eq_some_iff.1 open_
      -- The granted job is not CLOSED: its copy is PRINTING.
      obtain ⟨⟨i, c⟩, named⟩ := Option.isSome_iff_exists.1 (sound.current r current)
      obtain ⟨here', copy, attempt⟩ := attempt?_eq_some.1 named
      cases (same ▸ here).symm.trans here'
      have printing := (sound.named r.handle k r.copy c here' copy).2 (by rw [current, attempt])
      have terminal := sound.closed h k here closed
      cases number : r.copy with
      | zero => rw [number] at copy; cases copy
      | succ m =>
        rw [number] at copy
        have := List.all_eq_true.1 terminal c (List.mem_of_getElem? copy)
        rw [printing] at this
        cases this
    · exact sound.closed h j open_ closed

theorem printing_rests : Rests ledgerParts fun e => PrintingSound e.st := fun e e' same sound =>
  (Ev.Quiet.of_same (printing_congr (same .grant (by decide))) fun n =>
    sheet_congr (job?_congr (same .books (by decide)) n)).keeps sound

/-- The end of printing, before its marks (R12, R95). -/
theorem endPrinting_printing (cause : EndCause) (sound : PrintingSound e.st) :
    PrintingSound (endPrinting cause e).st := by
  unfold endPrinting
  split
  · exact sound
  · next r current =>
    have paused := (Ev.Quiet.of_within (endPause_within e)).keeps sound
    have ended := endCopy_printing (e := endPause e) (r := r) paused
      ((printing_congr ((endPause_within e).same .grant (by decide))).trans current)
      (CopyRecord.endPrinting cause e.st.now e.st.media.pos) (Schedule.endPrinting cause r) (fun _ => rfl)
      (printing_none_of_endPrinting cause r _)
    dsimp only
    split
    · exact ((Ev.Quiet.of_within (startDryClock_within _ r)).trans (.of_within (mayClose_within _ _))).keeps ended
    · exact ((Ev.Quiet.of_within (endMarks_within _ r)).trans (.of_within (mayClose_within _ _))).keeps ended

end

end Sys2Proof.Machine
end

section
/-! The PRINTING copy through the grant, the cancel, the jobs that come and go (O10). -/

namespace Sys2Proof.Machine

-- One proof after another: the stacks of many waiting threads do not fit the memory of one compile.
set_option Elab.async false

theorem copy?_modifyCopies_ne {r : CopyRef} {n : Nat} (f : CopyRecord → CopyRecord) (j : Job)
    (other : n ≠ r.copy) : Job.copy? { j with copies := modifyCopies r f j.copies } n = j.copy? n := by
  unfold modifyCopies Job.copy?
  split
  · rfl
  · next k =>
    dsimp only
    split
    · rfl
    · next i at_ =>
      rw [modifyList_get?, if_neg]
      intro same
      exact other (by rw [at_, same])

theorem sheet_modifyJob (e : Ev) (h : Nat) (f : Job → Job) (x : Nat) :
    (e.modifyJob h f).st.sheet x =
      if x = h then (e.st.job? x).map fun j => (f j).sheet else e.st.sheet x := by
  unfold State.sheet
  rw [job?_modifyJob]
  split
  · rw [Option.map_map]; rfl
  · rfl

/-! ### The grant -/

/-- Under no PRINTING copy, one copy of a job that is not CLOSED becomes the granted one (R95). -/
theorem granted_printing {e e' : Ev} {r : CopyRef} {j k : Job} {c : CopyRecord} (sound : PrintingSound e.st)
    (idle : e.st.printing = none) (here : e.st.job? r.handle = some j)
    (copy : k.copy? r.copy = some c) (state : c.state = .printing) (attempt : c.attempt = r.attempt)
    (others : ∀ n, n ≠ r.copy → k.copy? n = j.copy? n) (open_ : k.state ≠ .closed)
    (sheets : ∀ h, e'.st.sheet h = if h = r.handle then some k.sheet else e.st.sheet h)
    (printing : e'.st.printing = some r) : PrintingSound e'.st := by
  rw [printingSound_iff] at sound ⊢
  have named (n : Nat) : copyOf k.sheet.2 n =
      if n = r.copy then some (.printing, r.attempt) else copyOf j.sheet.2 n := by
    rw [copyOf_sheet]
    split
    · next same => rw [same, copy, ← state, ← attempt]; rfl
    · next other => rw [others n other, ← copyOf_sheet]
  have quiet {h : Nat} {x : JobState × List (CopyState × Nat)} {n : Nat} {y : CopyState × Nat}
      (at_ : e.st.sheet h = some x) (copy : copyOf x.2 n = some y) : y.1 ≠ .printing := fun p =>
    nomatch idle.symm.trans ((sound.named h x n y at_ copy).1 p)
  have before : e.st.sheet r.handle = some j.sheet := by rw [State.sheet, here]; rfl
  rw [printing]
  refine ⟨fun h x n y at_ copy' => ?_, fun s current => ?_, fun h x at_ closed => ?_⟩
  · rw [sheets] at at_
    split at at_
    · next same =>
      cases at_
      rw [named] at copy'
      split at copy'
      · next number =>
        cases copy'
        exact ⟨fun _ => by rw [same, number], fun _ => rfl⟩
      · next number =>
        exact ⟨fun p => absurd p (quiet before copy'), fun eq => by
          cases eq; exact absurd rfl number⟩
    · next other =>
      exact ⟨fun p => absurd p (quiet at_ copy'), fun eq => by cases eq; exact absurd rfl other⟩
  · cases current
    exact ⟨k.sheet, _, by rw [sheets, if_pos rfl], by rw [named, if_pos rfl], rfl⟩
  · rw [sheets] at at_
    split at at_
    · cases at_
      exact absurd closed open_
    · exact sound.closed h x at_ closed

theorem afterGrant_copies (j : Job) : j.afterGrant.copies = j.copies := by
  unfold Job.afterGrant
  split <;> rfl

theorem afterGrant_open {j : Job} (queued : j.state = .queued) : j.afterGrant.state ≠ .closed := by
  unfold Job.afterGrant
  split
  · simp
  · simp [queued]

section
variable {e : Ev} (sound : PrintingSound e.st)

include sound

/-- The copy and the grant move together (R11, R95). -/
theorem grantCopy_printing {r : CopyRef} {j : Job} {c : CopyRecord} (idle : e.st.printing = none)
    (here : e.st.job? r.handle = some j) (queued : j.state = .queued) (copy : j.copy? r.copy = some c)
    (f : CopyRecord → CopyRecord) (m : Media → Media) (u : Schedule → Schedule) (state : (f c).state = .printing)
    (was : c.attempt = r.attempt) (attempt : (f c).attempt = r.attempt)
    (printing : ((((e.modifyCopy r f).modifyJob r.handle Job.afterGrant).mapMedia m).mapSched u).st.printing =
      some r) :
    PrintingSound ((((e.modifyCopy r f).modifyJob r.handle Job.afterGrant).mapMedia m).mapSched u).st := by
  refine granted_printing (j := j) (k := Job.afterGrant { j with copies := modifyCopies r f j.copies })
    sound idle here ((copy?_congr (afterGrant_copies _) _).trans (copy?_modifyCopies f copy was)) state attempt
    (fun m other => ?_) (afterGrant_open queued) (fun x => ?_) printing
  · rw [copy?_congr (afterGrant_copies _) m, copy?_modifyCopies_ne _ j other]
  · refine (sheet_modifyJob _ _ _ _).trans ?_
    rw [Ev.modifyCopy, job?_modifyJob, sheet_modifyJob]
    split
    · next same => rw [same, here]; rfl
    · rfl

theorem grant_printing {h : Fin 32} {j : Job} {n : Nat} {c : CopyRecord} (roll : Fin 2) (i : Fin 32)
    (idle : e.st.printing = none) (here : e.st.job? h.val = some j) (queued : j.state = .queued)
    (copy : j.copy? n = some c) :
    PrintingSound (grant { handle := h.val, copy := n, attempt := c.attempt } j roll i e).st := by
  unfold grant
  refine (Ev.Quiet.of_within (judgeGrant_within _)).keeps ?_
  refine (Ev.Quiet.of_within (addStrip_within _ _ j)).keeps ?_
  refine (Ev.Quiet.of_within (mapScan_within (f := ScanUnit.disqualify) _ rfl)).keeps ?_
  exact grantCopy_printing sound (r := { handle := h.val, copy := n, attempt := c.attempt }) idle here queued
    copy _ _ _ rfl rfl rfl rfl

/-! ### The cancel -/

theorem cancelJob_printing (h : Fin 32) (j : Job) : PrintingSound (cancelJob h j e).st := by
  have withdrawn : PrintingSound ((leaveWaitList h.val (releaseReservation h.val
      (e.modifyJob h.val fun k => { k with cancelled := true }))).modifyJob h.val Job.cancelPending).st :=
    ((((Ev.Quiet.modifyFigures e h.val (f := fun k => { k with cancelled := true }) fun _ => rfl).trans (releaseReservation_quiet _ _)).trans
      (leaveWaitList_quiet _ _)).trans (.modifyJob _ _ _ fun k _ => k.quiet_cancelPending)).keeps sound
  unfold cancelJob
  dsimp only
  refine (closeJobIfDone_quiet _ _).keeps ?_
  refine (Ev.Quiet.setState _ h.val (f := fun k => { k with state := .closing }) (fun _ => rfl)
    fun _ => by simp).keeps ?_
  refine (Ev.Quiet.of_within (refsFold_within _ _)).keeps ?_
  split
  · exact endPrinting_printing _ withdrawn
  · exact withdrawn

end

/-! ### Jobs that come and go -/

theorem job?_set (s : State) (h : Fin 32) (x : Option Job) (n : Nat) :
    State.job? { s with store := { s.store with jobs := s.store.jobs.set h.val x h.isLt } } n =
      if n = h.val then x else s.job? n := by
  unfold State.job?
  split
  · next lt =>
    show (s.store.jobs.set h.val x h.isLt)[n] = _
    rw [Vector.getElem_set]
    by_cases same : n = h.val
    · rw [if_pos same.symm, if_pos same]
    · rw [if_neg (Ne.symm same), if_neg same]
  · next out => rw [if_neg (by omega)]

theorem sheet_set (s : State) (h : Fin 32) (x : Option Job) (n : Nat) :
    State.sheet { s with store := { s.store with jobs := s.store.jobs.set h.val x h.isLt } } n =
      if n = h.val then x.map Job.sheet else s.sheet n := by
  unfold State.sheet
  rw [job?_set]
  split <;> rfl

/-- A job that enters a free place, its copies PENDING. -/
theorem addJob_printing {s t : State} {h : Fin 32} {j : Job} (sound : PrintingSound s) (free : s.job? h.val = none)
    (pending : ∀ c ∈ j.copies, c.state = .pending) (open_ : j.state ≠ .closed)
    (sheets : ∀ n, t.sheet n = if n = h.val then some j.sheet else s.sheet n) (printing : t.printing = s.printing) :
    PrintingSound t := by
  rw [printingSound_iff] at sound ⊢
  have none_ : s.sheet h.val = none := by rw [State.sheet, free]; rfl
  have elsewhere (r : CopyRef) (current : s.printing = some r) : r.handle ≠ h.val := fun same => by
    obtain ⟨x, y, at_, -⟩ := sound.current r current
    rw [same, none_] at at_
    cases at_
  rw [printing]
  refine ⟨fun n x m y at_ copy => ?_, fun r current => ?_, fun n x at_ closed => ?_⟩
  · rw [sheets] at at_
    split at at_
    · next same =>
      cases at_
      rw [copyOf_sheet] at copy
      obtain ⟨c, found, rfl⟩ := Option.map_eq_some_iff.1 copy
      have mem : c ∈ j.copies := by
        cases m with
        | zero => cases found
        | succ k => exact List.mem_of_getElem? found
      refine ⟨fun p => ?_, fun named => absurd same (elsewhere _ named)⟩
      dsimp only at p
      rw [pending c mem] at p
      cases p
    · exact sound.named n x m y at_ copy
  · rw [sheets, if_neg (elsewhere r current)]
    exact sound.current r current
  · rw [sheets] at at_
    split at at_
    · cases at_
      exact absurd closed open_
    · exact sound.closed n x at_ closed

/-- A CLOSED job that leaves: none of its copies is the granted one. -/
theorem collect_printing {s t : State} {h : Fin 32} {j : Job} (sound : PrintingSound s) (here : s.job? h.val = some j)
    (closed : j.state = .closed) (sheets : ∀ n, t.sheet n = if n = h.val then none else s.sheet n)
    (printing : t.printing = s.printing) : PrintingSound t := by
  rw [printingSound_iff] at sound ⊢
  have sheet : s.sheet h.val = some j.sheet := by rw [State.sheet, here]; rfl
  rw [printing]
  refine ⟨fun n x m y at_ copy => ?_, fun r current => ?_, fun n x at_ => ?_⟩
  · rw [sheets] at at_
    split at at_
    · cases at_
    · exact sound.named n x m y at_ copy
  · obtain ⟨x, y, at_, copy, attempt⟩ := sound.current r current
    rw [sheets]
    split
    · next same =>
      rw [same, sheet] at at_
      cases at_
      have printing : y.1 = .printing := (sound.named _ _ _ _ (same ▸ sheet) copy).2 (by rw [current, attempt])
      have mem : y ∈ j.sheet.2 := by
        cases number : r.copy with
        | zero => rw [number] at copy; cases copy
        | succ k => rw [number] at copy; exact List.mem_of_getElem? copy
      have terminal := sound.closed h.val j.sheet sheet closed y mem
      rw [printing] at terminal
      cases terminal
    · exact ⟨x, y, at_, copy, attempt⟩
  · rw [sheets] at at_
    split at at_
    · cases at_
    · exact sound.closed n x at_

theorem job?_freeEntry {s : State} {h : Fin 32} (free : s.freeEntry = some h) : s.job? h.val = none := by
  simpa [State.job?] using freeEntry_empty free

section
variable {e : Ev} (sound : PrintingSound e.st)

include sound

theorem admitJob_printing {h : Fin 32} (x : Submission) (free : e.st.freeEntry = some h) :
    PrintingSound (admitJob h (newJob e.st x) e).st := by
  have listed_ : PrintingSound (listed h (newJob e.st x) e).st := by
    refine addJob_printing (j := newJob e.st x) sound (job?_freeEntry free) (fun c inn => ?_)
      (by simp [newJob]) (fun n => sheet_set e.st h _ n) rfl
    rw [newJob, List.mem_replicate] at inn
    rw [inn.2]
  rw [admitJob_eq]
  split
  · exact (takeReservation_quiet _ _ _).keeps listed_
  · exact (joinWaitList_quiet _ _).keeps listed_

theorem collected_printing {h : Fin 32} {j : Job} (here : e.st.job? h.val = some j) (closed : j.state = .closed) :
    PrintingSound (collected h j e).st :=
  collect_printing sound here closed (fun n => sheet_set e.st h none n) rfl

end

/-- What the operations keep of the PRINTING copy. -/
theorem printing_core : Core (fun e => PrintingSound e.st) fun _ => True where
  restP := printing_rests
  restQ _ _ _ _ := trivial
  ends _ cause sound := endPrinting_printing cause sound
  draws e h v sound := (drawdown_quiet e h v).keeps sound
  settles e sound := ⟨(settle_quiet e).keeps sound, trivial⟩
  grants e h j n c roll i sound _ idle here queued copy _ := grant_printing sound roll i idle here queued copy
  cancels e h j sound _ _ := cancelJob_printing sound h j
  admits e _ x h sound _ _ free := ⟨admitJob_printing sound x free, trivial⟩
  holds e h held sound _ := 
    ⟨(Ev.Quiet.modifyFigures e h.val (f := fun k => { k with held := held }) fun _ => rfl).keeps sound, trivial⟩
  collects e h j sound _ here closed := ⟨collected_printing sound here closed, trivial⟩
  refs e n patches sound _ _ := ⟨(Ev.Quiet.of_within (setRefs_within e rfl rfl)).keeps sound, trivial⟩
  prices e n x sound _ _ _ := ⟨(Ev.Quiet.of_within (setPrices_within e rfl)).keeps sound, trivial⟩

/-- A state with no jobs and no grant. -/
theorem printingSound_empty {s : State} (jobs : s.store = JobStore.atReset) (grant : s.sched = Schedule.atReset) :
    PrintingSound s := by
  have none_ (h : Nat) : s.job? h = none := by
    unfold State.job?
    split
    · rw [jobs]; exact Vector.getElem_replicate _
    · rfl
  have idle : s.printing = none := by rw [State.printing, grant]; rfl
  exact ⟨fun h j n c open_ => (nomatch (none_ h).symm.trans open_), fun r named => (nomatch idle.symm.trans named),
    fun h j open_ => (nomatch (none_ h).symm.trans open_)⟩

/-- A command's event, or another form of a command, keeps a property that the operations on jobs, grant
and ledgers keep, and that looks at no port, no clock and no line but RESET's. -/
theorem step_keeps_of_core {P Q : Ev → Prop} (C : Core P Q) {S : State → Prop}
    (start : ∀ c s, s.pins.reset = false → S s → P (Ev.moved (lineMoved c) s) ∧ Q (Ev.moved (lineMoved c) s))
    (finish : ∀ e, e.st.pins.reset = false → P e → Q e → S e.finish)
    (pending : ∀ s rest, S s → S { s with pending := rest })
    (tick : ∀ s, S s → S { s with clock := s.clock.advance 1 })
    (held : ∀ c s, s.pins.reset = true → S s → S { s with pins := lineMoved c s.pins })
    (assert : ∀ s, S s → S s.enterReset) (release : ∀ s, S s → S s.releaseReset)
    (power : ∀ s, S s → S s.applyPower) : StepKeeps S := by
  refine stepKeeps_of pending (fun s sound => ?_) fun c s t sound ran => ?_
  · unfold State.tick
    split
    · exact sound
    · exact tick s sound
  · refine exec_cases ran (fun _ run => ?_) (fun _ level => held c s level sound) (fun _ => assert s sound)
      (fun _ => release s sound) fun _ => power s sound
    obtain ⟨jobs, settled⟩ := start c s run sound
    obtain ⟨jobs, settled⟩ := C.closed c s jobs settled
    refine finish _ ?_ jobs settled
    rw [(closed_within c s).pins]
    exact (lineMoved_reset c s.pins).trans run

/-- Settles O10: the operations on jobs are quiet, and the grant and the end of printing move the copy and
the grant together. -/
theorem stepKeepsPrinting : Obligations.StepKeepsPrinting :=
  step_keeps_of_core printing_core (fun _ _ _ sound => ⟨{ sound with }, trivial⟩)
    (fun _ _ sound _ => { sound with }) (fun _ _ sound => { sound with }) (fun _ sound => { sound with })
    (fun _ _ _ sound => { sound with }) (fun _ sound => { sound with })
    (fun _ _ => printingSound_empty rfl rfl) fun _ sound => { sound with }

end Sys2Proof.Machine
end

section
/-! The feed hold follows its reasons, and the pause follows hold and grant (6.5, 6.6, O15): the consequences
at the end of an event bring them into agreement. -/

namespace Sys2Proof.Machine

-- One proof after another: the stacks of many waiting threads do not fit the memory of one compile.
set_option Elab.async false

/-- The hold follows its reasons, and the pause the hold and the grant (R117, R122). -/
structure InStep (s : State) : Prop where
  reasons : s.media.hold.reasons = s.holdReasons
  free : s.media.hold.state = .free ↔ s.media.hold.reasons.any = false
  pause : s.media.pause.isSome = true ↔ s.media.hold.state = .taken ∧ s.printing.isSome = true

theorem holdSound_of_inStep {s : State} (printing : PrintingSound s) (h : InStep s) : HoldSound s :=
  ⟨printing, fun _ => h.reasons, fun _ => h.free, fun _ => h.pause⟩

/-! ### What the reasons rest on -/

/-- The INK reason rests on the grant, the estimate of its job and the dry flags (R36). -/
theorem inkReason_congr {s t : State} (printing : t.printing = s.printing)
    (estimate : ∀ r, s.printing = some r →
      (t.job? r.handle).map (·.estimate) = (s.job? r.handle).map (·.estimate))
    (dry : mapTable Channel.dry t.ink.channels = mapTable Channel.dry s.ink.channels) :
    t.inkReason = s.inkReason := by
  have flag (c : Fin 12) : t.ink.channels[c].dry = s.ink.channels[c].dry := by
    simpa [mapTable_get] using congrArg (·[c]) dry
  unfold State.inkReason
  rw [printing]
  cases current : s.printing with
  | none => rfl
  | some r =>
    have same := estimate r current
    dsimp only
    cases old : s.job? r.handle with
    | none =>
      rw [old] at same
      rw [Option.map_eq_none_iff.1 same]
    | some j =>
      rw [old] at same
      obtain ⟨k, new, eq⟩ := Option.map_eq_some_iff.1 same
      rw [new]
      simp only [eq, flag]

theorem inStep_congr {s t : State} (grip : t.media.grip = s.media.grip) (marks : t.media.marks = s.media.marks)
    (printing : t.printing = s.printing)
    (estimate : ∀ r, s.printing = some r →
      (t.job? r.handle).map (·.estimate) = (s.job? r.handle).map (·.estimate))
    (dry : mapTable Channel.dry t.ink.channels = mapTable Channel.dry s.ink.channels) (h : InStep s) :
    InStep t := by
  obtain ⟨reasons, rest⟩ := Prod.ext_iff.1 grip
  obtain ⟨state, pause⟩ := Prod.ext_iff.1 rest
  dsimp only [Media.grip] at reasons state pause
  have wanted : t.holdReasons = s.holdReasons := by
    simp only [State.holdReasons, marks, inkReason_congr printing estimate dry]
  exact ⟨by rw [reasons, wanted, h.reasons], by rw [state, reasons]; exact h.free,
    by rw [pause, state, printing]; exact h.pause⟩

theorem inStep_rests : Rests [.grip, .marks, .grant, .dry, .roster] fun e => InStep e.st := fun e e' same h => by
  refine inStep_congr (same .grip (by decide)) (same .marks (by decide))
    (printing_congr (same .grant (by decide))) (fun r _ => ?_) (same .dry (by decide)) h
  have roster := congrArg Prod.fst (same .roster (by decide) : e'.st.roster = e.st.roster)
  have fixed := congrArg (Option.map fun x : Job × Nat => x.1.estimate)
    (job?_congr (g := fun j => (Job.fixed j, j.copies.length)) roster r.handle)
  simpa [Option.map_map, Function.comp_def, Job.fixed] using fixed

/-! ### The end of an event -/

theorem follow_reasons (now ackLimit : Nat) (r : Reasons) (h : Hold) : (h.follow now ackLimit r).reasons = r := by
  unfold Hold.follow
  split
  · split <;> rfl
  · rfl

theorem follow_free (now ackLimit : Nat) (r : Reasons) (h : Hold) :
    (h.follow now ackLimit r).state = .free ↔ r.any = false := by
  unfold Hold.follow
  cases any : r.any with
  | false => simp
  | true =>
    rw [if_pos rfl]
    split
    · simp
    · next other => simpa using other

/-- A pause is running just where the hold is TAKEN under a PRINTING copy (R122). -/
theorem syncPause_pause (e : Ev) : (syncPause e).st.media.pause.isSome = true ↔
    e.st.media.hold.state = .taken ∧ e.st.printing.isSome = true := by
  have ended : (endPause e).st.media.pause = none := by
    unfold endPause
    split <;> rfl
  unfold syncPause
  split
  · next wanted =>
    simp only [Bool.and_eq_true, beq_iff_eq] at wanted
    refine iff_of_true ?_ wanted
    split
    · assumption
    · rfl
  · next unwanted =>
    simp only [Bool.and_eq_true, beq_iff_eq] at unwanted
    refine iff_of_false ?_ unwanted
    split
    · simp [ended]
    · assumption

theorem syncPause_hold (e : Ev) : (syncPause e).st.media.hold = e.st.media.hold := by
  unfold syncPause
  split
  · split <;> rfl
  · split
    · unfold endPause
      split <;> rfl
    · rfl

theorem settle_inStep (e : Ev) : InStep (settle e).st := by
  rw [settle_eq]
  generalize settleBooks e = f
  have within : f.Within _ (syncPause (syncHold f)) :=
    .after (v := [.store, .hold, .grip]) (syncPause_within _) (.after (syncHold_within f) (.refl _ _))
  have printing : (syncPause (syncHold f)).st.printing = f.st.printing :=
    printing_congr (within.same .grant (by decide))
  have wanted : (syncPause (syncHold f)).st.holdReasons = f.st.holdReasons := by
    have books := job?_congr (within.same .roster (by decide) |> congrArg Prod.fst)
    simp only [State.holdReasons, show (syncPause (syncHold f)).st.media.marks = f.st.media.marks from
      within.same .marks (by decide)]
    rw [inkReason_congr printing (fun r _ => ?_) (within.same .dry (by decide))]
    have fixed := congrArg (Option.map fun x : Job × Nat => x.1.estimate) (books r.handle)
    simpa [Option.map_map, Function.comp_def, Job.fixed] using fixed
  refine ⟨?_, ?_, ?_⟩
  · rw [syncPause_hold, wanted]
    exact follow_reasons _ _ _ _
  · rw [syncPause_hold]
    exact (follow_free _ _ _ _).trans (by rw [show (syncHold f).st.media.hold.reasons = f.st.holdReasons from
      follow_reasons _ _ _ _])
  · rw [syncPause_pause, syncPause_hold, printing]
    rfl

/-! ### The requests that write the jobs without it -/

/-- The granted copy's job is not in a free place, and is not CLOSED. -/
theorem printing_elsewhere {s : State} (sound : PrintingSound s) {r : CopyRef} (current : s.printing = some r)
    {h : Nat} (gone : ∀ j, s.job? h = some j → j.state = .closed) : r.handle ≠ h := by
  rintro rfl
  obtain ⟨⟨j, c⟩, named⟩ := Option.isSome_iff_exists.1 (sound.current r current)
  obtain ⟨here, copy, attempt⟩ := attempt?_eq_some.1 named
  have printing := (sound.named r.handle j r.copy c here copy).2 (by rw [current, attempt])
  have terminal := sound.closed r.handle j here (gone j here)
  cases number : r.copy with
  | zero => rw [number] at copy; cases copy
  | succ k =>
    rw [number] at copy
    have ended := List.all_eq_true.1 terminal c (List.mem_of_getElem? copy)
    rw [printing] at ended
    cases ended

theorem inStep_modifyJob {e : Ev} (h : Nat) {f : Job → Job} (estimate : ∀ j, (f j).estimate = j.estimate)
    (sound : InStep e.st) : InStep (e.modifyJob h f).st := by
  refine inStep_congr (s := e.st) rfl rfl rfl (fun r _ => ?_) rfl sound
  rw [job?_modifyJob]
  split
  · simp [Option.map_map, Function.comp_def, estimate]
  · rfl

theorem admitJob_inStep {e : Ev} {h : Fin 32} {x : Submission} (printing : PrintingSound e.st)
    (sound : InStep e.st) (free : e.st.freeEntry = some h) : InStep (admitJob h (newJob e.st x) e).st := by
  have listed_ : InStep (listed h (newJob e.st x) e).st := by
    refine inStep_congr (s := e.st) rfl rfl rfl (fun r current => ?_) rfl sound
    have other : r.handle ≠ h.val := printing_elsewhere printing current fun j here => by
      rw [job?_freeEntry free] at here
      cases here
    exact congrArg (Option.map (·.estimate)) ((job?_set e.st h _ _).trans (if_neg other))
  rw [admitJob_eq]
  split
  · exact inStep_rests.within (takeReservation_within _ _ _) listed_
  · exact inStep_rests.within (joinWaitList_within _ _) listed_

theorem collected_inStep {e : Ev} {h : Fin 32} {j : Job} (printing : PrintingSound e.st) (sound : InStep e.st)
    (here : e.st.job? h.val = some j) (closed : j.state = .closed) : InStep (collected h j e).st := by
  refine inStep_congr (s := e.st) rfl rfl rfl (fun r current => ?_) rfl sound
  have other : r.handle ≠ h.val := printing_elsewhere printing current fun k here' => by
    cases here.symm.trans here'
    exact closed
  exact congrArg (Option.map (·.estimate)) ((job?_set e.st h none _).trans (if_neg other))

/-- The PRINTING copy, with the hold in step with its reasons. -/
theorem hold_core : Core (fun e => PrintingSound e.st) fun e => InStep e.st :=
  { printing_core with
    restQ := inStep_rests.mono
    settles := fun e sound => ⟨(settle_quiet e).keeps sound, settle_inStep e⟩
    grants := fun e h j n c roll i sound _ idle here queued copy _ =>
      grant_printing sound roll i idle here queued copy
    admits := fun e _ x h sound step _ free => ⟨admitJob_printing sound x free, admitJob_inStep sound step free⟩
    holds := fun e h held sound step =>
      ⟨(printing_core.holds e h held sound trivial).1, inStep_modifyJob h.val (fun _ => rfl) step⟩
    collects := fun e h j sound step here closed =>
      ⟨collected_printing sound here closed, collected_inStep sound step here closed⟩
    refs := fun e n patches sound step unused =>
      ⟨(printing_core.refs e n patches sound trivial unused).1, { step with }⟩
    prices := fun e n x sound step unused fresh =>
      ⟨(printing_core.prices e n x sound trivial unused fresh).1, { step with }⟩ }

/-- After the release of RESET nothing is held. -/
theorem inStep_atReset {s : State} (media : s.media = Media.atReset s.pins.cutHome)
    (sched : s.sched = Schedule.atReset) : InStep s := by
  have idle : s.printing = none := by rw [State.printing, sched]; rfl
  have wanted : s.holdReasons = { measure := false, cut := false, ink := false } := by
    simp only [State.holdReasons, State.inkReason, idle, media]
    rfl
  refine ⟨by rw [wanted, media]; rfl, ?_, ?_⟩
  · rw [media]
    exact ⟨fun _ => rfl, fun _ => rfl⟩
  · rw [media, idle]
    exact ⟨fun h => (nomatch h), fun h => (nomatch h.2)⟩

/-- Settles O15: the consequences at the end of an event bring hold and pause into step, and a command
without them leaves what they rest on. -/
theorem stepKeepsHold : Obligations.StepKeepsHold := by
  refine step_keeps_of_core hold_core (fun c s run sound => ?_) (fun e _ sound step => ?_)
    (fun _ _ sound => { sound with printing := { sound.printing with } })
    (fun _ sound => { sound with printing := { sound.printing with } })
    (fun c s level sound => ?_) (fun s sound => ?_) (fun s sound => ?_)
    fun _ sound => { sound with printing := { sound.printing with } }
  · exact ⟨{ sound.printing with }, sound.reasons run, sound.free run, sound.pause run⟩
  · exact holdSound_of_inStep { sound with } { step with }
  · have stands : (lineMoved c s.pins).reset ≠ false := by rw [lineMoved_reset, level]; decide
    exact ⟨{ sound.printing with }, fun run => absurd run stands, fun run => absurd run stands,
      fun run => absurd run stands⟩
  · exact ⟨{ sound.printing with }, fun run => (nomatch run), fun run => (nomatch run), fun run => (nomatch run)⟩
  · exact holdSound_of_inStep (printingSound_empty rfl rfl) (inStep_atReset rfl rfl)

end Sys2Proof.Machine
end

section
/-! A job's record and its copies: the counts of the copies by state, and what the operations make of them
(1.1, 1.4, 1.5). -/

namespace Sys2Proof.Machine

-- One proof after another: the stacks of many waiting threads do not fit the memory of one compile.
set_option Elab.async false

/-! ### Counting copies -/

theorem countIn_eq (j : Job) (st : CopyState) : j.countIn st = j.copies.countP fun c => c.state == st :=
  List.countP_eq_length_filter.symm

theorem countIn_pos {j : Job} {st : CopyState} : 0 < j.countIn st ↔ ∃ c ∈ j.copies, c.state = st := by
  simp [countIn_eq, List.countP_pos_iff]

theorem countIn_eq_zero {j : Job} {st : CopyState} : j.countIn st = 0 ↔ ∀ c ∈ j.copies, c.state ≠ st := by
  simp [countIn_eq, List.countP_eq_zero]

/-- Every copy is terminal just where none is PENDING, PRINTING or FINISHING (1.5). -/
theorem allTerminal_iff_counts (j : Job) : j.allTerminal = true ↔
    j.countIn .pending = 0 ∧ j.countIn .printing = 0 ∧ j.countIn .finishing = 0 := by
  rw [countIn_eq_zero, countIn_eq_zero, countIn_eq_zero, Job.allTerminal, List.all_eq_true]
  constructor
  · intro terminal
    refine ⟨fun c inn st => ?_, fun c inn st => ?_, fun c inn st => ?_⟩ <;>
      (have ended := terminal c inn; rw [st] at ended; cases ended)
  · rintro ⟨pending, printing, finishing⟩ c inn
    cases state : c.state
    · exact absurd state (pending c inn)
    · exact absurd state (printing c inn)
    · exact absurd state (finishing c inn)
    all_goals rfl

theorem countP_modifyList {α : Type} {p : α → Bool} {l : List α} {i : Nat} {c : α} (at_ : l[i]? = some c)
    (f : α → α) : (modifyList l i f).countP p + (if p c then 1 else 0) =
      l.countP p + if p (f c) then 1 else 0 := by
  induction l generalizing i with
  | nil => cases at_
  | cons x xs ih =>
    cases i with
    | zero =>
      cases at_
      simp only [modifyList, List.countP_cons]
      omega
    | succ i =>
      have rest := ih (i := i) at_
      simp only [modifyList, List.countP_cons]
      omega

/-- A copy that moves leaves the count of one state and enters that of another. -/
theorem countIn_modifyCopies {r : CopyRef} {j : Job} {c : CopyRecord} (f : CopyRecord → CopyRecord)
    (copy : j.copy? r.copy = some c) (attempt : c.attempt = r.attempt) (st : CopyState) :
    Job.countIn { j with copies := modifyCopies r f j.copies } st + (if c.state = st then 1 else 0) =
      j.countIn st + if (f c).state = st then 1 else 0 := by
  rw [countIn_eq, countIn_eq]
  unfold modifyCopies
  dsimp only
  split
  · next zero => rw [zero] at copy; cases copy
  · next k at_ =>
    rw [at_] at copy
    have counted := countP_modifyList (p := fun x => x.state == st) copy
      fun x => if x.attempt = r.attempt then f x else x
    simpa [attempt] using counted

theorem mem_modifyCopies {r : CopyRef} {f : CopyRecord → CopyRecord} {cs : List CopyRecord} {c : CopyRecord}
    (inn : c ∈ modifyCopies r f cs) : c ∈ cs ∨ ∃ d ∈ cs, d.attempt = r.attempt ∧ c = f d := by
  unfold modifyCopies at inn
  split at inn
  · exact .inl inn
  · obtain ⟨n, at_⟩ := List.mem_iff_getElem?.1 inn
    rw [modifyList_get?] at at_
    split at at_
    · obtain ⟨d, was, eq⟩ := Option.map_eq_some_iff.1 at_
      split at eq
      · next attempt => exact .inr ⟨d, List.mem_of_getElem? was, attempt, eq.symm⟩
      · exact .inl (eq ▸ List.mem_of_getElem? was)
    · exact .inl (List.mem_of_getElem? at_)

theorem countIn_congr {j k : Job} (states : k.copies.map (·.state) = j.copies.map (·.state)) (st : CopyState) :
    k.countIn st = j.countIn st := by
  have count (i : Job) : i.countIn st = (i.copies.map (·.state)).countP (· == st) := by
    rw [countIn_eq, List.countP_map]
    rfl
  rw [count, count, states]

/-! ### A job's record agrees with its copies -/

/-- What a job's record says of its copies, beside its state (R2, R4, R16). -/
structure Job.Counted (j : Job) : Prop where
  accepted : j.acceptedCount = j.countIn .accepted
  rejected : j.rejectedCount = j.countIn .rejected
  cancelled : j.cancelledCount = j.countIn .cancelled
  copies : 1 ≤ j.copies.length ∧ j.copies.length ≤ 64
  attempts : j.reprintLimit ≤ 3 ∧ ∀ c ∈ j.copies, 1 ≤ c.attempt ∧ c.attempt ≤ j.reprintLimit + 1
  unheld : j.reservationHeld = false → j.reservation = Vector.replicate 12 0

theorem Job.sound_iff (j : Job) : j.Sound ↔ j.stateSound ∧ j.Counted :=
  ⟨fun h => ⟨h.state, h.accepted, h.rejected, h.cancelled, h.copies, h.attempts, h.unheld⟩,
    fun ⟨s, h⟩ => ⟨s, h.accepted, h.rejected, h.cancelled, h.copies, h.attempts, h.unheld⟩⟩

/-- The state of a job in the counts of its copies (1.4). -/
theorem stateSound_iff (j : Job) : j.stateSound ↔
    (j.state = .waitInk → 0 < j.countIn .pending ∧ j.reservationHeld = false) ∧
    (j.state = .queued → 0 < j.countIn .pending ∧ j.reservationHeld = true) ∧
    (j.state = .closing → j.countIn .pending = 0 ∧ 0 < j.countIn .printing + j.countIn .finishing) ∧
    (j.state = .closed → j.countIn .pending = 0 ∧ j.countIn .printing + j.countIn .finishing = 0 ∧
      j.reservationHeld = false) := by
  have terminal := allTerminal_iff_counts j
  unfold Job.stateSound
  cases state : j.state
  · simp
  · simp
  · have going : j.allTerminal = false ↔
        ¬ (j.countIn .pending = 0 ∧ j.countIn .printing = 0 ∧ j.countIn .finishing = 0) := by
      rw [← terminal, Bool.not_eq_true]
    simp only [reduceCtorEq, false_implies, true_and, and_true, forall_const, going]
    omega
  · simp only [reduceCtorEq, false_implies, true_and, forall_const, terminal]
    exact ⟨fun ⟨⟨p, r, f⟩, u⟩ => ⟨p, by omega, u⟩, fun ⟨p, s, u⟩ => ⟨⟨p, by omega, by omega⟩, u⟩⟩

theorem Job.Counted.of_figures {j k : Job} (h : j.Counted)
    (states : k.copies.map (fun c => (c.state, c.attempt)) = j.copies.map fun c => (c.state, c.attempt))
    (counts : (k.acceptedCount, k.rejectedCount, k.cancelledCount, k.reprintLimit) =
      (j.acceptedCount, j.rejectedCount, j.cancelledCount, j.reprintLimit))
    (unheld : k.reservationHeld = false → k.reservation = Vector.replicate 12 0) : k.Counted := by
  simp only [Prod.mk.injEq] at counts
  obtain ⟨accepted, rejected, cancelled, limit⟩ := counts
  have inState := countIn_congr (by simpa [List.map_map, Function.comp_def] using congrArg (List.map Prod.fst) states)
  have length : k.copies.length = j.copies.length := by simpa using congrArg List.length states
  refine ⟨by rw [accepted, inState, h.accepted], by rw [rejected, inState, h.rejected],
    by rw [cancelled, inState, h.cancelled], by rw [length]; exact h.copies,
    ⟨limit ▸ h.attempts.1, fun c inn => ?_⟩, unheld⟩
  have mem : (c.state, c.attempt) ∈ j.copies.map fun c => (c.state, c.attempt) :=
    states ▸ List.mem_map.2 ⟨c, inn, rfl⟩
  obtain ⟨d, was, eq⟩ := List.mem_map.1 mem
  have attempt := (Prod.mk.inj eq).2
  rw [limit, ← attempt]
  exact h.attempts.2 d was

/-- A copy moves among the states that no count follows. -/
theorem Job.Counted.move {r : CopyRef} {j : Job} {c : CopyRecord} {f : CopyRecord → CopyRecord} (h : j.Counted)
    (copy : j.copy? r.copy = some c) (attempt : c.attempt = r.attempt) (was : c.state.terminal = false)
    (is : (f c).state.terminal = false) (same : ∀ d, (f d).attempt = d.attempt) :
    Job.Counted { j with copies := modifyCopies r f j.copies } := by
  have counts (st : CopyState) (t : st.terminal = true) :
      Job.countIn { j with copies := modifyCopies r f j.copies } st = j.countIn st := by
    have moved := countIn_modifyCopies f copy attempt st
    rw [if_neg (fun eq => by rw [eq, t] at was; cases was), if_neg (fun eq => by rw [eq, t] at is; cases is)]
      at moved
    exact moved
  refine ⟨h.accepted.trans (counts _ rfl).symm, h.rejected.trans (counts _ rfl).symm,
    h.cancelled.trans (counts _ rfl).symm, by simpa using h.copies, ⟨h.attempts.1, fun d inn => ?_⟩, h.unheld⟩
  rcases mem_modifyCopies inn with old | ⟨x, old, -, rfl⟩
  · exact h.attempts.2 d old
  · rw [same]
    exact h.attempts.2 x old

/-- A copy closes: it enters its next state and is counted there (R16). -/
theorem Job.Counted.close {r : CopyRef} {j : Job} {c : CopyRecord} {cs : CopyState} (h : j.Counted)
    (copy : j.copy? r.copy = some c) (attempt : c.attempt = r.attempt) (was : c.state = .finishing)
    (again : cs = .pending → r.attempt < j.reprintLimit + 1) (is : cs = .pending ∨ cs.terminal = true) :
    Job.Counted (Job.countTerminal cs { j with copies := modifyCopies r (CopyRecord.advance cs) j.copies }) := by
  have counts (st : CopyState) : Job.countIn
      (Job.countTerminal cs { j with copies := modifyCopies r (CopyRecord.advance cs) j.copies }) st +
        (if CopyState.finishing = st then 1 else 0) = j.countIn st + if cs = st then 1 else 0 := by
    have moved := countIn_modifyCopies (CopyRecord.advance cs) copy attempt st
    rw [advance_state, was] at moved
    rw [← moved]
    cases cs <;> rfl
  have attempts : ∀ d ∈ modifyCopies r (CopyRecord.advance cs) j.copies,
      1 ≤ d.attempt ∧ d.attempt ≤ j.reprintLimit + 1 := by
    intro d inn
    rcases mem_modifyCopies inn with old | ⟨x, old, number, rfl⟩
    · exact h.attempts.2 d old
    · have bounds := h.attempts.2 x old
      cases cs <;> simp only [CopyRecord.advance] <;> first | exact bounds | skip
      have := again rfl
      omega
  have length : (modifyCopies r (CopyRecord.advance cs) j.copies).length = j.copies.length := by simp
  have accepted := counts .accepted
  have rejected := counts .rejected
  have cancelled := counts .cancelled
  have old := h.accepted
  have old' := h.rejected
  have old'' := h.cancelled
  cases cs
  case printing => rcases is with eq | t <;> [cases eq; cases t]
  case finishing => rcases is with eq | t <;> [cases eq; cases t]
  all_goals
    refine ⟨?_, ?_, ?_, length ▸ h.copies, ⟨h.attempts.1, attempts⟩, h.unheld⟩ <;>
      simp only [Job.countTerminal, reduceCtorEq, if_false, if_true, Nat.add_zero] at accepted rejected cancelled ⊢ <;>
      omega

theorem countIn_cancelPending (j : Job) (st : CopyState) : j.cancelPending.countIn st =
    if st = .pending then 0 else if st = .cancelled then j.countIn .cancelled + j.countIn .pending
    else j.countIn st := by
  rw [countIn_eq, countIn_eq, countIn_eq, countIn_eq]
  show (j.copies.map fun c => if c.state = .pending then { c with state := .cancelled } else c).countP _ = _
  induction j.copies with
  | nil => simp
  | cons c cs ih =>
    simp only [List.map_cons, List.countP_cons, ih]
    cases state : c.state <;> cases st <;> simp [state] <;> omega

/-- The PENDING copies of a cancelled job are counted as cancelled (R19). -/
theorem Job.Counted.cancelPending {j : Job} (h : j.Counted) : j.cancelPending.Counted := by
  have counts := countIn_cancelPending j
  refine ⟨by rw [counts]; exact h.accepted, by rw [counts]; exact h.rejected, ?_,
    by simpa [Job.cancelPending] using h.copies, ⟨h.attempts.1, fun d inn => ?_⟩, h.unheld⟩
  · rw [counts]
    show j.cancelledCount + _ = _
    rw [h.cancelled]
    rfl
  · simp only [Job.cancelPending, List.mem_map] at inn
    obtain ⟨c, old, rfl⟩ := inn
    split <;> exact h.attempts.2 c old

theorem countIn_newJob (s : State) (x : Submission) (st : CopyState) :
    (newJob s x).countIn st = if st = .pending then x.copies else 0 := by
  rw [countIn_eq]
  show (List.replicate x.copies _).countP _ = _
  rw [List.countP_replicate]
  cases st <;> rfl

theorem readSubmission_bounds {s : State} {pl : List Byte} {x : Submission} (read : readSubmission s pl = some x) :
    1 ≤ x.copies ∧ x.copies ≤ 64 ∧ x.reprintLimit ≤ 3 := by
  simp only [readSubmission, Option.bind_eq_bind, Option.bind_eq_some_iff, guard] at read
  obtain ⟨_, _, _, _, _, _, _, _, _, _, _, _, _, _, _, copies, _, limit, _, _, _, _, _, _, _, _, _, _, _, _, _, _,
    is⟩ := read
  cases is
  split_ifs at copies limit with inRange few
  exact ⟨inRange.1, inRange.2, few⟩

theorem newJob_counted {s : State} {x : Submission} (bounds : 1 ≤ x.copies ∧ x.copies ≤ 64 ∧ x.reprintLimit ≤ 3) :
    (newJob s x).Counted := by
  refine ⟨by rw [countIn_newJob]; rfl, by rw [countIn_newJob]; rfl, by rw [countIn_newJob]; rfl, ?_,
    ⟨bounds.2.2, fun c inn => ?_⟩, fun _ => rfl⟩
  · rw [copies_newJob]
    exact ⟨bounds.1, bounds.2.1⟩
  · rw [newJob, List.mem_replicate] at inn
    rw [inn.2]
    exact ⟨le_rfl, Nat.le_add_left 1 _⟩

end Sys2Proof.Machine
end

section
/-! The totals kept beside the jobs, and the ledgers with one job in flux: what the operations on one job
make of them (R25, R129, R150, R151, R156). -/

namespace Sys2Proof.Machine

-- One proof after another: the stacks of many waiting threads do not fit the memory of one compile.
set_option Elab.async false

/-! ### Sums over the jobs -/

/-- What an entry of the job table adds to a sum. -/
def weight (f : Job → Nat) (x : Option Job) : Nat := (x.map f).getD 0

@[simp] theorem weight_none (f : Job → Nat) : weight f none = 0 := rfl

@[simp] theorem weight_some (f : Job → Nat) (j : Job) : weight f (some j) = f j := rfl

theorem sumJobs_eq (s : State) (f : Job → Nat) : s.sumJobs f = sumOver 32 fun h => weight f (s.job? h.val) :=
  sumOver_congr fun h => by simp [State.job?, weight]

/-- A sum when one entry of the table changes. -/
theorem sumJobs_change {s t : State} (h : Fin 32) (others : ∀ n, n ≠ h.val → t.job? n = s.job? n)
    (f : Job → Nat) : t.sumJobs f + weight f (s.job? h.val) = s.sumJobs f + weight f (t.job? h.val) := by
  rw [sumJobs_eq, sumJobs_eq]
  exact sumOver_change (f := fun h : Fin 32 => weight f (t.job? h.val))
    (g := fun h : Fin 32 => weight f (s.job? h.val)) h
    fun n other => by rw [others n.val fun same => other (Fin.ext same)]

theorem sumJobs_congr {s t : State} {f : Job → Nat} (same : ∀ n, (t.job? n).map f = (s.job? n).map f) :
    t.sumJobs f = s.sumJobs f := by
  rw [sumJobs_eq, sumJobs_eq]
  exact sumOver_congr fun h => congrArg (Option.getD · 0) (same h.val)

theorem weight_le_sumJobs (s : State) (f : Job → Nat) (h : Nat) : weight f (s.job? h) ≤ s.sumJobs f := by
  by_cases lt : h < 32
  · rw [sumJobs_eq, sumOver_eq_sum]
    exact Finset.single_le_sum (f := fun h : Fin 32 => weight f (s.job? h.val))
      (fun _ _ => Nat.zero_le _) (Finset.mem_univ ⟨h, lt⟩)
  · simp [State.job?, lt]

theorem sumJobs_pos {s : State} {f : Job → Nat} (pos : 0 < s.sumJobs f) : ∃ h j, s.job? h = some j ∧ 0 < f j := by
  by_contra none_
  have zero (h : Fin 32) : weight f (s.job? h.val) = 0 := by
    cases open_ : s.job? h.val with
    | none => rfl
    | some j => exact Nat.eq_zero_of_not_pos fun p => none_ ⟨h.val, j, open_, p⟩
  rw [sumJobs_eq, sumOver_eq_sum, Finset.sum_eq_zero fun h _ => zero h] at pos
  exact absurd pos (Nat.lt_irrefl 0)

/-! ### The totals -/

/-- The totals kept beside the jobs equal their sums (R25, R129, R150, R151, R156). -/
structure Sums (s : State) : Prop where
  reserved : ∀ c : Fin 12, s.ink.channels[c].reserved = s.sumJobs fun j => j.reservation[c]
  committed : ∀ a : Fin 32,
    s.cost.accounts[a].committed = s.sumJobs fun j => if j.account = a then j.commitment else 0
  opened : ∀ a : Fin 32,
    s.cost.accounts[a].openJobs = s.sumJobs fun j => if j.account = a then 1 else 0
  prices : ∀ n : Fin 4, s.cost.prices[n].inUse = s.sumJobs fun j => if j.priceSet = n then 1 else 0
  refs : ∀ r : Fin 16, s.colour.refs[r].inUse =
    s.sumJobs fun j => if j.check.map (·.refSet) = some r then 1 else 0

/-- What the totals read of a job. -/
def Job.figures (j : Job) : Vector Nat 12 × Nat × Fin 32 × Fin 4 × Option (Fin 16) :=
  (j.reservation, j.commitment, j.account, j.priceSet, j.check.map (·.refSet))

/-- The totals kept beside the jobs. -/
def State.totals (s : State) : (Fin 12 → Nat) × (Fin 32 → Nat × Nat) × (Fin 4 → Nat) × (Fin 16 → Nat) :=
  (fun c => s.ink.channels[c].reserved, fun a => s.cost.accounts[a].dues, fun n => s.cost.prices[n].inUse,
    fun r => s.colour.refs[r].inUse)

theorem sums_congr {s t : State} (sums : Sums s) (figures : ∀ n, (t.job? n).map Job.figures = (s.job? n).map Job.figures)
    (totals : t.totals = s.totals) : Sums t := by
  simp only [State.totals, Prod.mk.injEq, funext_iff, Account.dues] at totals
  obtain ⟨reserved, dues, prices, refs⟩ := totals
  have same (g : Vector Nat 12 × Nat × Fin 32 × Fin 4 × Option (Fin 16) → Nat) :
      (t.sumJobs fun j => g j.figures) = s.sumJobs fun j => g j.figures :=
    sumJobs_congr fun n => by simpa [Option.map_map, Function.comp_def] using congrArg (Option.map g) (figures n)
  exact ⟨fun c => (reserved c).trans ((sums.reserved c).trans (same fun x => x.1[c]).symm),
    fun a => (dues a).1.trans ((sums.committed a).trans (same fun x => if x.2.2.1 = a then x.2.1 else 0).symm),
    fun a => (dues a).2.trans ((sums.opened a).trans (same fun x => if x.2.2.1 = a then 1 else 0).symm),
    fun n => (prices n).trans ((sums.prices n).trans (same fun x => if x.2.2.2.1 = n then 1 else 0).symm),
    fun r => (refs r).trans ((sums.refs r).trans (same fun x => if x.2.2.2.2 = some r then 1 else 0).symm)⟩

/-- The totals follow the change of one job that keeps its account and its locks. -/
theorem sums_change {s t : State} {h : Fin 32} {j k : Job} (sums : Sums s) (old : s.job? h.val = some j)
    (new : t.job? h.val = some k) (others : ∀ n, n ≠ h.val → t.job? n = s.job? n)
    (account : k.account = j.account) (priceSet : k.priceSet = j.priceSet) (check : k.check = j.check)
    (reserved : ∀ c : Fin 12, t.ink.channels[c].reserved + j.reservation[c] =
      s.ink.channels[c].reserved + k.reservation[c])
    (committed : ∀ a : Fin 32, t.cost.accounts[a].committed + (if j.account = a then j.commitment else 0) =
      s.cost.accounts[a].committed + if j.account = a then k.commitment else 0)
    (opened : ∀ a : Fin 32, t.cost.accounts[a].openJobs = s.cost.accounts[a].openJobs)
    (prices : ∀ n : Fin 4, t.cost.prices[n].inUse = s.cost.prices[n].inUse)
    (refs : ∀ r : Fin 16, t.colour.refs[r].inUse = s.colour.refs[r].inUse) : Sums t := by
  have change (f : Job → Nat) : t.sumJobs f + f j = s.sumJobs f + f k := by
    have moved := sumJobs_change h others f
    rwa [old, new] at moved
  refine ⟨fun c => ?_, fun a => ?_, fun a => ?_, fun n => ?_, fun r => ?_⟩
  · have := change fun j => j.reservation[c]
    have := sums.reserved c
    have := reserved c
    omega
  · have moved := change fun j => if j.account = a then j.commitment else 0
    simp only [account] at moved
    have := sums.committed a
    have := committed a
    omega
  · have moved := change fun j => if j.account = a then 1 else 0
    simp only [account] at moved
    have := sums.opened a
    have := opened a
    omega
  · have moved := change fun j => if j.priceSet = n then 1 else 0
    simp only [priceSet] at moved
    have := sums.prices n
    have := prices n
    omega
  · have moved := change fun j => if j.check.map (·.refSet) = some r then 1 else 0
    simp only [check] at moved
    have := sums.refs r
    have := refs r
    omega

theorem reservation_le_reserved {s : State} (sums : Sums s) {h : Nat} {j : Job} (here : s.job? h = some j)
    (c : Fin 12) : j.reservation[c] ≤ s.ink.channels[c].reserved := by
  rw [sums.reserved c]
  have le := weight_le_sumJobs s (fun j => j.reservation[c]) h
  rwa [here] at le

theorem commitment_le_committed {s : State} (sums : Sums s) {h : Nat} {j : Job} (here : s.job? h = some j) :
    j.commitment ≤ s.cost.accounts[j.account].committed := by
  rw [sums.committed j.account]
  have le := weight_le_sumJobs s (fun k => if k.account = j.account then k.commitment else 0) h
  rw [here, weight_some, if_pos rfl] at le
  exact le

theorem commitment_of_open {j : Job} (open_ : j.state ≠ .closed) :
    j.commitment = j.estimateCost - j.clientBooked := by
  unfold Job.commitment
  split
  · next closed => exact absurd closed open_
  · rfl

theorem commitment_of_closed {j : Job} (closed : j.state = .closed) : j.commitment = 0 := by
  unfold Job.commitment
  rw [closed]

/-! ### The ledgers, with one job in flux -/

/-- Every job's record agrees with its copies, the totals are their sums, and every job but the one in flux
is in the state that its copies give and on the wait list where that is WAIT_INK. -/
structure LedgersBut (x : Option Nat) (s : State) : Prop where
  counted : ∀ h j, s.job? h = some j → j.Counted
  states : ∀ h j, x ≠ some h → s.job? h = some j → j.stateSound
  waiting : ∀ h : Fin 32, x ≠ some h.val →
    (h ∈ s.store.waitList ↔ (s.job? h.val).map (·.state) = some .waitInk)
  once : s.store.waitList.Nodup
  sums : Sums s

theorem ledgersSound_iff (s : State) : LedgersSound s ↔ PrintingSound s ∧ LedgersBut none s := by
  constructor
  · intro h
    exact ⟨h.jobs.printing, fun n j open_ => ((Job.sound_iff j).1 (h.jobs.jobs n j open_)).2,
      fun n j _ open_ => (h.jobs.jobs n j open_).state, fun n _ => h.jobs.waiting n, h.jobs.once,
      ⟨h.reserved, h.committed, h.opened, h.prices, h.refs⟩⟩
  · rintro ⟨printing, L⟩
    exact ⟨⟨printing, fun n j open_ => (Job.sound_iff j).2 ⟨L.states n j (by simp) open_, L.counted n j open_⟩,
      fun n => L.waiting n (by simp), L.once⟩, L.sums.reserved, L.sums.committed, L.sums.opened,
      L.sums.prices, L.sums.refs⟩

namespace LedgersBut

/-- Any job may be in flux. -/
theorem loosen {s : State} (L : LedgersBut none s) (h : Nat) : LedgersBut (some h) s :=
  { L with
    states := fun n j _ => L.states n j (by simp)
    waiting := fun n _ => L.waiting n (by simp) }

/-- The job in flux comes to rest. -/
theorem settle {s : State} {h : Nat} (L : LedgersBut (some h) s)
    (state : ∀ j, s.job? h = some j → j.stateSound)
    (waits : ∀ lt : h < 32, (⟨h, lt⟩ : Fin 32) ∈ s.store.waitList ↔
      (s.job? h).map (·.state) = some .waitInk) : LedgersBut none s where
  counted := L.counted
  states n j _ here := by
    by_cases same : h = n
    · subst same; exact state j here
    · exact L.states n j (by simpa using same) here
  waiting n _ := by
    by_cases same : h = n.val
    · subst same; exact waits n.isLt
    · exact L.waiting n (by simpa using same)
  once := L.once
  sums := L.sums

/-- The job in flux is rewritten. -/
theorem rewrite {s t : State} {h : Fin 32} {k : Job} (L : LedgersBut (some h.val) s)
    (new : t.job? h.val = some k) (others : ∀ n, n ≠ h.val → t.job? n = s.job? n) (counted : k.Counted)
    (list : ∀ n : Fin 32, n ≠ h → (n ∈ t.store.waitList ↔ n ∈ s.store.waitList))
    (once : t.store.waitList.Nodup) (sums : Sums t) : LedgersBut (some h.val) t where
  counted n j here := by
    by_cases same : n = h.val
    · subst same
      cases new.symm.trans here
      exact counted
    · exact L.counted n j ((others n same).symm.trans here)
  states n j other here := by
    have apart : n ≠ h.val := fun same => other (by rw [same])
    exact L.states n j other ((others n apart).symm.trans here)
  waiting n other := by
    have apart : n.val ≠ h.val := fun same => other (by rw [same])
    rw [list n fun same => apart (congrArg Fin.val same), others n.val apart]
    exact L.waiting n other
  once := once
  sums := sums

end LedgersBut

/-! ### What the ledgers rest on -/

theorem Job.figures_book (j : Job) : j.book.figures = j.figures := rfl

theorem Job.copies_book (j : Job) :
    j.book.copies.map (fun c => (c.state, c.attempt)) = j.copies.map fun c => (c.state, c.attempt) := by
  simp [Job.book, List.map_map, Function.comp_def]

theorem countIn_book (j : Job) (st : CopyState) : j.book.countIn st = j.countIn st :=
  countIn_congr (by simp [Job.book, List.map_map, Function.comp_def]) st

theorem Job.counted_book (j : Job) : j.book.Counted ↔ j.Counted :=
  ⟨fun h => h.of_figures j.copies_book.symm rfl h.unheld, fun h => h.of_figures j.copies_book rfl h.unheld⟩

theorem stateSound_book (j : Job) : j.book.stateSound ↔ j.stateSound := by
  rw [stateSound_iff, stateSound_iff]
  simp only [countIn_book]
  rfl

theorem ledgersBut_congr {x : Option Nat} {s t : State} (L : LedgersBut x s)
    (books : ∀ n, (t.job? n).map Job.book = (s.job? n).map Job.book) (list : t.store.waitList = s.store.waitList)
    (totals : t.totals = s.totals) : LedgersBut x t := by
  have from_ {n : Nat} {k : Job} (here : t.job? n = some k) : ∃ j, s.job? n = some j ∧ j.book = k.book := by
    have same := books n
    rw [here] at same
    obtain ⟨j, was, eq⟩ := Option.map_eq_some_iff.1 same.symm
    exact ⟨j, was, eq⟩
  have map_ {α : Type} (g : Job → α) (through : ∀ j, g j.book = g j) (n : Nat) :
      (t.job? n).map g = (s.job? n).map g := by
    simpa [Option.map_map, Function.comp_def, through] using congrArg (Option.map g) (books n)
  refine ⟨fun n k here => ?_, fun n k other here => ?_, fun n other => ?_, list ▸ L.once,
    sums_congr L.sums (map_ _ Job.figures_book) totals⟩
  · obtain ⟨j, was, eq⟩ := from_ here
    rw [← Job.counted_book, ← eq, Job.counted_book]
    exact L.counted n j was
  · obtain ⟨j, was, eq⟩ := from_ here
    rw [← stateSound_book, ← eq, stateSound_book]
    exact L.states n j other was
  · rw [list, map_ (·.state) (fun _ => rfl)]
    exact L.waiting n other

theorem ledgersBut_rests (x : Option Nat) :
    Rests [.books, .waitList, .reserved, .dues, .locked] fun e => LedgersBut x e.st := fun e e' same L => by
  refine ledgersBut_congr L (job?_congr (same .books (by decide))) (same .waitList (by decide)) ?_
  have reserved : mapTable Channel.reserved e'.st.ink.channels = mapTable Channel.reserved e.st.ink.channels :=
    same .reserved (by decide)
  have dues : mapTable Account.dues e'.st.cost.accounts = mapTable Account.dues e.st.cost.accounts :=
    same .dues (by decide)
  have locked : e'.st.locked = e.st.locked := same .locked (by decide)
  obtain ⟨refs, prices⟩ := Prod.ext_iff.1 locked
  simp only [State.locked] at refs prices
  simp only [State.totals, refs, prices, Prod.mk.injEq, and_true]
  refine ⟨funext fun c => ?_, funext fun a => ?_⟩
  · simpa [mapTable_get] using congrArg (·[c]) reserved
  · simpa [mapTable_get] using congrArg (·[a]) dues

/-! ### Operations on the job in flux -/

section
variable {e : Ev} {h : Fin 32} {j : Job}

theorem job?_modifyJob_ne {n h : Nat} (f : Job → Job) (other : n ≠ h) :
    (e.modifyJob h f).st.job? n = e.st.job? n := (job?_modifyJob h f e n).trans (if_neg other)

theorem modifyJob_flux {f : Job → Job} (L : LedgersBut (some h.val) e.st) (here : e.st.job? h.val = some j)
    (counted : (f j).Counted) (figures : (f j).figures = j.figures) :
    LedgersBut (some h.val) (e.modifyJob h.val f).st := by
  have list := modifyJob_waitList e f h.val
  refine L.rewrite (k := f j) (by rw [job?_modifyJob_same, here]; rfl) (fun n other => job?_modifyJob_ne f other)
    counted (fun n _ => by rw [list]) (by rw [list]; exact L.once) (sums_congr L.sums (fun n => ?_) rfl)
  rw [job?_modifyJob]
  split
  · next same => rw [same, here]; exact congrArg some figures
  · rfl

theorem reserved_mapReserved (e : Ev) (f : Fin 12 → Nat → Nat) (c : Fin 12) :
    (e.mapInk (InkUnit.mapReserved f)).st.ink.channels[c].reserved = f c e.st.ink.channels[c].reserved := by
  simp [InkUnit.mapReserved]

/-- What is fixed in a job's dealings with the accounts and the locks (R7). -/
def Job.terms (j : Job) : Fin 32 × Fin 4 × Option CheckPolicy := (j.account, j.priceSet, j.check)

/-- The reservation of the job in flux and the reserved totals change together. -/
theorem reserve_flux {f : Job → Job} {g : Fin 12 → Nat → Nat} (L : LedgersBut (some h.val) e.st)
    (here : e.st.job? h.val = some j) (counted : (f j).Counted) (terms : (f j).terms = j.terms)
    (commitment : (f j).commitment = j.commitment)
    (reserved : ∀ c : Fin 12, g c e.st.ink.channels[c].reserved + j.reservation[c] =
      e.st.ink.channels[c].reserved + (f j).reservation[c]) :
    LedgersBut (some h.val) ((e.mapInk (InkUnit.mapReserved g)).modifyJob h.val f).st := by
  simp only [Job.terms, Prod.mk.injEq] at terms
  obtain ⟨account, priceSet, check⟩ := terms
  have list := modifyJob_waitList (e.mapInk (InkUnit.mapReserved g)) f h.val
  have new : ((e.mapInk (InkUnit.mapReserved g)).modifyJob h.val f).st.job? h.val = some (f j) := by
    rw [job?_modifyJob_same]
    exact congrArg (Option.map f) here
  have others (n : Nat) (other : n ≠ h.val) :
      ((e.mapInk (InkUnit.mapReserved g)).modifyJob h.val f).st.job? n = e.st.job? n :=
    job?_modifyJob_ne f other
  refine L.rewrite new others counted (fun n _ => by rw [list]; rfl) (by rw [list]; exact L.once)
    (sums_change L.sums here new others account priceSet check (fun c => ?_) (fun a => by rw [commitment]; rfl)
      (fun _ => rfl) (fun _ => rfl) fun _ => rfl)
  exact (congrArg (· + _) (reserved_mapReserved e g c)).trans (reserved c)

end

end Sys2Proof.Machine
end

section
/-! The ledgers through reservations, the wait list, closes, trimming and the walk (R8 to R10, R16, R37 to
R42, R159). -/

namespace Sys2Proof.Machine

-- One proof after another: the stacks of many waiting threads do not fit the memory of one compile.
set_option Elab.async false

/-! ### Reservations -/

/-- The job with its ask taken (R37). -/
def Job.taken (j : Job) : Job :=
  { j with reservation := tabulate 12 fun c => j.ask c, reservationHeld := true, state := .queued }

/-- The job with its reservation released (R41). -/
def Job.released (j : Job) : Job :=
  { j with reservation := Vector.replicate 12 0, reservationHeld := false }

theorem Job.Counted.taken {j : Job} (h : j.Counted) : j.taken.Counted :=
  h.of_figures rfl rfl fun unheld => (nomatch unheld)

theorem Job.Counted.released {j : Job} (h : j.Counted) : j.released.Counted := h.of_figures rfl rfl fun _ => rfl

theorem Job.Counted.reservation_zero {j : Job} (h : j.Counted) (unheld : j.reservationHeld = false) (c : Fin 12) :
    j.reservation[c] = 0 := by
  rw [h.unheld unheld]
  simp

section
variable {e : Ev} {h : Fin 32} {j : Job}

theorem job?_takeReservation (here : e.st.job? h.val = some j) :
    (takeReservation h.val j e).st.job? h.val = some j.taken := by
  unfold takeReservation
  rw [job?_modifyJob_same]
  exact congrArg (Option.map _) here

theorem job?_takeReservation_ne {n h : Nat} (other : n ≠ h) : (takeReservation h j e).st.job? n = e.st.job? n :=
  job?_modifyJob_ne _ other

theorem takeReservation_waitList (h : Nat) : (takeReservation h j e).st.store.waitList = e.st.store.waitList :=
  modifyJob_waitList _ _ h

theorem takeReservation_flux (L : LedgersBut (some h.val) e.st) (here : e.st.job? h.val = some j)
    (unheld : j.reservationHeld = false) (open_ : j.state ≠ .closed) :
    LedgersBut (some h.val) (takeReservation h.val j e).st := by
  have counted := L.counted h.val j here
  refine reserve_flux (f := fun k =>
      { k with state := .queued, reservation := tabulate 12 fun c => j.ask c, reservationHeld := true })
    L here counted.taken rfl ?_ fun c => ?_
  · rw [commitment_of_open open_]
    rfl
  · rw [counted.reservation_zero unheld c, tabulate_get]
    rfl

theorem releaseReservation_eq (here : e.st.job? h.val = some j) : releaseReservation h.val e =
    ((e.mapInk (InkUnit.mapReserved fun c n => n - j.reservation[c])).modifyJob h.val Job.released).noteFreed
      e.st.ink := by
  unfold releaseReservation
  rw [here]
  rfl

theorem job?_releaseReservation (here : e.st.job? h.val = some j) :
    (releaseReservation h.val e).st.job? h.val = some j.released := by
  rw [releaseReservation_eq here, noteFreed_st, job?_modifyJob_same]
  exact congrArg (Option.map _) here

theorem job?_releaseReservation_ne {n h : Nat} (other : n ≠ h) :
    (releaseReservation h e).st.job? n = e.st.job? n := by
  unfold releaseReservation
  split
  · rfl
  · exact job?_modifyJob_ne _ other

theorem releaseReservation_waitList (h : Nat) :
    (releaseReservation h e).st.store.waitList = e.st.store.waitList := by
  unfold releaseReservation
  split
  · rfl
  · exact modifyJob_waitList _ _ h

theorem releaseReservation_flux (L : LedgersBut (some h.val) e.st) (here : e.st.job? h.val = some j) :
    LedgersBut (some h.val) (releaseReservation h.val e).st := by
  rw [releaseReservation_eq here]
  refine reserve_flux (f := Job.released) L here (L.counted h.val j here).released rfl rfl fun c => ?_
  have := reservation_le_reserved L.sums here c
  have zero : (Job.released j).reservation[c] = 0 := by simp [Job.released]
  omega

/-! ### The wait list -/

theorem mem_insertAdmitted {s : State} {h x : Fin 32} {l : List (Fin 32)} :
    x ∈ insertAdmitted s h l ↔ x = h ∨ x ∈ l := by
  induction l with
  | nil => simp [insertAdmitted]
  | cons y ys ih =>
    unfold insertAdmitted
    split
    · simp
    · rw [List.mem_cons, ih, List.mem_cons]
      tauto

theorem nodup_insertAdmitted {s : State} {h : Fin 32} {l : List (Fin 32)} (nodup : l.Nodup) (out : h ∉ l) :
    (insertAdmitted s h l).Nodup := by
  induction l with
  | nil => simp [insertAdmitted]
  | cons y ys ih =>
    unfold insertAdmitted
    split
    · exact List.nodup_cons.2 ⟨out, nodup⟩
    · simp only [List.mem_cons, not_or] at out
      obtain ⟨first, rest⟩ := List.nodup_cons.1 nodup
      refine List.nodup_cons.2 ⟨fun inn => ?_, ih rest out.2⟩
      rcases mem_insertAdmitted.1 inn with same | inn
      · exact out.1 same.symm
      · exact first inn

/-- The job in flux waits for ink (R8, R39). -/
theorem joinWaitList_settles (L : LedgersBut (some h.val) e.st) (here : e.st.job? h.val = some j)
    (out : h ∉ e.st.store.waitList) (pending : 0 < j.countIn .pending) (unheld : j.reservationHeld = false)
    (open_ : j.state ≠ .closed) : LedgersBut none (joinWaitList h e).st := by
  have waiting : LedgersBut (some h.val) (e.modifyJob h.val fun j => { j with state := .waitInk }).st := by
    refine modifyJob_flux L here ((L.counted h.val j here).of_figures rfl rfl (L.counted h.val j here).unheld) ?_
    simp only [Job.figures, commitment_of_open open_]
    rfl
  have new : (joinWaitList h e).st.job? h.val = some { j with state := .waitInk } := by
    show (e.modifyJob h.val fun j => { j with state := .waitInk }).st.job? h.val = _
    rw [job?_modifyJob_same, here]
    rfl
  have list : (joinWaitList h e).st.store.waitList = insertAdmitted e.st h e.st.store.waitList := by
    show insertAdmitted e.st h (e.modifyJob h.val fun j => { j with state := .waitInk }).st.store.waitList = _
    rw [modifyJob_waitList]
  have joined : LedgersBut (some h.val) (joinWaitList h e).st := by
    refine waiting.rewrite new (fun _ _ => rfl) (waiting.counted h.val _ new) (fun n other => ?_) ?_
      (sums_congr waiting.sums (fun _ => rfl) rfl)
    · rw [list, mem_insertAdmitted, modifyJob_waitList]
      exact ⟨fun m => m.resolve_left other, .inr⟩
    · rw [list]
      exact nodup_insertAdmitted L.once out
  refine joined.settle (fun k at_ => ?_) fun _ => ?_
  · cases new.symm.trans at_
    exact (stateSound_iff _).2 ⟨fun _ => ⟨pending, unheld⟩, fun h => (nomatch h), fun h => (nomatch h), fun h => (nomatch h)⟩
  · rw [list, mem_insertAdmitted, new]
    exact iff_of_true (.inl rfl) rfl

theorem leaveWaitList_flux (L : LedgersBut (some h.val) e.st) (here : e.st.job? h.val = some j) :
    LedgersBut (some h.val) (leaveWaitList h.val e).st := by
  refine L.rewrite (t := (leaveWaitList h.val e).st) here (fun _ _ => rfl) (L.counted h.val j here)
    (fun n other => ?_) (L.once.filter _) (sums_congr L.sums (fun _ => rfl) rfl)
  show n ∈ e.st.store.waitList.filter (fun x => x.val != h.val) ↔ _
  rw [List.mem_filter]
  have apart : n.val ≠ h.val := fun same => other (Fin.ext same)
  simp [apart]

theorem not_mem_leaveWaitList : h ∉ (leaveWaitList h.val e).st.store.waitList := by
  show h ∉ e.st.store.waitList.filter fun x => x.val != h.val
  simp

/-- A job that is not WAIT_INK is not on the wait list. -/
theorem not_waiting (L : LedgersBut none e.st) (here : e.st.job? h.val = some j) (other : j.state ≠ .waitInk) :
    h ∉ e.st.store.waitList := by
  rw [L.waiting h (by simp), here]
  simpa using other

/-- A job in a sound state comes to rest where it is not WAIT_INK and not on the list. -/
theorem LedgersBut.rest (L : LedgersBut (some h.val) e.st) (here : e.st.job? h.val = some j) (state : j.stateSound)
    (waits : h ∈ e.st.store.waitList ↔ j.state = .waitInk) : LedgersBut none e.st := by
  refine L.settle (fun k at_ => ?_) fun _ => ?_
  · cases here.symm.trans at_
    exact state
  · rw [here, Option.map_some, Option.some.injEq]
    exact waits

theorem LedgersBut.waits (L : LedgersBut none e.st) (here : e.st.job? h.val = some j) :
    h ∈ e.st.store.waitList ↔ j.state = .waitInk := by
  rw [L.waiting h (by simp), here, Option.map_some, Option.some.injEq]

/-! ### The draw of a reservation -/

theorem drawdown_ledgers (v : Vector Nat 12) (n : Nat) (L : LedgersBut none e.st) :
    LedgersBut none (drawdown n v e).st := by
  unfold drawdown
  split
  · exact L
  · next j here =>
    have lt : n < 32 := job?_lt here
    have counted := L.counted n j here
    have flux := reserve_flux (h := ⟨n, lt⟩) (f := fun k => { k with reservation := tabulate 12 fun c => k.reservation[c] - v[c] })
      (g := fun c x => x - min v[c] j.reservation[c]) (L.loosen n) here
      (counted.of_figures rfl rfl fun unheld => by
        refine Vector.ext fun i lt => ?_
        have zero := counted.reservation_zero unheld ⟨i, lt⟩
        have drawn : (tabulate 12 fun c => j.reservation[c] - v[c])[i] = j.reservation[i] - v[i] :=
          tabulate_get (fun c : Fin 12 => j.reservation[c] - v[c]) ⟨i, lt⟩
        rw [drawn, Vector.getElem_replicate]
        exact Nat.sub_eq_zero_of_le (zero.le.trans (Nat.zero_le _))) rfl rfl fun c => by
        have := reservation_le_reserved L.sums here c
        rw [tabulate_get]
        omega
    refine flux.rest (h := ⟨n, lt⟩) (j := { j with reservation := tabulate 12 fun c => j.reservation[c] - v[c] })
      ?_ ?_ ?_
    · rw [job?_modifyJob_same]
      exact congrArg (Option.map _) here
    · exact L.states n j (by simp) here
    · rw [modifyJob_waitList]
      exact (L.waits (h := ⟨n, lt⟩) (j := j) here :)

/-! ### The walk and trimming -/

theorem walkOne_ledgers (L : LedgersBut none e.st) (waits : h ∈ e.st.store.waitList) :
    LedgersBut none (walkOne h e).st ∧
      ∀ n ∈ e.st.store.waitList, n ≠ h → n ∈ (walkOne h e).st.store.waitList := by
  unfold walkOne
  split
  · exact ⟨L, fun n inn _ => inn⟩
  · next j here =>
    have state := (L.waits here).1 waits
    have sound := ((stateSound_iff j).1 (L.states h.val j (by simp) here)).1 state
    split
    · have taken := takeReservation_flux (L.loosen h.val) here sound.2 (by simp [state])
      have new := job?_takeReservation here
      refine ⟨(leaveWaitList_flux taken new).rest new ?_ (iff_of_false not_mem_leaveWaitList (by simp [Job.taken])), ?_⟩
      · refine (stateSound_iff _).2 ⟨fun h => (nomatch h), fun _ => ⟨sound.1, rfl⟩, fun h => (nomatch h), fun h => (nomatch h)⟩
      · intro n inn other
        show n ∈ (takeReservation h.val j e).st.store.waitList.filter fun x => x.val != h.val
        rw [takeReservation_waitList, List.mem_filter]
        exact ⟨inn, by simpa using fun same => other (Fin.ext same)⟩
    · exact ⟨L, fun n inn _ => inn⟩

theorem walkList_ledgers {l : List (Fin 32)} {e : Ev} (L : LedgersBut none e.st) (nodup : l.Nodup)
    (waits : ∀ h ∈ l, h ∈ e.st.store.waitList) : LedgersBut none (l.foldl (fun e h => walkOne h e) e).st := by
  induction l generalizing e with
  | nil => exact L
  | cons h l ih =>
    obtain ⟨out, rest⟩ := List.nodup_cons.1 nodup
    obtain ⟨walked, left⟩ := walkOne_ledgers L (waits h List.mem_cons_self)
    refine ih walked rest fun n inn => left n (waits n (List.mem_cons_of_mem _ inn)) ?_
    rintro rfl
    exact out inn

theorem walk_ledgers (L : LedgersBut none e.st) : LedgersBut none (walk e).st :=
  walkList_ledgers L L.once fun _ inn => inn

/-- A job that holds a reservation is QUEUED or CLOSING. -/
theorem held_of_reservation (L : LedgersBut none e.st) (here : e.st.job? h.val = some j) {c : Fin 12}
    (pos : 0 < j.reservation[c]) : j.reservationHeld = true := by
  cases held : j.reservationHeld with
  | true => rfl
  | false =>
    rw [(L.counted h.val j here).reservation_zero held c] at pos
    exact absurd pos (Nat.lt_irrefl 0)

theorem trimJob_ledgers (L : LedgersBut none e.st) (here : e.st.job? h.val = some j)
    (held : j.reservationHeld = true) : LedgersBut none (trimJob h e).st := by
  have released := releaseReservation_flux (L.loosen h.val) here
  have new := job?_releaseReservation here
  obtain ⟨waitInk, queued, closing, closed⟩ := (stateSound_iff j).1 (L.states h.val j (by simp) here)
  unfold trimJob
  rw [here]
  dsimp only
  have out : j.state ≠ .waitInk := fun is => by rw [(waitInk is).2] at held; cases held
  have absent : h ∉ (releaseReservation h.val e).st.store.waitList := by
    rw [releaseReservation_waitList]
    exact not_waiting L here out
  split
  · next state => exact joinWaitList_settles released new absent (queued state).1 rfl (by simp [Job.released, state])
  · next state =>
    refine released.rest new ?_ (iff_of_false absent out)
    exact (stateSound_iff _).2 ⟨fun is => absurd is out, fun is => absurd is state, closing,
      fun is => by have := (closed is).2.2; rw [held] at this; cases this⟩

theorem trimChoice_eq (s : State) : s.trimChoice = (List.finRange 32).foldl
    (keepFirst s.trimmable fun x b => admittedBefore (s.seqOf b.val) (s.seqOf x.val)) none := by
  unfold State.trimChoice
  congr 1
  funext best h
  unfold keepFirst
  cases best <;> rfl

theorem trimmable_iff {s : State} {h : Fin 32} : s.trimmable h = true ↔ ∃ j, s.job? h.val = some j ∧
    s.printing.map (·.handle) ≠ some h.val ∧ ∃ c, s.mustTrim c = true ∧ 0 < j.reservation[c] := by
  unfold State.trimmable
  cases here : s.job? h.val with
  | none => simp
  | some j => simp [anyOf_iff]

theorem trimChoice_some {s : State} {h : Fin 32} (chosen : s.trimChoice = some h) : s.trimmable h = true := by
  rw [trimChoice_eq] at chosen
  rcases foldl_keepFirst_some chosen with none_ | ok
  · cases none_
  · exact ok

theorem trim_ledgers (n : Nat) (any : Bool) {e : Ev} (L : LedgersBut none e.st) :
    LedgersBut none (trim n any e).2.st := by
  induction n generalizing any e with
  | zero => exact L
  | succ n ih =>
    unfold trim
    split
    · exact L
    · next h chosen =>
      obtain ⟨j, here, -, c, -, pos⟩ := trimmable_iff.1 (trimChoice_some chosen)
      exact ih _ (trimJob_ledgers L here (held_of_reservation L here pos))

theorem settleInk_ledgers (L : LedgersBut none e.st) : LedgersBut none (settleInk e).st := by
  have short : LedgersBut none (settleShort (trim 32 false (evalFlags e)).2).st :=
    (ledgersBut_rests none).within (settleShort_within _)
      (trim_ledgers 32 false ((ledgersBut_rests none).within (evalFlags_within e) L))
  rw [settleInk_eq]
  split
  · exact walk_ledgers short
  · exact short

end

end Sys2Proof.Machine
end

section
/-! The ledgers through bookings, closes, the end of printing, the grant, the cancel and the jobs that come
and go (O11). -/

namespace Sys2Proof.Machine

-- One proof after another: the stacks of many waiting threads do not fit the memory of one compile.
set_option Elab.async false

theorem LedgersBut.within {x : Option Nat} {w : List Part} {e e' : Ev} (h : e.Within w e') (L : LedgersBut x e.st)
    (free : ∀ p ∈ [Part.books, .waitList, .reserved, .dues, .locked], p ∉ w := by decide) : LedgersBut x e'.st :=
  (ledgersBut_rests x).within h L free

section
variable {e : Ev} {h : Fin 32} {j : Job}

/-! ### The committed figure -/

theorem modifyAccount_account (e : Ev) (a b : Fin 32) (f : Account → Account) :
    (e.modifyAccount a f).st.cost.accounts[b] =
      if b = a then f e.st.cost.accounts[b] else e.st.cost.accounts[b] := by
  show (modifyAt e.st.cost.accounts a f)[b.val] = _
  rw [modifyAt_getElem]
  by_cases same : b = a
  · rw [if_pos (congrArg Fin.val same), if_pos same]
    rfl
  · rw [if_neg fun eq => same (Fin.ext eq), if_neg same]
    rfl

/-- The commitment of the job in flux and its account's committed figure change together. -/
theorem commit_flux {f : Job → Job} {g : Account → Account} (L : LedgersBut (some h.val) e.st)
    (here : e.st.job? h.val = some j) (counted : (f j).Counted) (terms : (f j).terms = j.terms)
    (reservation : (f j).reservation = j.reservation) (openJobs : ∀ a, (g a).openJobs = a.openJobs)
    (committed : ∀ a : Account, j.commitment ≤ a.committed →
      (g a).committed + j.commitment = a.committed + (f j).commitment) :
    LedgersBut (some h.val) ((e.modifyJob h.val f).modifyAccount j.account g).st := by
  simp only [Job.terms, Prod.mk.injEq] at terms
  obtain ⟨account, priceSet, check⟩ := terms
  have list := modifyJob_waitList e f h.val
  have new : ((e.modifyJob h.val f).modifyAccount j.account g).st.job? h.val = some (f j) := by
    refine (job?_modifyJob_same h.val f e).trans ?_
    rw [here]
    rfl
  have others (n : Nat) (other : n ≠ h.val) :
      ((e.modifyJob h.val f).modifyAccount j.account g).st.job? n = e.st.job? n := job?_modifyJob_ne f other
  have figures (a : Fin 32) := modifyAccount_account (e.modifyJob h.val f) j.account a g
  refine L.rewrite new others counted (fun n _ => by rw [modifyAccount_store, list])
    (by rw [modifyAccount_store, list]; exact L.once)
    (sums_change L.sums here new others account priceSet check (fun c => by rw [reservation]; rfl) (fun a => ?_)
      (fun a => ?_) (fun _ => rfl) fun _ => rfl)
  · rw [figures]
    by_cases same : a = j.account
    · subst same
      rw [if_pos rfl, if_pos rfl, if_pos rfl]
      exact committed _ (commitment_le_committed L.sums here)
    · rw [if_neg same, if_neg (Ne.symm same), if_neg (Ne.symm same)]
      rfl
  · rw [figures]
    split
    · exact openJobs _
    · rfl

/-- The state of a job after a change that moves no copy in or out of PENDING and of printing. -/
theorem stateSound_of_counts {j k : Job} (sound : j.stateSound) (state : k.state = j.state)
    (held : k.reservationHeld = j.reservationHeld) (pending : k.countIn .pending = j.countIn .pending)
    (going : k.countIn .printing + k.countIn .finishing = j.countIn .printing + j.countIn .finishing) :
    k.stateSound := by
  rw [stateSound_iff] at sound ⊢
  rwa [state, held, pending, going]

/-! ### Bookings and closes -/

theorem countIn_modifyCopies_record (r : CopyRef) (f : Attempt → Attempt) (j : Job) (st : CopyState) :
    Job.countIn { j with copies := modifyCopies r (fun c => { c with record := f c.record }) j.copies } st =
      j.countIn st :=
  countIn_congr (map_modifyCopies (·.state) r (fun c => { c with record := f c.record }) (fun _ => rfl) j.copies) st

/-- The job with a cost booked to its client and to the house (R157). -/
def Job.bill (client house : Nat) (j : Job) : Job :=
  { j with clientBooked := j.clientBooked + client, houseBooked := j.houseBooked + house }

/-- The account with its share charged and the commitment of `j` lowered by it (R151, R159). -/
def Account.bill (client : Nat) (j : Job) (a : Account) : Account :=
  { a.charge client with committed := a.committed - (j.commitment - (j.bill client 0).commitment) }

theorem commitment_bill (client house : Nat) (j : Job) :
    (j.bill client house).commitment = (j.bill client 0).commitment := rfl

theorem commitment_bill_le (client : Nat) (j : Job) : (j.bill client 0).commitment ≤ j.commitment := by
  simp only [Job.commitment, Job.bill]
  split <;> omega

/-- What a booking writes in the attempt record. -/
def Attempt.bill (total client house : Nat) (a : Attempt) : Attempt :=
  { a with booked := some { total := total, client := client, house := house } }

/-- The booking of an attempt, with its figures (R158, R159). -/
theorem bookAttempt_here {r : CopyRef} {c : CopyRecord} {cls : AttemptClass} (here : e.st.attempt? r = some (j, c)) :
    let total := attemptTotal e.st.cost.prices[j.priceSet] j.mediaType c.record
    let client := clientPart cls j.waste total
    bookAttempt r cls e =
      (((e.modifyAttempt r (Attempt.bill total client (total - client))).modifyJob r.handle
        (Job.bill client (total - client))).modifyAccount j.account (Account.bill client j)).modifyAccount 0
          (Account.charge (total - client)) := by
  unfold bookAttempt
  rw [here]
  rfl

theorem bookAttempt_eq {r : CopyRef} {c : CopyRecord} {cls : AttemptClass} (here : e.st.attempt? r = some (j, c)) :
    ∃ total client house, bookAttempt r cls e =
      (((e.modifyAttempt r (Attempt.bill total client house)).modifyJob r.handle
        (Job.bill client house)).modifyAccount j.account (Account.bill client j)).modifyAccount 0
          (Account.charge house) := ⟨_, _, _, bookAttempt_here here⟩

theorem bill_ledgers (client house : Nat) (L : LedgersBut none e.st) (here : e.st.job? h.val = some j) :
    LedgersBut none ((e.modifyJob h.val (Job.bill client house)).modifyAccount j.account
      (Account.bill client j)).st := by
  have counted := L.counted _ _ here
  have flux := commit_flux (f := Job.bill client house) (g := Account.bill client j) (L.loosen h.val) here
    (counted.of_figures rfl rfl counted.unheld) rfl rfl (fun _ => rfl) fun a le => by
      have := commitment_bill_le client j
      rw [commitment_bill]
      simp only [Account.bill]
      omega
  refine flux.rest (j := j.bill client house) ?_ (L.states h.val j (by simp) here) ?_
  · refine (job?_modifyJob_same _ _ _).trans ?_
    rw [here]
    rfl
  · rw [modifyAccount_store, modifyJob_waitList]
    exact (L.waits (j := j) here :)

/-- A booking keeps the ledgers, and what the close reads of the attempt (R151, R158). -/
theorem bookAttempt_ledgers {r : CopyRef} {c : CopyRecord} (cls : AttemptClass) (L : LedgersBut none e.st)
    (here : e.st.attempt? r = some (j, c)) : LedgersBut none (bookAttempt r cls e).st ∧
      ∃ k d, (bookAttempt r cls e).st.attempt? r = some (k, d) ∧ d.state = c.state ∧
        k.reprintLimit = j.reprintLimit := by
  obtain ⟨total, client, house, eq⟩ := bookAttempt_eq (cls := cls) here
  rw [eq]
  have marked := L.within (modifyAttempt_within e r (Attempt.bill total client house))
  have new := attempt?_modifyAttempt (Attempt.bill total client house) here
  obtain ⟨job, -, -⟩ := attempt?_eq_some.1 new
  refine ⟨LedgersBut.within (chargeAccount_within _ _ (Account.terms_charge _) fun _ => rfl) ?_, _, _,
    attempt?_modifyJob (f := Job.bill client house) new rfl, rfl, rfl⟩
  have billed := bill_ledgers (h := ⟨r.handle, job?_lt job⟩) client house marked job
  exact billed

/-- The job in flux closes (R16, R17, R41, R159). -/
theorem closeJob_settles (L : LedgersBut (some h.val) e.st) (here : e.st.job? h.val = some j)
    (done : j.allTerminal = true) : LedgersBut none (closeJob h.val e).st := by
  have left := leaveWaitList_flux (releaseReservation_flux L here) (job?_releaseReservation here)
  have at_ : (leaveWaitList h.val (releaseReservation h.val e)).st.job? h.val = some j.released :=
    job?_releaseReservation here
  have counted := left.counted _ _ at_
  have closed := commit_flux (f := fun k => { k with state := .closed })
    (g := fun a => { a with committed := a.committed - j.commitment }) left at_
    (counted.of_figures rfl rfl counted.unheld) rfl rfl (fun _ => rfl) fun a le => by
      have zero : ({ j.released with state := .closed } : Job).commitment = 0 := rfl
      have : j.released.commitment = j.commitment := rfl
      rw [zero]
      dsimp only
      omega
  obtain ⟨pending, printing, finishing⟩ := (allTerminal_iff_counts j).1 done
  unfold closeJob
  rw [here]
  refine LedgersBut.within (raise_within _ _ _ _) (closed.rest (j := { j.released with state := .closed }) ?_ ?_ ?_)
  · exact (job?_modifyJob_same _ _ _).trans (congrArg (Option.map _) at_ :)
  · exact (stateSound_iff _).2 ⟨fun is => (nomatch is), fun is => (nomatch is), fun is => (nomatch is),
      fun _ => ⟨pending, by show j.countIn .printing + j.countIn .finishing = 0; omega, rfl⟩⟩
  · refine iff_of_false ?_ (by simp)
    rw [modifyJob_waitList]
    exact not_mem_leaveWaitList

/-- The job in flux closes, or is in a sound state as it is. -/
theorem closeJobIfDone_settles (L : LedgersBut (some h.val) e.st) (here : e.st.job? h.val = some j)
    (going : j.allTerminal = false → j.stateSound) (open_ : j.state ≠ .closed)
    (waits : h ∈ e.st.store.waitList ↔ j.state = .waitInk) : LedgersBut none (closeJobIfDone h.val e).st := by
  unfold closeJobIfDone
  rw [here]
  dsimp only
  split
  · next done => exact closeJob_settles L here done.2
  · next still => exact L.rest here (going (by simpa [open_] using still)) waits

/-- The job in flux, whose copy is PENDING again, returns to QUEUED or to WAIT_INK (R10). -/
theorem rejoin_settles (L : LedgersBut (some h.val) e.st) (here : e.st.job? h.val = some j)
    (pending : 0 < j.countIn .pending) (open_ : j.state ≠ .closed)
    (waitInk : j.state = .waitInk → j.reservationHeld = false)
    (queued : j.state = .queued → j.reservationHeld = true)
    (waits : h ∈ e.st.store.waitList ↔ j.state = .waitInk) : LedgersBut none (rejoin h.val e).st := by
  have counted := L.counted _ _ here
  unfold rejoin
  rw [dif_pos h.isLt, here]
  dsimp only
  split_ifs with closing held fits
  · refine L.rest here ((stateSound_iff j).2 ⟨fun is => ⟨pending, waitInk is⟩, fun is => ⟨pending, queued is⟩,
      fun is => absurd is closing, fun is => absurd is open_⟩) waits
  · have state : j.state = .closing := by simpa using closing
    have flux := modifyJob_flux (f := fun k => { k with state := .queued }) L here
      (counted.of_figures rfl rfl counted.unheld) (by
        simp only [Job.figures, commitment_of_open open_]
        rfl)
    refine flux.rest (j := { j with state := .queued }) ?_ ?_ ?_
    · rw [job?_modifyJob_same, here]
      rfl
    · exact (stateSound_iff _).2 ⟨fun is => (nomatch is), fun _ => ⟨pending, held⟩, fun is => (nomatch is),
        fun is => (nomatch is)⟩
    · rw [modifyJob_waitList, waits]
      simp [state]
  · have state : j.state = .closing := by simpa using closing
    refine LedgersBut.within (raise_within _ _ _ _) ?_
    refine (takeReservation_flux L here (by simpa using held) open_).rest (job?_takeReservation here) ?_ ?_
    · exact (stateSound_iff _).2 ⟨fun is => (nomatch is), fun _ => ⟨pending, rfl⟩, fun is => (nomatch is),
        fun is => (nomatch is)⟩
    · rw [takeReservation_waitList, waits]
      simp [state, Job.taken]
  · have state : j.state = .closing := by simpa using closing
    refine LedgersBut.within (raise_within _ _ _ _) ?_
    exact joinWaitList_settles L here (by rw [waits, state]; simp) pending (by simpa using held) open_

/-- The job with a closed copy in its next state, counted (R16). -/
def Job.advanced (r : CopyRef) (cs : CopyState) (j : Job) : Job :=
  Job.countTerminal cs { j with copies := modifyCopies r (CopyRecord.advance cs) j.copies }

theorem Job.advanced_fields (r : CopyRef) (cs : CopyState) (j : Job) :
    (j.advanced r cs).state = j.state ∧ (j.advanced r cs).reservationHeld = j.reservationHeld ∧
      (j.advanced r cs).figures = j.figures := by
  cases cs <;> exact ⟨rfl, rfl, rfl⟩

theorem countIn_advanced {r : CopyRef} {c : CopyRecord} (cs : CopyState) (copy : j.copy? r.copy = some c)
    (attempt : c.attempt = r.attempt) (was : c.state = .finishing) (st : CopyState) :
    (j.advanced r cs).countIn st + (if CopyState.finishing = st then 1 else 0) =
      j.countIn st + if cs = st then 1 else 0 := by
  have moved := countIn_modifyCopies (CopyRecord.advance cs) copy attempt st
  rw [advance_state, was] at moved
  rw [← moved]
  cases cs <;> rfl

theorem job?_advance {r : CopyRef} {e : Ev} (here : e.st.job? r.handle = some j) (cs : CopyState) :
    ((e.modifyCopy r (CopyRecord.advance cs)).modifyJob r.handle (Job.countTerminal cs)).st.job? r.handle =
      some (j.advanced r cs) := by
  rw [job?_modifyJob_same, Ev.modifyCopy, job?_modifyJob_same, here]
  rfl

theorem advance_flux {r : CopyRef} {c : CopyRecord} {cs : CopyState} (L : LedgersBut none e.st)
    (at_ : h.val = r.handle) (here : e.st.attempt? r = some (j, c)) (was : c.state = .finishing)
    (again : cs = .pending → r.attempt < j.reprintLimit + 1) (is : cs = .pending ∨ cs.terminal = true) :
    LedgersBut (some h.val)
      ((e.modifyCopy r (CopyRecord.advance cs)).modifyJob r.handle (Job.countTerminal cs)).st := by
  obtain ⟨job, copy, attempt⟩ := attempt?_eq_some.1 here
  have list : ((e.modifyCopy r (CopyRecord.advance cs)).modifyJob r.handle
      (Job.countTerminal cs)).st.store.waitList = e.st.store.waitList := by
    rw [modifyJob_waitList, Ev.modifyCopy, modifyJob_waitList]
  have new := job?_advance job cs
  have others (n : Nat) (other : n ≠ r.handle) :
      ((e.modifyCopy r (CopyRecord.advance cs)).modifyJob r.handle (Job.countTerminal cs)).st.job? n =
        e.st.job? n := by
    rw [job?_modifyJob_ne _ other, Ev.modifyCopy, job?_modifyJob_ne _ other]
  rw [← at_] at new others job list ⊢
  refine (L.loosen h.val).rewrite (h := h) new others
    ((L.counted _ _ job).close copy attempt was again is) (fun n _ => by rw [list]) (by rw [list]; exact L.once)
    (sums_congr L.sums (fun n => ?_) rfl)
  by_cases same : n = h.val
  · rw [same, new, job]
    exact congrArg some (j.advanced_fields r cs).2.2
  · rw [others n same]

theorem nextCopyState_cases (j : Job) (n : Nat) (cls : AttemptClass) :
    (nextCopyState j n cls = .pending ∧ n < j.reprintLimit + 1) ∨ (nextCopyState j n cls).terminal = true := by
  unfold nextCopyState
  split
  · exact .inr rfl
  · exact .inr rfl
  · split_ifs with more
    · exact .inr rfl
    · exact .inl ⟨rfl, more⟩
    · exact .inr rfl

theorem closeAttempt_ledgers {r : CopyRef} {c : CopyRecord} (L : LedgersBut none e.st)
    (here : e.st.attempt? r = some (j, c)) (ready : c.state = .finishing) :
    LedgersBut none (closeAttempt r j c e).st := by
  obtain ⟨booked, k, d, now, state, limit⟩ := bookAttempt_ledgers (classOf j c.record) L here
  obtain ⟨job, copy, attempt⟩ := attempt?_eq_some.1 now
  obtain ⟨h, at_⟩ : ∃ h : Fin 32, h.val = r.handle := ⟨⟨r.handle, job?_lt job⟩, rfl⟩
  have number : c.attempt = r.attempt := (attempt?_eq_some.1 here).2.2
  unfold closeAttempt
  dsimp only
  have next := nextCopyState_cases j c.attempt (classOf j c.record)
  generalize nextCopyState j c.attempt (classOf j c.record) = cs at next ⊢
  generalize bookAttempt r (classOf j c.record) e = e1 at booked now job ⊢
  have was : d.state = .finishing := state.trans ready
  have flux := advance_flux booked at_ now was (cs := cs)
    (fun is => by
      rcases next with ⟨-, more⟩ | terminal
      · omega
      · rw [is] at terminal; cases terminal) (next.imp_left And.left)
  have new := job?_advance job cs
  have list : ((e1.modifyCopy r (CopyRecord.advance cs)).modifyJob r.handle
      (Job.countTerminal cs)).st.store.waitList = e1.st.store.waitList := by
    rw [modifyJob_waitList, Ev.modifyCopy, modifyJob_waitList]
  have counts := countIn_advanced cs copy attempt was
  obtain ⟨state', held, -⟩ := k.advanced_fields r cs
  obtain ⟨waitInk, queued, closing, closed⟩ := (stateSound_iff k).1 (booked.states _ _ (by simp) job)
  have fin : 0 < k.countIn .finishing :=
    countIn_pos.2 ⟨d, by
      cases n : r.copy with
      | zero => rw [n] at copy; cases copy
      | succ i => rw [n] at copy; exact List.mem_of_getElem? copy, was⟩
  have open_ : (k.advanced r cs).state ≠ .closed := fun is => by
    have := (closed (state' ▸ is)).2.1
    omega
  have waits : h ∈ ((e1.modifyCopy r (CopyRecord.advance cs)).modifyJob r.handle
      (Job.countTerminal cs)).st.store.waitList ↔ (k.advanced r cs).state = .waitInk := by
    rw [list, state']
    exact booked.waits (at_ ▸ job)
  have raised (x : Subject) (n : Nat) := LedgersBut.within (raise_within
    ((e1.modifyCopy r (CopyRecord.advance cs)).modifyJob r.handle (Job.countTerminal cs)) .copyDone x n) flux
  rw [← at_] at new raised waits ⊢
  split
  · have more := counts .pending
    simp only [reduceCtorEq, if_false, if_true] at more
    exact rejoin_settles (raised _ _) new (by omega) open_ (fun is => held ▸ (waitInk (state' ▸ is)).2)
      (fun is => held ▸ (queued (state' ▸ is)).2) waits
  · next other =>
    have pending := counts .pending
    simp only [reduceCtorEq, if_false, if_neg other] at pending
    refine closeJobIfDone_settles (raised _ _) new (fun going => ?_) open_ waits
    have still : ¬ ((k.advanced r cs).countIn .pending = 0 ∧ (k.advanced r cs).countIn .printing = 0 ∧
        (k.advanced r cs).countIn .finishing = 0) := by
      rw [← allTerminal_iff_counts, going]
      simp
    rw [stateSound_iff, state', held]
    exact ⟨fun is => ⟨by have := (waitInk is).1; omega, (waitInk is).2⟩,
      fun is => ⟨by have := (queued is).1; omega, (queued is).2⟩,
      fun is => by have := (closing is).1; omega,
      fun is => absurd (state'.trans is) open_⟩

theorem closeIfReady_ledgers (r : CopyRef) (L : LedgersBut none e.st) : LedgersBut none (closeIfReady r e).st := by
  unfold closeIfReady
  split
  · exact L
  · next j c here =>
    split
    · next ready =>
      simp only [readyToClose, Bool.and_eq_true, beq_iff_eq] at ready
      exact closeAttempt_ledgers L here ready.1.1.1
    · exact L

theorem settleCloses_ledgers (L : LedgersBut none e.st) : LedgersBut none (settleCloses e).st :=
  foldl_keeps (fun e : Ev => LedgersBut none e.st) _ _ _ (fun _ r kept => closeIfReady_ledgers r kept)
    (L.within (noDue_within e))

theorem settle_ledgers (L : LedgersBut none e.st) : LedgersBut none (settle e).st := by
  rw [settle_eq]
  refine .within (syncPause_within _) <| .within (syncHold_within _) <| .within (settleAccounts_within _) ?_
  exact settleInk_ledgers (settleCloses_ledgers (L.within (setLost_within e false)))

end

end Sys2Proof.Machine
end

section
/-! The ledgers through the end of printing, the grant, the cancel and the jobs that come and go (O11). -/

namespace Sys2Proof.Machine

-- One proof after another: the stacks of many waiting threads do not fit the memory of one compile.
set_option Elab.async false

section
variable {e : Ev} {h : Fin 32} {j : Job}

/-! ### A job that keeps its state -/

/-- A change of one job that its state, its figures and the wait list do not see. -/
theorem modifyJob_still {x : Option Nat} {f : Job → Job} {n : Nat} (L : LedgersBut x e.st)
    (here : e.st.job? n = some j) (counted : (f j).Counted) (sound : j.stateSound → (f j).stateSound)
    (state : (f j).state = j.state) (figures : (f j).figures = j.figures) :
    LedgersBut x (e.modifyJob n f).st := by
  have jobs (m : Nat) (k : Job) (at_ : (e.modifyJob n f).st.job? m = some k) :
      (m = n ∧ k = f j) ∨ e.st.job? m = some k := by
    rw [job?_modifyJob] at at_
    split at at_
    · next same =>
      rw [same, here] at at_
      exact .inl ⟨same, (Option.some.inj at_).symm⟩
    · exact .inr at_
  have map_ {α : Type} (g : Job → α) (same : g (f j) = g j) (m : Nat) :
      ((e.modifyJob n f).st.job? m).map g = (e.st.job? m).map g := by
    rw [job?_modifyJob]
    split
    · next eq => rw [eq, here]; exact congrArg some same
    · rfl
  refine ⟨fun m k at_ => ?_, fun m k other at_ => ?_, fun m other => ?_, ?_,
    sums_congr L.sums (map_ _ figures) rfl⟩
  · rcases jobs m k at_ with ⟨-, rfl⟩ | was
    · exact counted
    · exact L.counted m k was
  · rcases jobs m k at_ with ⟨rfl, rfl⟩ | was
    · exact sound (L.states m j other here)
    · exact L.states m k other was
  · rw [modifyJob_waitList, map_ (·.state) state]
    exact L.waiting m other
  · rw [modifyJob_waitList]
    exact L.once

/-- A copy that moves from PRINTING to FINISHING. -/
theorem modifyCopy_finishing {x : Option Nat} {r : CopyRef} {f : CopyRecord → CopyRecord} {c : CopyRecord}
    (L : LedgersBut x e.st) (here : e.st.attempt? r = some (j, c)) (was : c.state = .printing)
    (is : ∀ c, (f c).state = .finishing) (same : ∀ c, (f c).attempt = c.attempt) :
    LedgersBut x (e.modifyCopy r f).st := by
  obtain ⟨job, copy, attempt⟩ := attempt?_eq_some.1 here
  have counts := countIn_modifyCopies f copy attempt
  rw [was, is] at counts
  refine modifyJob_still L job ((L.counted _ _ job).move copy attempt (by rw [was]; rfl) (by rw [is]; rfl) same)
    (fun sound => stateSound_of_counts sound rfl rfl ?_ ?_) rfl rfl
  · simpa using counts .pending
  · have printing := counts .printing
    have finishing := counts .finishing
    simp only [reduceCtorEq, if_false, if_true] at printing finishing
    omega

/-! ### The end of printing -/

/-- The copy that prints is the granted one. -/
theorem attempt?_of_printing {r : CopyRef} (sound : PrintingSound e.st) (current : e.st.printing = some r) :
    ∃ j c, e.st.attempt? r = some (j, c) ∧ c.state = .printing := by
  obtain ⟨⟨j, c⟩, named⟩ := Option.isSome_iff_exists.1 (sound.current r current)
  obtain ⟨here, copy, attempt⟩ := attempt?_eq_some.1 named
  exact ⟨j, c, named, (sound.named r.handle j r.copy c here copy).2 (by rw [current, attempt])⟩

theorem endPrinting_ledgers {x : Option Nat} (cause : EndCause) (sound : PrintingSound e.st)
    (L : LedgersBut x e.st) : LedgersBut x (endPrinting cause e).st := by
  unfold endPrinting
  split
  · exact L
  · next r current =>
    have paused : PrintingSound (endPause e).st := (Ev.Quiet.of_within (endPause_within e)).keeps sound
    obtain ⟨j, c, named, was⟩ := attempt?_of_printing (e := endPause e) paused
      ((printing_congr ((endPause_within e).same .grant (by decide))).trans current)
    have ended : LedgersBut x (((endPause e).modifyCopy r
        (CopyRecord.endPrinting cause e.st.now e.st.media.pos)).mapSched (Schedule.endPrinting cause r)).st := by
      have moved := modifyCopy_finishing (f := CopyRecord.endPrinting cause e.st.now e.st.media.pos)
        (L.within (endPause_within e)) named was (fun _ => rfl) fun _ => rfl
      exact ledgersBut_congr moved (fun _ => rfl) rfl rfl
    dsimp only
    split
    · exact .within (mayClose_within _ _) (ended.within (startDryClock_within _ r))
    · exact .within (mayClose_within _ _) (ended.within (endMarks_within _ r))

/-! ### The grant -/

theorem countIn_afterGrant (j : Job) (st : CopyState) : j.afterGrant.countIn st = j.countIn st := by
  unfold Job.afterGrant
  split <;> rfl

theorem grantCopy_ledgers {r : CopyRef} {c : CopyRecord} {f : CopyRecord → CopyRecord} (L : LedgersBut none e.st)
    (here : e.st.attempt? r = some (j, c)) (queued : j.state = .queued) (was : c.state = .pending)
    (is : ∀ c, (f c).state = .printing) (same : ∀ c, (f c).attempt = c.attempt) :
    LedgersBut none ((e.modifyCopy r f).modifyJob r.handle Job.afterGrant).st := by
  obtain ⟨job, copy, attempt⟩ := attempt?_eq_some.1 here
  obtain ⟨h, at_⟩ : ∃ h : Fin 32, h.val = r.handle := ⟨⟨r.handle, job?_lt job⟩, rfl⟩
  have new : ((e.modifyCopy r f).modifyJob r.handle Job.afterGrant).st.job? r.handle =
      some (Job.afterGrant { j with copies := modifyCopies r f j.copies }) := by
    rw [job?_modifyJob_same, Ev.modifyCopy, job?_modifyJob_same, job]
    rfl
  have others (n : Nat) (other : n ≠ r.handle) :
      ((e.modifyCopy r f).modifyJob r.handle Job.afterGrant).st.job? n = e.st.job? n := by
    rw [job?_modifyJob_ne _ other, Ev.modifyCopy, job?_modifyJob_ne _ other]
  have list : ((e.modifyCopy r f).modifyJob r.handle Job.afterGrant).st.store.waitList = e.st.store.waitList := by
    rw [modifyJob_waitList, Ev.modifyCopy, modifyJob_waitList]
  have moved := (L.counted _ _ job).move copy attempt (by rw [was]; rfl) (by rw [is]; rfl) same
  have counts := countIn_modifyCopies f copy attempt
  rw [was, is] at counts
  have held := (((stateSound_iff j).1 (L.states _ _ (by simp) job)).2.1 queued).2
  rw [← at_] at new others list job ⊢
  have out : h ∉ e.st.store.waitList := not_waiting L job (by simp [queued])
  generalize granted : ({ j with copies := modifyCopies r f j.copies } : Job) = g at new moved counts
  have fields : g.state = .queued ∧ g.reservationHeld = true ∧ g.figures = j.figures := by
    subst granted
    exact ⟨queued, held, rfl⟩
  obtain ⟨state, held, figures⟩ := fields
  have printing := counts .printing
  simp only [reduceCtorEq, if_false, if_true] at printing
  by_cases last : g.countIn .pending = 0
  · rw [Job.afterGrant, if_pos last] at new
    have flux := (L.loosen h.val).rewrite (h := h) new others (moved.of_figures rfl rfl moved.unheld)
      (fun n _ => by rw [list]) (by rw [list]; exact L.once) (sums_congr L.sums (fun n => by
        by_cases eq : n = h.val
        · rw [eq, new, job, Option.map_some, Option.map_some, ← figures]
          simp only [Job.figures, commitment_of_open (j := g) (by simp [state])]
          rfl
        · rw [others n eq]) rfl)
    refine flux.rest new ?_ (iff_of_false (by rw [list]; exact out) (by simp))
    refine (stateSound_iff _).2 ⟨fun is => (nomatch is), fun is => (nomatch is), fun _ => ⟨last, ?_⟩,
      fun is => (nomatch is)⟩
    show 0 < g.countIn .printing + g.countIn .finishing
    omega
  · rw [Job.afterGrant, if_neg last] at new
    have flux := (L.loosen h.val).rewrite (h := h) new others moved
      (fun n _ => by rw [list]) (by rw [list]; exact L.once) (sums_congr L.sums (fun n => by
        by_cases eq : n = h.val
        · rw [eq, new, job]
          exact congrArg some figures
        · rw [others n eq]) rfl)
    refine flux.rest new ?_ (iff_of_false (by rw [list]; exact out) (by simp [state]))
    exact (stateSound_iff _).2 ⟨fun is => by simp [state] at is, fun _ => ⟨Nat.pos_of_ne_zero last, held⟩,
      fun is => by simp [state] at is, fun is => by simp [state] at is⟩

theorem grant_ledgers {n : Nat} {c : CopyRecord} (roll : Fin 2) (i : Fin 32) (L : LedgersBut none e.st)
    (here : e.st.job? h.val = some j) (queued : j.state = .queued) (copy : j.copy? n = some c)
    (pending : c.state = .pending) :
    LedgersBut none (grant { handle := h.val, copy := n, attempt := c.attempt } j roll i e).st := by
  unfold grant
  dsimp only
  refine .within (judgeGrant_within _) <| .within (addStrip_within _ _ j) <|
    .within (mapScan_within (f := ScanUnit.disqualify) _ rfl) <| .within (mapGrant_within _ rfl rfl) <|
    .within (mapMarks_within _ rfl) ?_
  exact grantCopy_ledgers (r := { handle := h.val, copy := n, attempt := c.attempt }) L
    (attempt?_eq_some.2 ⟨here, copy, rfl⟩) queued pending (fun _ => rfl) fun _ => rfl

/-! ### The cancel -/

/-- The job has no PENDING copy, no reservation and no place on the wait list, and is not CLOSED (R19). -/
def Withdrawn (h : Fin 32) (s : State) : Prop :=
  h ∉ s.store.waitList ∧ ∃ j, s.job? h.val = some j ∧ j.countIn .pending = 0 ∧ j.reservationHeld = false ∧
    j.state ≠ .closed

theorem withdrawn_congr {s t : State} (W : Withdrawn h s)
    (books : ∀ n, (t.job? n).map Job.book = (s.job? n).map Job.book) (list : t.store.waitList = s.store.waitList) :
    Withdrawn h t := by
  obtain ⟨out, j, here, pending, held, open_⟩ := W
  have same := books h.val
  rw [here] at same
  obtain ⟨k, now, eq⟩ := Option.map_eq_some_iff.1 same
  refine ⟨list ▸ out, k, now, ?_, ?_, ?_⟩
  · rw [← countIn_book, eq, countIn_book]
    exact pending
  · exact (congrArg (·.reservationHeld) eq :).trans held
  · exact fun is => open_ ((congrArg (·.state) eq :).symm.trans is)

theorem withdrawn_rests (h : Fin 32) : Rests [.books, .waitList] fun e => Withdrawn h e.st := fun _ _ same W =>
  withdrawn_congr W (job?_congr (same .books (by decide))) (same .waitList (by decide))

theorem endPrinting_withdrawn (cause : EndCause) (W : Withdrawn h e.st) (sound : PrintingSound e.st) :
    Withdrawn h (endPrinting cause e).st := by
  unfold endPrinting
  split
  · exact W
  · next r current =>
    have paused : PrintingSound (endPause e).st := (Ev.Quiet.of_within (endPause_within e)).keeps sound
    obtain ⟨k, c, named, was⟩ := attempt?_of_printing (e := endPause e) paused
      ((printing_congr ((endPause_within e).same .grant (by decide))).trans current)
    obtain ⟨job, copy, attempt⟩ := attempt?_eq_some.1 named
    have moved : Withdrawn h (((endPause e).modifyCopy r
        (CopyRecord.endPrinting cause e.st.now e.st.media.pos)).mapSched (Schedule.endPrinting cause r)).st := by
      obtain ⟨out, j, here, pending, held, open_⟩ := (withdrawn_rests h).within (endPause_within e) W
      refine ⟨?_, ?_⟩
      · rw [mapSched_store, Ev.modifyCopy, modifyJob_waitList]
        exact out
      · have jobs : (((endPause e).modifyCopy r (CopyRecord.endPrinting cause e.st.now e.st.media.pos)).mapSched
            (Schedule.endPrinting cause r)).st.job? h.val = _ := job?_modifyJob r.handle _ (endPause e) h.val
        rw [jobs, here]
        by_cases same : h.val = r.handle
        · rw [if_pos same]
          refine ⟨_, rfl, ?_, held, open_⟩
          rw [same] at here
          cases here.symm.trans job
          have counts := countIn_modifyCopies (CopyRecord.endPrinting cause e.st.now e.st.media.pos) copy attempt
            .pending
          rw [was] at counts
          simp only [CopyRecord.endPrinting, reduceCtorEq, if_false] at counts
          exact counts.trans pending
        · rw [if_neg same]
          exact ⟨j, rfl, pending, held, open_⟩
    dsimp only
    split
    · exact (withdrawn_rests h).within (mayClose_within _ _)
        ((withdrawn_rests h).within (startDryClock_within _ r) moved)
    · exact (withdrawn_rests h).within (mayClose_within _ _)
        ((withdrawn_rests h).within (endMarks_within _ r) moved)

/-- The cancelled job before its printing copy ends (R19, R41). -/
def withdrawn (h : Fin 32) (e : Ev) : Ev :=
  (leaveWaitList h.val (releaseReservation h.val
    (e.modifyJob h.val fun k => { k with cancelled := true }))).modifyJob h.val Job.cancelPending

theorem cancelJob_eq (h : Fin 32) (j : Job) (e : Ev) : cancelJob h j e = closeJobIfDone h.val
    (((refsFrom h.val 1 j.copies).foldl (fun e r => dropMeasure r e)
      (if e.st.jobPrints h.val then endPrinting .cancelled (withdrawn h e) else withdrawn h e)).modifyJob h.val
        fun k => { k with state := .closing }) := rfl

theorem withdrawn_printing (sound : PrintingSound e.st) : PrintingSound (withdrawn h e).st :=
  ((((Ev.Quiet.modifyFigures e h.val (f := fun k => { k with cancelled := true }) fun _ => rfl).trans
    (releaseReservation_quiet _ _)).trans (leaveWaitList_quiet _ _)).trans
      (.modifyJob _ _ _ fun k _ => k.quiet_cancelPending)).keeps sound

theorem withdrawn_ledgers (L : LedgersBut none e.st) (here : e.st.job? h.val = some j) (open_ : j.state ≠ .closed) :
    LedgersBut (some h.val) (withdrawn h e).st ∧ Withdrawn h (withdrawn h e).st := by
  have counted := L.counted _ _ here
  have marked := modifyJob_flux (f := fun k => { k with cancelled := true }) (L.loosen h.val) here
    (counted.of_figures rfl rfl counted.unheld) rfl
  have at1 : (e.modifyJob h.val fun k => { k with cancelled := true }).st.job? h.val =
      some { j with cancelled := true } := by
    rw [job?_modifyJob_same, here]
    rfl
  have left := leaveWaitList_flux (releaseReservation_flux marked at1) (job?_releaseReservation at1)
  have at2 : (leaveWaitList h.val (releaseReservation h.val
      (e.modifyJob h.val fun k => { k with cancelled := true }))).st.job? h.val =
        some (Job.released { j with cancelled := true }) := job?_releaseReservation at1
  refine ⟨modifyJob_flux left at2 (left.counted _ _ at2).cancelPending rfl, ?_, ?_⟩
  · rw [withdrawn, modifyJob_waitList]
    exact not_mem_leaveWaitList
  · refine ⟨(Job.released { j with cancelled := true }).cancelPending, ?_, ?_, rfl, open_⟩
    · rw [withdrawn, job?_modifyJob_same, at2]
      rfl
    · rw [countIn_cancelPending, if_pos rfl]

theorem cancelJob_ledgers (sound : PrintingSound e.st) (L : LedgersBut none e.st)
    (here : e.st.job? h.val = some j) (open_ : j.state ≠ .closed) : LedgersBut none (cancelJob h j e).st := by
  obtain ⟨left, gone⟩ := withdrawn_ledgers L here open_
  have printing := withdrawn_printing (h := h) sound
  rw [cancelJob_eq]
  generalize withdrawn h e = e2 at left gone printing ⊢
  have ended : LedgersBut (some h.val)
      (if e.st.jobPrints h.val = true then endPrinting .cancelled e2 else e2).st ∧
        Withdrawn h (if e.st.jobPrints h.val = true then endPrinting .cancelled e2 else e2).st := by
    split
    · exact ⟨endPrinting_ledgers _ printing left, endPrinting_withdrawn _ gone printing⟩
    · exact ⟨left, gone⟩
  generalize (if e.st.jobPrints h.val = true then endPrinting .cancelled e2 else e2) = e3 at ended ⊢
  have dropped := ended.1.within (refsFold_within e3 (refsFrom h.val 1 j.copies))
  obtain ⟨out, k, at_, pending, held, open_⟩ :=
    (withdrawn_rests h).within (refsFold_within e3 (refsFrom h.val 1 j.copies)) ended.2
  generalize (refsFrom h.val 1 j.copies).foldl (fun e r => dropMeasure r e) e3 = e4 at dropped out at_ ⊢
  have counted := dropped.counted _ _ at_
  have closing := modifyJob_flux (f := fun k => { k with state := .closing }) dropped at_
    (counted.of_figures rfl rfl counted.unheld) (by
      simp only [Job.figures, commitment_of_open open_]
      rfl)
  refine closeJobIfDone_settles (j := { k with state := .closing }) closing ?_ (fun going => ?_) (by simp) ?_
  · rw [job?_modifyJob_same, at_]
    rfl
  · have still : ¬ (k.countIn .pending = 0 ∧ k.countIn .printing = 0 ∧ k.countIn .finishing = 0) := by
      rw [← allTerminal_iff_counts]
      exact (Bool.eq_false_iff).1 going
    refine (stateSound_iff _).2 ⟨fun is => (nomatch is), fun is => (nomatch is), fun _ => ⟨pending, ?_⟩,
      fun is => (nomatch is)⟩
    show 0 < k.countIn .printing + k.countIn .finishing
    omega
  · rw [modifyJob_waitList]
    exact iff_of_false out (by simp)

/-! ### Jobs that come and go -/

theorem lockPrices_inUse (n : Fin 4) (f : Nat → Nat) (c : CostUnit) (m : Fin 4) :
    (c.lockPrices n f).prices[m].inUse = if m = n then f c.prices[m].inUse else c.prices[m].inUse := by
  show (modifyAt c.prices n fun p => { p with inUse := f p.inUse })[m.val].inUse = _
  rw [modifyAt_getElem]
  by_cases same : m = n
  · rw [if_pos (congrArg Fin.val same), if_pos same]
    rfl
  · rw [if_neg fun eq => same (Fin.ext eq), if_neg same]
    rfl

theorem lockRefs_inUse (k : Option CheckPolicy) (f : Nat → Nat) (u : ColourUnit) (m : Fin 16) :
    (u.lockRefs k f).refs[m].inUse =
      if k.map (·.refSet) = some m then f u.refs[m].inUse else u.refs[m].inUse := by
  cases k with
  | none => rfl
  | some p =>
    show (modifyAt u.refs p.refSet fun r => { r with inUse := f r.inUse })[m.val].inUse = _
    rw [modifyAt_getElem]
    by_cases same : m = p.refSet
    · rw [if_pos (congrArg Fin.val same), same]
      simp
    · rw [if_neg fun eq => same (Fin.ext eq), if_neg (by simpa using Ne.symm same)]
      rfl

theorem job?_listed (h : Fin 32) (j : Job) (e : Ev) (n : Nat) :
    (listed h j e).st.job? n = if n = h.val then some j else e.st.job? n := job?_set e.st h (some j) n

theorem job?_collected (h : Fin 32) (j : Job) (e : Ev) (n : Nat) :
    (collected h j e).st.job? n = if n = h.val then none else e.st.job? n := job?_set e.st h none n

theorem sumJobs_enter {s t : State} (free : s.job? h.val = none) (new : t.job? h.val = some j)
    (others : ∀ n, n ≠ h.val → t.job? n = s.job? n) (f : Job → Nat) : t.sumJobs f = s.sumJobs f + f j := by
  have moved := sumJobs_change h others f
  rwa [free, new, weight_none, weight_some, Nat.add_zero] at moved

theorem sumJobs_leave {s t : State} (here : s.job? h.val = some j) (gone : t.job? h.val = none)
    (others : ∀ n, n ≠ h.val → t.job? n = s.job? n) (f : Job → Nat) : t.sumJobs f + f j = s.sumJobs f := by
  have moved := sumJobs_change h others f
  rwa [here, gone, weight_none, weight_some, Nat.add_zero] at moved

theorem listed_flux (L : LedgersBut none e.st) (free : e.st.job? h.val = none) (counted : j.Counted)
    (unheld : j.reservationHeld = false) (commitment : j.commitment = j.estimateCost) :
    LedgersBut (some h.val) (listed h j e).st := by
  have jobs := job?_listed h j e
  have new : (listed h j e).st.job? h.val = some j := by rw [jobs, if_pos rfl]
  have others (n : Nat) (other : n ≠ h.val) : (listed h j e).st.job? n = e.st.job? n := by rw [jobs, if_neg other]
  have change (f : Job → Nat) : (listed h j e).st.sumJobs f = e.st.sumJobs f + f j :=
    sumJobs_enter free new others f
  have accounts (a : Fin 32) : (listed h j e).st.cost.accounts[a] = _ :=
    modifyAccount_account (e.mapStore (JobStore.addJob h j)) j.account a _
  have ink : (listed h j e).st.ink = e.st.ink := rfl
  have list : (listed h j e).st.store.waitList = e.st.store.waitList := rfl
  refine (L.loosen h.val).rewrite new others counted (fun _ _ => by rw [list]) (by rw [list]; exact L.once)
    ⟨fun c => ?_, fun a => ?_, fun a => ?_, fun n => ?_, fun r => ?_⟩
  · rw [change, counted.reservation_zero unheld c, Nat.add_zero, ink]
    exact L.sums.reserved c
  · rw [change, accounts]
    have sums := L.sums.committed a
    by_cases same : a = j.account
    · rw [if_pos same, if_pos same.symm, commitment]
      exact congrArg (· + j.estimateCost) sums
    · rw [if_neg same, if_neg (Ne.symm same), Nat.add_zero]
      exact sums
  · rw [change, accounts]
    have sums := L.sums.opened a
    by_cases same : a = j.account
    · rw [if_pos same, if_pos same.symm]
      exact congrArg (· + 1) sums
    · rw [if_neg same, if_neg (Ne.symm same), Nat.add_zero]
      exact sums
  · rw [change]
    have sums := L.sums.prices n
    refine (lockPrices_inUse j.priceSet (· + 1) _ n).trans ?_
    by_cases same : n = j.priceSet
    · rw [if_pos same, if_pos same.symm]
      exact congrArg (· + 1) sums
    · rw [if_neg same, if_neg (Ne.symm same), Nat.add_zero]
      exact sums
  · rw [change]
    have sums := L.sums.refs r
    refine (lockRefs_inUse j.check (· + 1) _ r).trans ?_
    split
    · exact congrArg (· + 1) sums
    · exact sums.trans (Nat.add_zero _).symm

theorem admitJob_ledgers {x : Submission} {pl : List Byte} (L : LedgersBut none e.st)
    (read : readSubmission e.st pl = some x) (free : e.st.freeEntry = some h) :
    LedgersBut none (admitJob h (newJob e.st x) e).st := by
  have none_ := job?_freeEntry free
  have bounds := readSubmission_bounds read
  have pending : 0 < (newJob e.st x).countIn .pending := by
    rw [countIn_newJob, if_pos rfl]
    exact bounds.1
  have out : h ∉ e.st.store.waitList := by
    rw [L.waiting h (by simp), none_]
    simp
  have flux := listed_flux (j := newJob e.st x) L none_ (newJob_counted bounds) rfl (by
    rw [commitment_of_open (by simp [newJob])]
    simp [newJob])
  have new : (listed h (newJob e.st x) e).st.job? h.val = some (newJob e.st x) := by rw [job?_listed, if_pos rfl]
  rw [admitJob_eq]
  split
  · refine (takeReservation_flux flux new rfl (by simp [newJob])).rest (job?_takeReservation new) ?_ ?_
    · exact (stateSound_iff _).2 ⟨fun is => (nomatch is), fun _ => ⟨pending, rfl⟩, fun is => (nomatch is),
        fun is => (nomatch is)⟩
    · rw [takeReservation_waitList]
      exact iff_of_false out (by simp [Job.taken])
  · exact joinWaitList_settles flux new out pending rfl (by simp [newJob])

theorem collected_ledgers (L : LedgersBut none e.st) (here : e.st.job? h.val = some j) (closed : j.state = .closed) :
    LedgersBut none (collected h j e).st := by
  have jobs := job?_collected h j e
  have new : (collected h j e).st.job? h.val = none := by rw [jobs, if_pos rfl]
  have others (n : Nat) (other : n ≠ h.val) : (collected h j e).st.job? n = e.st.job? n := by
    rw [jobs, if_neg other]
  have old {n : Nat} {k : Job} (at_ : (collected h j e).st.job? n = some k) : e.st.job? n = some k := by
    rw [jobs] at at_
    split at at_
    · cases at_
    · exact at_
  have change (f : Job → Nat) : (collected h j e).st.sumJobs f + f j = e.st.sumJobs f :=
    sumJobs_leave here new others f
  have accounts (a : Fin 32) : (collected h j e).st.cost.accounts[a] = _ := modifyAccount_account e j.account a _
  have counted := L.counted _ _ here
  have unheld := (((stateSound_iff j).1 (L.states _ _ (by simp) here)).2.2.2 closed).2.2
  have ink : (collected h j e).st.ink = e.st.ink := rfl
  have list : (collected h j e).st.store.waitList = e.st.store.waitList := rfl
  refine ⟨fun n k at_ => L.counted n k (old at_), fun n k _ at_ => L.states n k (by simp) (old at_),
    fun n _ => ?_, by rw [list]; exact L.once, ⟨fun c => ?_, fun a => ?_, fun a => ?_, fun n => ?_, fun r => ?_⟩⟩
  · rw [list, jobs]
    split
    · next same =>
      have apart : n ∉ e.st.store.waitList := not_waiting L (same ▸ here) (by simp [closed])
      exact iff_of_false apart (by simp)
    · exact L.waiting n (by simp)
  · have moved := change fun k => k.reservation[c]
    rw [counted.reservation_zero unheld c, Nat.add_zero] at moved
    rw [ink]
    exact (L.sums.reserved c).trans moved.symm
  · have moved := change fun k => if k.account = a then k.commitment else 0
    rw [commitment_of_closed closed, ite_self, Nat.add_zero] at moved
    rw [accounts]
    refine Eq.trans ?_ ((L.sums.committed a).trans moved.symm)
    split <;> rfl
  · have moved := change fun k => if k.account = a then 1 else 0
    have sums := L.sums.opened a
    rw [accounts]
    by_cases same : a = j.account
    · rw [if_pos same.symm] at moved
      rw [if_pos same]
      dsimp only
      omega
    · rw [if_neg (Ne.symm same)] at moved
      rw [if_neg same]
      omega
  · have moved := change fun k => if k.priceSet = n then 1 else 0
    have sums := L.sums.prices n
    refine (lockPrices_inUse j.priceSet (· - 1) _ n).trans ?_
    show (if _ then e.st.cost.prices[n].inUse - 1 else e.st.cost.prices[n].inUse) = _
    by_cases same : n = j.priceSet
    · rw [if_pos same.symm] at moved
      rw [if_pos same]
      omega
    · rw [if_neg (Ne.symm same)] at moved
      rw [if_neg same]
      omega
  · have moved := (change _).trans (L.sums.refs r).symm
    refine (lockRefs_inUse j.check (· - 1) _ r).trans ?_
    show (if _ then e.st.colour.refs[r].inUse - 1 else e.st.colour.refs[r].inUse) = _
    split
    · next same =>
      rw [if_pos same] at moved
      exact Nat.sub_eq_of_eq_add moved.symm
    · next other =>
      rw [if_neg other, Nat.add_zero] at moved
      exact moved.symm

theorem holds_ledgers (held : Bool) (L : LedgersBut none e.st) :
    LedgersBut none (e.modifyJob h.val fun k => { k with held := held }).st := by
  cases here : e.st.job? h.val with
  | none =>
    refine ledgersBut_congr L (fun n => ?_) (modifyJob_waitList _ _ _) rfl
    rw [job?_modifyJob]
    split
    · next same => rw [same, here]; rfl
    · rfl
  | some j =>
    have counted := L.counted _ _ here
    exact modifyJob_still (f := fun k => { k with held := held }) L here
      (counted.of_figures rfl rfl counted.unheld) id rfl rfl

theorem setRefs_ledgers {n : Fin 16} (patches : List Colour) (L : LedgersBut none e.st)
    (unused : e.st.colour.refs[n].inUse = 0) :
    LedgersBut none (e.mapColour fun u =>
      { u with refs := u.refs.set n.val { patches := patches, inUse := 0 } n.isLt }).st := by
  refine ledgersBut_congr L (fun _ => rfl) rfl ?_
  simp only [State.totals, Prod.mk.injEq]
  refine ⟨rfl, rfl, rfl, funext fun r => ?_⟩
  show (e.st.colour.refs.set n.val { patches := patches, inUse := 0 } n.isLt)[r.val].inUse = _
  rw [Vector.getElem_set]
  split
  · next same =>
    have eq : n = r := Fin.ext same
    subst eq
    exact unused.symm
  · rfl

theorem setPrices_ledgers {n : Fin 4} {x : PriceSet} (L : LedgersBut none e.st)
    (unused : e.st.cost.prices[n].inUse = 0) (free : x.inUse = 0) :
    LedgersBut none (e.mapCost fun c => { c with prices := c.prices.set n.val x n.isLt }).st := by
  refine ledgersBut_congr L (fun _ => rfl) rfl ?_
  simp only [State.totals, Prod.mk.injEq]
  refine ⟨rfl, rfl, funext fun m => ?_, rfl⟩
  show (e.st.cost.prices.set n.val x n.isLt)[m.val].inUse = _
  rw [Vector.getElem_set]
  split
  · next same =>
    have eq : n = m := Fin.ext same
    subst eq
    exact free.trans unused.symm
  · rfl

end

/-- What the operations keep of the ledgers. -/
theorem ledger_core : Core (fun e => PrintingSound e.st ∧ LedgersBut none e.st) fun _ => True where
  restP e e' same sound := ⟨printing_core.restP e e' same sound.1,
    (ledgersBut_rests none).mono (w' := ledgerParts) (by decide) e e' same sound.2⟩
  restQ _ _ _ _ := trivial
  ends e cause sound := ⟨printing_core.ends e cause sound.1, endPrinting_ledgers cause sound.1 sound.2⟩
  draws e h v sound := ⟨printing_core.draws e h v sound.1, drawdown_ledgers v h sound.2⟩
  settles e sound := ⟨⟨(printing_core.settles e sound.1).1, settle_ledgers sound.2⟩, trivial⟩
  grants e h j n c roll i sound _ idle here queued copy pending :=
    ⟨printing_core.grants e h j n c roll i sound.1 trivial idle here queued copy pending,
      grant_ledgers roll i sound.2 here queued copy pending⟩
  cancels e h j sound here open_ :=
    ⟨printing_core.cancels e h j sound.1 here open_, cancelJob_ledgers sound.1 sound.2 here open_⟩
  admits e pl x h sound _ read free :=
    ⟨⟨(printing_core.admits e pl x h sound.1 trivial read free).1, admitJob_ledgers sound.2 read free⟩, trivial⟩
  holds e h held sound _ :=
    ⟨⟨(printing_core.holds e h held sound.1 trivial).1, holds_ledgers held sound.2⟩, trivial⟩
  collects e h j sound _ here closed :=
    ⟨⟨(printing_core.collects e h j sound.1 trivial here closed).1, collected_ledgers sound.2 here closed⟩, trivial⟩
  refs e n patches sound _ unused :=
    ⟨⟨(printing_core.refs e n patches sound.1 trivial unused).1, setRefs_ledgers patches sound.2 unused⟩, trivial⟩
  prices e n x sound _ unused free :=
    ⟨⟨(printing_core.prices e n x sound.1 trivial unused free).1, setPrices_ledgers sound.2 unused free⟩, trivial⟩

/-- A state with no jobs and none of the totals raised. -/
theorem ledgersBut_empty {s : State} (jobs : s.store = JobStore.atReset)
    (reserved : ∀ c : Fin 12, s.ink.channels[c].reserved = 0)
    (dues : ∀ a : Fin 32, s.cost.accounts[a].dues = (0, 0)) (prices : ∀ n : Fin 4, s.cost.prices[n].inUse = 0)
    (refs : ∀ r : Fin 16, s.colour.refs[r].inUse = 0) : LedgersBut none s := by
  have none_ (h : Nat) : s.job? h = none := by
    unfold State.job?
    split
    · rw [jobs]; exact Vector.getElem_replicate _
    · rfl
  have sum (f : Job → Nat) : s.sumJobs f = 0 := by
    refine Nat.eq_zero_of_not_pos fun pos => ?_
    obtain ⟨h, j, here, -⟩ := sumJobs_pos pos
    cases (none_ h).symm.trans here
  have list : s.store.waitList = [] := by rw [jobs]; rfl
  simp only [Account.dues, Prod.mk.injEq] at dues
  refine ⟨fun h j here => (nomatch (none_ h).symm.trans here), fun h j _ here => (nomatch (none_ h).symm.trans here),
    fun h _ => by simp [list, none_], by rw [list]; exact List.nodup_nil,
    ⟨fun c => by rw [sum, reserved], fun a => by rw [sum, (dues a).1], fun a => by rw [sum, (dues a).2],
      fun n => by rw [sum, prices], fun r => by rw [sum, refs]⟩⟩

/-- A state that differs in nothing the ledgers read. -/
theorem ledgersSound_congr {s t : State} (sound : LedgersSound s) (store : t.store = s.store)
    (channels : t.ink.channels = s.ink.channels) (grant : t.sched.grant = s.sched.grant)
    (cost : t.cost = s.cost) (refs : t.colour.refs = s.colour.refs) : LedgersSound t := by
  have jobs (n : Nat) : t.job? n = s.job? n := by simp only [State.job?, store]
  rw [ledgersSound_iff] at sound ⊢
  refine ⟨?_, ledgersBut_congr sound.2 (fun n => by rw [jobs]) (by rw [store]) ?_⟩
  · rw [printingSound_iff] at sound ⊢
    have sheets : t.sheet = s.sheet := funext fun n => by simp only [State.sheet, jobs]
    rw [sheets, printing_congr grant]
    exact sound.1
  · simp only [State.totals, channels, cost, refs]

theorem ledgersSound_empty {s : State} (jobs : s.store = JobStore.atReset) (sched : s.sched = Schedule.atReset)
    (channels : s.ink.channels = Vector.replicate 12 Channel.atReset) (cost : s.cost = CostUnit.atReset)
    (colour : s.colour = ColourUnit.atReset) : LedgersSound s := by
  refine (ledgersSound_iff s).2 ⟨printingSound_empty jobs sched, ledgersBut_empty jobs ?_ ?_ ?_ ?_⟩
  · simp [channels, Channel.atReset]
  · simp [cost, CostUnit.atReset, Account.atReset, Account.dues]
  · simp [cost, CostUnit.atReset, PriceSet.atReset]
  · simp [colour, ColourUnit.atReset]

/-- Settles O11: the ledgers hold with one job in flux through each operation on it, and the job comes to rest
in the state that its copies give. -/
theorem stepKeepsLedgers : Obligations.StepKeepsLedgers :=
  step_keeps_of_core (S := LedgersSound) ledger_core
    (fun _ _ _ sound => ⟨(ledgersSound_iff _).1 (ledgersSound_congr sound rfl rfl rfl rfl rfl), trivial⟩)
    (fun e _ sound _ => ledgersSound_congr ((ledgersSound_iff e.st).2 sound) rfl rfl rfl rfl rfl)
    (fun _ _ sound => ledgersSound_congr sound rfl rfl rfl rfl rfl)
    (fun _ sound => ledgersSound_congr sound rfl rfl rfl rfl rfl)
    (fun _ _ _ sound => ledgersSound_congr sound rfl rfl rfl rfl rfl)
    (fun _ sound => ledgersSound_congr sound rfl rfl rfl rfl rfl)
    (fun _ _ => ledgersSound_empty rfl rfl rfl rfl rfl)
    fun _ sound => ledgersSound_congr sound rfl rfl rfl rfl rfl

end Sys2Proof.Machine
end

section
/-! Reservations within the usable volume, and SHORT channels (2.7, O12): what eases a channel's bound, and
what the consequences at the end of an event make of it. -/

namespace Sys2Proof.Machine

-- One proof after another: the stacks of many waiting threads do not fit the memory of one compile.
set_option Elab.async false

def State.isShort (s : State) (c : Fin 12) : Bool := s.ink.channels[c].short

def State.reservedAt (s : State) (c : Fin 12) : Nat := s.ink.channels[c].reserved

/-- A job of the handle holds a reservation on the channel. -/
def State.Holds (s : State) (c : Fin 12) (h : Nat) : Prop := ∃ j, s.job? h = some j ∧ 0 < j.reservation[c]

/-- Only the printing job holds a reservation on the channel. -/
def State.Alone (s : State) (c : Fin 12) : Prop := ∀ h, s.Holds c h → s.printing.map (·.handle) = some h

theorem boundFails_iff (s : State) (c : Fin 12) : s.ink.boundFails c = true ↔ s.ink.usable c < s.reservedAt c :=
  decide_eq_true_iff

/-! ### Operations that give reservations up -/

/-- From `e` to `e'` no reservation grows and no flag changes; the copy PRINTING stands, or ends. -/
structure Ev.Eases (e e' : Ev) : Prop where
  short : ∀ c, e'.st.isShort c = e.st.isShort c
  reserved : ∀ c, e'.st.reservedAt c ≤ e.st.reservedAt c
  printing : e'.st.printing = none ∨ e'.st.printing = e.st.printing
  holds : ∀ c h, e'.st.Holds c h → e.st.Holds c h

namespace Ev.Eases

theorem refl (e : Ev) : e.Eases e := ⟨fun _ => rfl, fun _ => Nat.le_refl _, .inr rfl, fun _ _ => id⟩

theorem trans {e f g : Ev} (a : e.Eases f) (b : f.Eases g) : e.Eases g := by
  refine ⟨fun c => (b.short c).trans (a.short c), fun c => (b.reserved c).trans (a.reserved c), ?_,
    fun c h holds => a.holds c h (b.holds c h holds)⟩
  rcases b.printing with ended | same
  · exact .inl ended
  · exact a.printing.imp same.trans same.trans

theorem of_same {e e' : Ev} (same : ∀ p ∈ [Part.books, .reserved, .short, .grant], p.Same e e') : e.Eases e' := by
  have short := same .short (by decide)
  have reserved := same .reserved (by decide)
  refine ⟨fun c => ?_, fun c => le_of_eq ?_, .inr (printing_congr (same .grant (by decide))), fun c n holds => ?_⟩
  · simpa [mapTable_get, State.isShort] using congrArg (·[c]) (short :)
  · simpa [mapTable_get, State.reservedAt] using congrArg (·[c]) (reserved :)
  · obtain ⟨k, at_, pos⟩ := holds
    have books := job?_congr (same .books (by decide)) n
    rw [at_] at books
    obtain ⟨j, was, eq⟩ := Option.map_eq_some_iff.1 books.symm
    have reservation : j.reservation = k.reservation := (congrArg (·.reservation) eq :)
    exact ⟨j, was, by rwa [reservation]⟩

theorem of_within {w : List Part} {e e' : Ev} (h : e.Within w e')
    (free : ∀ p ∈ [Part.books, .reserved, .short, .grant], p ∉ w := by decide) : e.Eases e' :=
  of_same fun p inn => h.same p (free p inn)

/-- The last operation first: a step that eases, or one within parts that no reservation rests on. -/
theorem then_ {e f g : Ev} (b : f.Eases g) (a : e.Eases f) : e.Eases g := a.trans b

theorem then_within {w : List Part} {e f g : Ev} (k : f.Within w g) (a : e.Eases f)
    (free : ∀ p ∈ [Part.books, .reserved, .short, .grant], p ∉ w := by decide) : e.Eases g :=
  a.trans (.of_within k free)

theorem foldl {β : Type} (f : Ev → β → Ev) (l : List β) (e : Ev) (step : ∀ (e : Ev) (b : β), e.Eases (f e b)) :
    e.Eases (l.foldl f e) :=
  foldl_keeps (fun e' => e.Eases e') f l e (fun a b h => h.trans (step a b)) (refl e)

/-- Reserved totals that fall, and a job whose reservations do. -/
theorem reserve (e : Ev) (n : Nat) {g : Fin 12 → Nat → Nat} {f : Job → Job} (falls : ∀ c x, g c x ≤ x)
    (held : ∀ j, e.st.job? n = some j → ∀ c : Fin 12, (f j).reservation[c] ≤ j.reservation[c]) :
    e.Eases ((e.mapInk (InkUnit.mapReserved g)).modifyJob n f) := by
  refine ⟨fun c => ?_, fun c => ?_, .inr rfl, fun c h holds => ?_⟩
  · show (e.mapInk (InkUnit.mapReserved g)).st.ink.channels[c].short = _
    simp only [InkUnit.mapReserved, mapInk_ink, tabulate_get]
    rfl
  · exact (reserved_mapReserved e g c).le.trans (falls c _)
  · obtain ⟨k, at_, pos⟩ := holds
    have jobs : ((e.mapInk (InkUnit.mapReserved g)).modifyJob n f).st.job? h =
      if h = n then (e.st.job? h).map f else e.st.job? h := job?_modifyJob n f _ h
    rw [jobs] at at_
    split at at_
    · next same =>
      obtain ⟨j, was, rfl⟩ := Option.map_eq_some_iff.1 at_
      exact ⟨j, was, pos.trans_le (held j (same ▸ was) c)⟩
    · exact ⟨k, at_, pos⟩

theorem modifyJob (e : Ev) (n : Nat) {f : Job → Job} (same : ∀ j, (f j).reservation = j.reservation) :
    e.Eases (e.modifyJob n f) := by
  refine ⟨fun _ => rfl, fun _ => Nat.le_refl _, .inr rfl, fun c h holds => ?_⟩
  obtain ⟨k, at_, pos⟩ := holds
  rw [job?_modifyJob] at at_
  split at at_
  · obtain ⟨j, was, rfl⟩ := Option.map_eq_some_iff.1 at_
    rw [same] at pos
    exact ⟨j, was, pos⟩
  · exact ⟨k, at_, pos⟩

theorem alone {e e' : Ev} (a : e.Eases e') (printing : e'.st.printing = e.st.printing) {c : Fin 12}
    (sole : e.st.Alone c) : e'.st.Alone c := fun h holds => by
  rw [printing]
  exact sole h (a.holds c h holds)

end Ev.Eases

section
variable (e : Ev)

theorem releaseReservation_eases (h : Nat) : e.Eases (releaseReservation h e) := by
  unfold releaseReservation
  split
  · exact .refl e
  · next j here =>
    refine Ev.Eases.trans (.reserve e h (fun _ _ => Nat.sub_le _ _) fun _ _ c => ?_)
      (.of_within (noteFreed_within _ _))
    simp

theorem drawdown_eases (h : Nat) (v : Vector Nat 12) : e.Eases (drawdown h v e) := by
  unfold drawdown
  split
  · exact .refl e
  · refine .reserve e h (fun _ _ => Nat.sub_le _ _) fun _ _ c => ?_
    rw [tabulate_get]
    exact Nat.sub_le _ _

theorem leaveWaitList_eases (h : Nat) : e.Eases (leaveWaitList h e) := .of_within (leaveWaitList_within e h)

theorem joinWaitList_eases (h : Fin 32) : e.Eases (joinWaitList h e) :=
  .then_within (mapWaitList_within _ _) (.modifyJob e h.val fun _ => rfl)

theorem closeJob_eases (h : Nat) : e.Eases (closeJob h e) := by
  unfold closeJob
  split
  · exact .refl e
  · exact .then_within (raise_within _ _ _ _) <| .then_ (.modifyJob _ _ fun _ => rfl) <|
      .then_within (modifyAccount_within _ _ fun _ => rfl) <| .then_ (leaveWaitList_eases _ h)
        (releaseReservation_eases e h)

theorem closeJobIfDone_eases (h : Nat) : e.Eases (closeJobIfDone h e) := by
  unfold closeJobIfDone
  split
  · exact .refl e
  · split
    · exact closeJob_eases e h
    · exact .refl e

theorem bookAttempt_eases (r : CopyRef) (cls : AttemptClass) : e.Eases (bookAttempt r cls e) := by
  unfold bookAttempt
  split
  · exact .refl e
  · dsimp only
    exact .then_within (modifyAccount_within _ _ (Account.terms_charge _)) <|
      .then_within (modifyAccount_within _ _ fun _ => by simp only [Account.terms, Account.charge]) <|
      .then_ (.modifyJob _ _ fun _ => rfl) (.of_within (modifyAttempt_within e r _))

theorem modifyCopy_eases (r : CopyRef) (f : CopyRecord → CopyRecord) : e.Eases (e.modifyCopy r f) :=
  .modifyJob e r.handle fun _ => rfl

theorem trimJob_eases (h : Fin 32) : e.Eases (trimJob h e) := by
  have released := releaseReservation_eases e h.val
  unfold trimJob
  dsimp only
  split
  · exact released
  · split
    · exact .then_within (raise_within _ _ _ _) (released.trans (joinWaitList_eases _ h))
    · exact released

theorem endPrinting_eases (cause : EndCause) : e.Eases (endPrinting cause e) := by
  unfold endPrinting
  split
  · exact .refl e
  · next r current =>
    have ended : e.Eases (((endPause e).modifyCopy r
        (CopyRecord.endPrinting cause e.st.now e.st.media.pos)).mapSched (Schedule.endPrinting cause r)) := by
      have copied := (Ev.Eases.of_within (endPause_within e)).trans (modifyCopy_eases (endPause e) r
        (CopyRecord.endPrinting cause e.st.now e.st.media.pos))
      refine ⟨copied.short, copied.reserved, .inl ?_, copied.holds⟩
      unfold State.printing
      split
      · next g at_ =>
        rw [if_neg]
        simp [printing_none_of_endPrinting cause r _ g at_]
      · rfl
    dsimp only
    split
    · exact .then_within (mayClose_within _ _) (.then_within (startDryClock_within _ r) ended)
    · exact .then_within (mayClose_within _ _) (.then_within (endMarks_within _ r) ended)

theorem cancelJob_eases (h : Fin 32) (j : Job) : e.Eases (cancelJob h j e) := by
  have left : e.Eases (withdrawn h e) :=
    .then_ (.modifyJob _ _ fun _ => rfl) <| .then_ (leaveWaitList_eases _ _) <|
      .then_ (releaseReservation_eases _ _) (.modifyJob e h.val fun _ => rfl)
  have ended : e.Eases (if e.st.jobPrints h.val then endPrinting .cancelled (withdrawn h e)
      else withdrawn h e) := by
    split
    · exact left.trans (endPrinting_eases _ _)
    · exact left
  rw [cancelJob_eq]
  exact .then_ (closeJobIfDone_eases _ _) <| .then_ (.modifyJob _ _ fun _ => rfl) <|
    .then_within (refsFold_within _ _) ended

end

/-! ### A SHORT channel between events -/

/-- While a copy is PRINTING, only its job holds a reservation on a channel that is SHORT (R43). -/
def ShortAlone (s : State) : Prop := ∀ c, s.isShort c = true → s.printing.isSome = true → s.Alone c

theorem shortAlone_of_eases {e e' : Ev} (a : e.Eases e') (sound : ShortAlone e.st) : ShortAlone e'.st := by
  intro c short printing
  rcases a.printing with ended | same
  · rw [ended] at printing; cases printing
  · exact a.alone same (sound c (a.short c ▸ short) (same ▸ printing))

/-- The bounds at the end of an event (R42, R43). -/
structure Bounded (s : State) : Prop where
  short : ∀ c, s.isShort c = s.ink.boundFails c
  alone : ∀ c, s.ink.boundFails c = true → s.Alone c

/-- Under no PRINTING copy no bound fails: nothing is reserved on such a channel. -/
theorem boundFails_printing {s : State} (L : LedgersBut none s) {c : Fin 12} (fails : s.ink.boundFails c = true)
    (alone : s.Alone c) : s.printing.isSome = true := by
  have more := (boundFails_iff s c).1 fails
  have pos : 0 < s.sumJobs fun j => j.reservation[c] := by
    rw [← L.sums.reserved c]
    exact Nat.zero_lt_of_lt more
  obtain ⟨h, j, here, held⟩ := sumJobs_pos pos
  have named := alone h ⟨j, here, held⟩
  cases printing : s.printing with
  | none => rw [printing] at named; cases named
  | some r => rfl

/-! ### The consequences at the end of an event -/

/-- From `e` to `e'` no bound begins to fail, and on a failing bound no job comes to hold a reservation. -/
structure Ev.Spares (e e' : Ev) : Prop where
  short : ∀ c, e'.st.isShort c = e.st.isShort c
  printing : e'.st.printing = e.st.printing
  fails : ∀ c, e'.st.ink.boundFails c = true → e.st.ink.boundFails c = true
  holds : ∀ c, e'.st.ink.boundFails c = true → ∀ h, e'.st.Holds c h → e.st.Holds c h

theorem Ev.Spares.refl (e : Ev) : e.Spares e := ⟨fun _ => rfl, rfl, fun _ => id, fun _ _ _ => id⟩

theorem Ev.Spares.trans {e f g : Ev} (a : e.Spares f) (b : f.Spares g) : e.Spares g :=
  ⟨fun c => (b.short c).trans (a.short c), b.printing.trans a.printing, fun c x => a.fails c (b.fails c x),
    fun c x h holds => a.holds c (b.fails c x) h (b.holds c x h holds)⟩

theorem Ev.Eases.spares {e e' : Ev} (a : e.Eases e') (w : e.Within closeParts e') : e.Spares e' := by
  have printing : e'.st.printing = e.st.printing := printing_congr (w.same .grant (by decide))
  have usable : e'.st.ink.usable = e.st.ink.usable := w.same .usable (by decide)
  refine ⟨a.short, printing, fun c x => ?_, fun c _ => a.holds c⟩
  rw [boundFails_iff] at x ⊢
  have := a.reserved c
  rw [usable] at x
  omega

theorem fits_iff (i : InkUnit) (j : Job) : i.fits j = true ↔ ∀ c, j.ask c ≤ i.free c := by
  simp [InkUnit.fits, allOf_iff]

section
variable {e : Ev}

/-- An ask that fits is taken within each bound, and is nothing where the bound fails (R38, R39). -/
theorem takeReservation_bounds {j : Job} (h : Nat) (fits : e.st.ink.fits j = true) :
    e.Spares (takeReservation h j e) ∧
      ∀ c, e.st.ink.boundFails c = true → (takeReservation h j e).st.ink.boundFails c = true := by
  have within := takeReservation_within e h j
  have usable : (takeReservation h j e).st.ink.usable = e.st.ink.usable := within.same .usable (by decide)
  have printing : (takeReservation h j e).st.printing = e.st.printing :=
    printing_congr (within.same .grant (by decide))
  have reserved (c : Fin 12) : (takeReservation h j e).st.reservedAt c = e.st.reservedAt c + j.ask c :=
    reserved_mapReserved e (fun c n => n + j.ask c) c
  have room := (fits_iff _ _).1 fits
  have none_ (c : Fin 12) (fails : e.st.ink.boundFails c = true) : j.ask c = 0 := by
    rw [boundFails_iff] at fails
    have le := room c
    unfold InkUnit.free at le
    unfold State.reservedAt at fails
    omega
  have same (c : Fin 12) :
      (takeReservation h j e).st.ink.boundFails c = true ↔ e.st.ink.boundFails c = true := by
    rw [boundFails_iff, boundFails_iff, reserved, usable]
    have le := room c
    unfold InkUnit.free at le
    unfold State.reservedAt
    omega
  refine ⟨⟨fun c => ?_, printing, fun c => (same c).1, fun c fails n holds => ?_⟩, fun c => (same c).2⟩
  · simpa [mapTable_get, State.isShort] using congrArg (·[c]) (within.same .short (by decide) :)
  · obtain ⟨k, at_, pos⟩ := holds
    have jobs : (takeReservation h j e).st.job? n =
      if n = h then (e.st.job? n).map _ else e.st.job? n := job?_modifyJob h _ _ n
    rw [jobs] at at_
    split at at_
    · obtain ⟨i, was, rfl⟩ := Option.map_eq_some_iff.1 at_
      rw [tabulate_get, none_ c ((same c).1 fails)] at pos
      exact absurd pos (Nat.lt_irrefl 0)
    · exact ⟨k, at_, pos⟩

theorem rejoin_spares (h : Nat) : e.Spares (rejoin h e) := by
  have raised (f : Ev) (k : NoticeKind) (x : Subject) (n : Nat) : f.Spares (f.raise k x n) :=
    (Ev.Eases.of_within (raise_within f k x n)).spares ((raise_within f k x n).mono (by decide))
  unfold rejoin
  split
  · next lt =>
    split
    · exact .refl e
    · next j here =>
      split_ifs with closing held fits
      · exact .refl e
      · exact (Ev.Eases.modifyJob e h (f := fun k => { k with state := .queued }) fun _ => rfl).spares
          ((modifyJob_within e h (f := fun k => { k with state := .queued }) fun _ => ⟨rfl, rfl⟩).mono (by decide))
      · exact (takeReservation_bounds h fits).1.trans (raised _ _ _ _)
      · exact Ev.Spares.trans ((joinWaitList_eases e ⟨h, lt⟩).spares
          ((joinWaitList_within e ⟨h, lt⟩).mono (by decide))) (raised _ _ _ _)
  · exact .refl e

theorem closeAttempt_spares (r : CopyRef) (j : Job) (c : CopyRecord) : e.Spares (closeAttempt r j c e) := by
  have counted (cls : AttemptClass) (cs : CopyState) (n : Nat) : e.Spares
      ((((bookAttempt r cls e).modifyCopy r (CopyRecord.advance cs)).modifyJob r.handle
        (Job.countTerminal cs)).raise .copyDone (.attempt r) n) := by
    refine Ev.Eases.spares ?_ ?_
    · exact .then_within (raise_within _ _ _ _) <| .then_ (.modifyJob _ _ fun k => by cases cs <;> rfl) <|
        .then_ (modifyCopy_eases _ _ _) (bookAttempt_eases e r cls)
    · exact .after (raise_within _ _ _ _) <|
        .after (modifyJob_within _ _ fun k => by cases cs <;> exact ⟨rfl, rfl⟩) <|
        .after (modifyCopy_within _ _ _) ((bookAttempt_within e r cls).mono (by decide))
  unfold closeAttempt
  dsimp only
  split
  · exact (counted _ _ _).trans (rejoin_spares _)
  · exact (counted _ _ _).trans ((closeJobIfDone_eases _ _).spares (closeJobIfDone_within _ _))

theorem closeIfReady_spares (r : CopyRef) : e.Spares (closeIfReady r e) := by
  unfold closeIfReady
  split
  · exact .refl e
  · split
    · exact closeAttempt_spares r _ _
    · exact .refl e

theorem settleCloses_spares : e.Spares (settleCloses e) := by
  have none_ : e.Spares { e with due := [] } :=
    (Ev.Eases.of_within (noDue_within e)).spares ((noDue_within e).mono (by decide))
  exact foldl_keeps (fun e' : Ev => e.Spares e') _ _ _ (fun _ r kept => kept.trans (closeIfReady_spares r)) none_

/-! ### Trimming -/

theorem mustTrim_iff (s : State) (c : Fin 12) : s.mustTrim c = true ↔
    s.ink.boundFails c = true ∧ (s.isShort c = false ∨ s.printing.isSome = false) := by
  simp [State.mustTrim, State.isShort]

theorem trimmable_iff_holds {s : State} {h : Fin 32} : s.trimmable h = true ↔
    s.printing.map (·.handle) ≠ some h.val ∧ ∃ c, s.mustTrim c = true ∧ s.Holds c h.val := by
  rw [trimmable_iff]
  constructor
  · rintro ⟨j, here, other, c, must, pos⟩
    exact ⟨other, c, must, j, here, pos⟩
  · rintro ⟨other, c, must, j, here, pos⟩
    exact ⟨j, here, other, c, must, pos⟩

/-- A trimmed job holds nothing any more. -/
theorem not_holds_trimJob (h : Fin 32) (c : Fin 12) : ¬ (trimJob h e).st.Holds c h.val := by
  have released : ¬ (releaseReservation h.val e).st.Holds c h.val := by
    rintro ⟨k, at_, pos⟩
    cases here : e.st.job? h.val with
    | none =>
      have same : releaseReservation h.val e = e := by unfold releaseReservation; rw [here]
      rw [same, here] at at_
      cases at_
    | some j =>
      rw [job?_releaseReservation here] at at_
      cases at_
      simp [Job.released] at pos
  unfold trimJob
  dsimp only
  split
  · exact released
  · split
    · exact fun holds => released ((joinWaitList_eases _ h).holds c h.val holds)
    · exact released

theorem trimmable_trimJob {h x : Fin 32} (still : (trimJob h e).st.trimmable x = true) :
    e.st.trimmable x = true ∧ x ≠ h := by
  have spared := (trimJob_eases e h).spares ((trimJob_within e h).mono (by decide))
  obtain ⟨other, c, must, holds⟩ := trimmable_iff_holds.1 still
  obtain ⟨fails, why⟩ := (mustTrim_iff _ _).1 must
  refine ⟨trimmable_iff_holds.2 ⟨spared.printing ▸ other, c, (mustTrim_iff _ _).2 ⟨spared.fails c fails, ?_⟩,
    (trimJob_eases e h).holds c _ holds⟩, ?_⟩
  · rwa [spared.short, spared.printing] at why
  · rintro rfl
    exact not_holds_trimJob x c holds

/-- Trimming ends when no job is left to trim: each step takes one of at most 32. -/
theorem trim_exhausts (n : Nat) (any : Bool) {e : Ev} (few : (Finset.univ.filter fun h => e.st.trimmable h = true).card ≤ n) :
    ∀ h, (trim n any e).2.st.trimmable h = false := by
  induction n generalizing any e with
  | zero =>
    intro h
    have empty := Finset.card_eq_zero.1 (Nat.le_zero.1 few)
    show e.st.trimmable h = false
    simpa using Finset.filter_eq_empty_iff.1 empty (Finset.mem_univ h)
  | succ n ih =>
    unfold trim
    split
    · next chosen =>
      rw [trimChoice_eq, foldl_keepFirst_none] at chosen
      exact fun h => chosen.2 h (List.mem_finRange h)
    · next h chosen =>
      refine ih true (Nat.le_of_lt_succ (lt_of_lt_of_le (Finset.card_lt_card ?_) few))
      rw [Finset.ssubset_iff_of_subset fun x inn => ?_]
      · exact ⟨h, by simpa using trimChoice_some chosen, by simpa using fun still => (trimmable_trimJob still).2 rfl⟩
      · simp only [Finset.mem_filter, Finset.mem_univ, true_and] at inn ⊢
        exact (trimmable_trimJob inn).1

theorem trim_spares (n : Nat) (any : Bool) {e : Ev} : e.Spares (trim n any e).2 := by
  induction n generalizing any e with
  | zero => exact .refl e
  | succ n ih =>
    unfold trim
    split
    · exact .refl e
    · exact ((trimJob_eases e _).spares ((trimJob_within e _).mono (by decide))).trans (ih _)

/-! ### SHORT -/

theorem setShort_isShort (c : Fin 12) (b : Bool) (x : Fin 12) :
    (e.modifyChannel c fun ch => { ch with short := b }).st.isShort x = if x = c then b else e.st.isShort x := by
  show (modifyAt e.st.ink.channels c fun ch => { ch with short := b })[x.val].short = _
  rw [modifyAt_getElem]
  by_cases same : x = c
  · rw [if_pos (congrArg Fin.val same), if_pos same]
  · rw [if_neg fun eq => same (Fin.ext eq), if_neg same]
    rfl

theorem markShort_isShort (c : Fin 12) (printing : e.st.ink.boundFails c = true → e.st.printing.isSome = true)
    (x : Fin 12) : (markShort c e).st.isShort x =
      if x = c then e.st.ink.boundFails c || e.st.isShort c else e.st.isShort x := by
  unfold markShort
  split
  · next all =>
    simp only [Bool.and_eq_true] at all
    rw [all.1.1]
    exact setShort_isShort c true x
  · next some_ =>
    split
    · next same =>
      subst same
      cases fails : e.st.ink.boundFails x with
      | false => rfl
      | true =>
        rw [fails, printing fails] at some_
        simpa [State.isShort] using some_
    · rfl

theorem clearShort_isShort (c x : Fin 12) : (clearShort c e).st.isShort x =
    if x = c then e.st.ink.boundFails c && e.st.isShort c else e.st.isShort x := by
  unfold clearShort
  split
  · next all =>
    simp only [Bool.and_eq_true, Bool.not_eq_true'] at all
    rw [all.2]
    exact setShort_isShort c false x
  · next some_ =>
    split
    · next same =>
      subst same
      cases fails : e.st.ink.boundFails x with
      | false => simpa [State.isShort, fails] using some_
      | true => rfl
    · rfl

/-- What SHORT is judged by stands while it is set and cleared. -/
theorem boundFails_of_same {e e' : Ev} (same : ∀ p ∈ [Part.reserved, .usable], p.Same e e') (c : Fin 12) :
    e'.st.ink.boundFails c = e.st.ink.boundFails c := by
  have reserved := congrArg (·[c]) (same .reserved (by decide) :)
  have usable : e'.st.ink.usable = e.st.ink.usable := same .usable (by decide)
  simp only [mapTable_get] at reserved
  simp only [InkUnit.boundFails, usable, reserved]

theorem boundFails_of_within {w : List Part} {e e' : Ev} (h : e.Within w e')
    (free : ∀ p ∈ [Part.reserved, .usable], p ∉ w := by decide) (c : Fin 12) :
    e'.st.ink.boundFails c = e.st.ink.boundFails c :=
  boundFails_of_same (fun p inn => h.same p (free p inn)) c

theorem shortAt_isShort (c : Fin 12) (printing : e.st.ink.boundFails c = true → e.st.printing.isSome = true)
    (x : Fin 12) : (clearShort c (markShort c e)).st.isShort x =
      if x = c then e.st.ink.boundFails c else e.st.isShort x := by
  rw [clearShort_isShort, markShort_isShort c printing, markShort_isShort c printing,
    boundFails_of_within (markShort_within e c), if_pos rfl]
  split
  · cases e.st.ink.boundFails c <;> rfl
  · rfl

/-- After its settlement a channel is SHORT just where its bound fails (R43). -/
theorem settleShort_isShort (printing : ∀ c, e.st.ink.boundFails c = true → e.st.printing.isSome = true)
    (c : Fin 12) : (settleShort e).st.isShort c = e.st.ink.boundFails c := by
  have walked (l : List (Fin 12)) (e : Ev)
      (printing : ∀ c, e.st.ink.boundFails c = true → e.st.printing.isSome = true) :
      (l.foldl (fun e c => clearShort c (markShort c e)) e).st.isShort c =
        if c ∈ l then e.st.ink.boundFails c else e.st.isShort c := by
    induction l generalizing e with
    | nil => rfl
    | cons x xs ih =>
      have within : e.Within [.channels, .short, .raised] (clearShort x (markShort x e)) :=
        (markShort_within e x).comp (clearShort_within _ x)
      have fails := boundFails_of_within within
      have same : (clearShort x (markShort x e)).st.printing = e.st.printing :=
        printing_congr (within.same .grant (by decide))
      rw [List.foldl_cons, ih _ fun c more => by rw [same]; exact printing c (fails c ▸ more), fails,
        shortAt_isShort x (printing x)]
      by_cases later : c ∈ xs
      · rw [if_pos later, if_pos (List.mem_cons_of_mem _ later)]
      · rw [if_neg later]
        by_cases first : c = x
        · rw [if_pos first, if_pos (List.mem_cons.2 (.inl first)), first]
        · rw [if_neg first, if_neg fun inn => (List.mem_cons.1 inn).elim first later]
  exact (walked _ e printing).trans (if_pos (List.mem_finRange c))

/-! ### The walk, and the whole -/

theorem bounded_rests : Rests [.books, .reserved, .short, .grant, .usable] fun e => Bounded e.st := by
  intro e e' same sound
  have eases : e.Eases e' := .of_same fun p inn => same p (by simp at inn ⊢; tauto)
  have fails := boundFails_of_same fun p inn => same p (by simp at inn ⊢; tauto)
  exact ⟨fun c => by rw [eases.short, fails, sound.short],
    fun c more => eases.alone (printing_congr (same .grant (by decide))) (sound.alone c (fails c ▸ more))⟩

theorem Bounded.within {w : List Part} {e e' : Ev} (h : e.Within w e') (sound : Bounded e.st)
    (free : ∀ p ∈ [Part.books, .reserved, .short, .grant, .usable], p ∉ w := by decide) : Bounded e'.st :=
  bounded_rests.within h sound free

theorem takeReservation_bounded {h : Nat} {j : Job} (fits : e.st.ink.fits j = true) (sound : Bounded e.st) :
    Bounded (takeReservation h j e).st := by
  obtain ⟨spares, still⟩ := takeReservation_bounds h fits
  refine ⟨fun c => ?_, fun c more n holds => ?_⟩
  · rw [spares.short, sound.short, Bool.eq_iff_iff]
    exact ⟨still c, spares.fails c⟩
  · rw [spares.printing]
    exact sound.alone c (spares.fails c more) n (spares.holds c more n holds)

theorem walkOne_bounded (h : Fin 32) (sound : Bounded e.st) : Bounded (walkOne h e).st := by
  unfold walkOne
  split
  · exact sound
  · next j _ =>
    split
    · next fits =>
      exact .within (raise_within _ _ _ _) <| .within (leaveWaitList_within _ _) <|
        takeReservation_bounded fits sound
    · exact sound

theorem settleInk_bounded (L : LedgersBut none e.st)
    (alone : ∀ c, e.st.isShort c = true → e.st.ink.boundFails c = true → e.st.printing.isSome = true → e.st.Alone c) :
    Bounded (settleInk e).st := by
  -- After trimming, a failing bound leaves its channel to the printing job.
  have flags := evalFlags_within e
  have eases : e.Eases (evalFlags e) := .of_within flags
  have trimmed := trim_spares 32 false (e := evalFlags e)
  have ledgers : LedgersBut none (trim 32 false (evalFlags e)).2.st := trim_ledgers 32 false (L.within flags)
  have none_ := trim_exhausts 32 false (e := evalFlags e)
    (Finset.card_le_univ (Finset.univ.filter fun h => (evalFlags e).st.trimmable h = true))
  have sole (c : Fin 12) (more : (trim 32 false (evalFlags e)).2.st.ink.boundFails c = true) :
      (trim 32 false (evalFlags e)).2.st.Alone c := by
    by_cases must : (trim 32 false (evalFlags e)).2.st.mustTrim c = true
    · intro h holds
      by_contra other
      obtain ⟨j, here, -⟩ := id holds
      have stays := none_ ⟨h, job?_lt here⟩
      rw [Bool.eq_false_iff, ne_eq, trimmable_iff_holds] at stays
      exact stays ⟨other, c, must, holds⟩
    · rw [mustTrim_iff] at must
      have why : (trim 32 false (evalFlags e)).2.st.isShort c = true ∧
          (trim 32 false (evalFlags e)).2.st.printing.isSome = true := by
        refine ⟨?_, ?_⟩ <;>
          exact Bool.eq_true_of_not_eq_false fun eq => must ⟨more, by simp [eq]⟩
      have was := trimmed.fails c more
      have printing : (evalFlags e).st.printing = e.st.printing := printing_congr (flags.same .grant (by decide))
      have before := alone c (by rw [← eases.short, ← trimmed.short]; exact why.1)
        (by rw [← boundFails_of_within flags]; exact was) (by rw [← printing, ← trimmed.printing]; exact why.2)
      intro h holds
      rw [trimmed.printing, printing]
      exact before h (eases.holds c h (trimmed.holds c more h holds))
  have within := settleShort_within (trim 32 false (evalFlags e)).2
  have same : (settleShort (trim 32 false (evalFlags e)).2).st.printing =
      (trim 32 false (evalFlags e)).2.st.printing := printing_congr (within.same .grant (by decide))
  have fails := boundFails_of_within within
  have short : Bounded (settleShort (trim 32 false (evalFlags e)).2).st := by
    refine ⟨fun c => ?_, fun c more h holds => ?_⟩
    · rw [settleShort_isShort fun c more => boundFails_printing ledgers more (sole c more), fails]
    · have books := job?_congr (within.same .books (by decide)) h
      obtain ⟨k, at_, pos⟩ := holds
      rw [at_] at books
      obtain ⟨j, was, eq⟩ := Option.map_eq_some_iff.1 books.symm
      have reservation : j.reservation = k.reservation := (congrArg (·.reservation) eq :)
      rw [same]
      exact sole c (fails c ▸ more) h ⟨j, was, by rwa [reservation]⟩
  rw [settleInk_eq]
  split
  · exact foldl_keeps (fun e : Ev => Bounded e.st) _ _ _ (fun _ h kept => walkOne_bounded h kept) short
  · exact short

theorem shortAlone_of_bounded {s : State} (sound : Bounded s) : ShortAlone s := fun c short _ =>
  sound.alone c (sound.short c ▸ short)

theorem settle_bounded (L : LedgersBut none e.st) (sound : ShortAlone e.st) : Bounded (settle e).st := by
  rw [settle_eq]
  refine .within (syncPause_within _) <| .within (syncHold_within _) <| .within (settleAccounts_within _) ?_
  have closes := settleCloses_spares (e := { e with lost := false })
  refine settleInk_bounded (settleCloses_ledgers (L.within (setLost_within e false))) fun c short more printing => ?_
  intro h holds
  rw [closes.printing]
  exact sound c ((closes.short c).symm.trans short) (closes.printing ▸ printing) h (closes.holds c more h holds)

/-! ### The jobs that come and go -/

theorem bounded_of_eases {e' : Ev} (a : e.Eases e') (printing : e'.st.printing = e.st.printing)
    (ink : e'.st.ink = e.st.ink) (sound : Bounded e.st) : Bounded e'.st :=
  ⟨fun c => by rw [a.short, ink, sound.short], fun c more => a.alone printing (sound.alone c (ink ▸ more))⟩

/-- The reservations where one entry of the table changes, to a job without one or to none. -/
theorem eases_of_entry {e' : Ev} {h : Fin 32} {x : Option Job} (ink : e'.st.ink = e.st.ink)
    (printing : e'.st.printing = e.st.printing)
    (jobs : ∀ n, e'.st.job? n = if n = h.val then x else e.st.job? n)
    (unheld : ∀ j, x = some j → ∀ c : Fin 12, j.reservation[c] = 0) : e.Eases e' := by
  refine ⟨fun c => by rw [State.isShort, ink]; rfl, fun c => by rw [State.reservedAt, ink]; rfl, .inr printing,
    fun c n holds => ?_⟩
  obtain ⟨k, at_, pos⟩ := holds
  rw [jobs] at at_
  split at at_
  · rw [unheld k at_ c] at pos
    exact absurd pos (Nat.lt_irrefl 0)
  · exact ⟨k, at_, pos⟩

theorem admitJob_bounded (h : Fin 32) (x : Submission) (sound : Bounded e.st) :
    Bounded (admitJob h (newJob e.st x) e).st := by
  have listed_ : Bounded (listed h (newJob e.st x) e).st :=
    bounded_of_eases (e := e) (eases_of_entry (e := e) rfl rfl (job?_listed h _ e) fun j eq c => by
      cases eq
      simp [newJob]) rfl rfl sound
  rw [admitJob_eq]
  split
  · next fits => exact takeReservation_bounded fits listed_
  · exact bounded_of_eases (joinWaitList_eases _ h) rfl rfl listed_

/-- A grant finds no channel SHORT: nothing prints before it. -/
theorem grant_shortAlone {r : CopyRef} {j : Job} {roll : Fin 2} {i : Fin 32} (L : LedgersBut none e.st)
    (sound : Bounded e.st) (idle : e.st.printing = none) : ShortAlone (grant r j roll i e).st := by
  intro c short
  have flags := (grant_within e r j roll i).same .short (by decide)
  have same : (grant r j roll i e).st.isShort c = e.st.isShort c := by
    simpa [mapTable_get, State.isShort] using congrArg (·[c]) (flags :)
  rw [same, sound.short] at short
  have printing := boundFails_printing L short (sound.alone c short)
  rw [idle] at printing
  cases printing

end

/-- What the operations keep of the reservations and of SHORT. -/
theorem reservation_core :
    Core (fun e => (PrintingSound e.st ∧ LedgersBut none e.st) ∧ ShortAlone e.st) fun e => Bounded e.st where
  restP e e' same sound := ⟨ledger_core.restP e e' same sound.1,
    shortAlone_of_eases (.of_same fun p inn => same p (by simp at inn ⊢; tauto)) sound.2⟩
  restQ := bounded_rests.mono
  ends e cause sound := ⟨ledger_core.ends e cause sound.1, shortAlone_of_eases (endPrinting_eases e cause) sound.2⟩
  draws e h v sound := ⟨ledger_core.draws e h v sound.1, shortAlone_of_eases (drawdown_eases e h v) sound.2⟩
  settles e sound :=
    have bounded := settle_bounded sound.1.2 sound.2
    ⟨⟨(ledger_core.settles e sound.1).1, shortAlone_of_bounded bounded⟩, bounded⟩
  grants e h j n c roll i sound bounded idle here queued copy pending :=
    ⟨ledger_core.grants e h j n c roll i sound.1 trivial idle here queued copy pending,
      grant_shortAlone sound.1.2 bounded idle⟩
  cancels e h j sound here open_ :=
    ⟨ledger_core.cancels e h j sound.1 here open_, shortAlone_of_eases (cancelJob_eases e h j) sound.2⟩
  admits e pl x h sound bounded read free :=
    have bounded := admitJob_bounded h x bounded
    ⟨⟨(ledger_core.admits e pl x h sound.1 trivial read free).1, shortAlone_of_bounded bounded⟩, bounded⟩
  holds e h held sound bounded :=
    have bounded : Bounded (e.modifyJob h.val fun k => { k with held := held }).st :=
      bounded_of_eases (.modifyJob e h.val fun _ => rfl) rfl rfl bounded
    ⟨⟨(ledger_core.holds e h held sound.1 trivial).1, shortAlone_of_bounded bounded⟩, bounded⟩
  collects e h j sound bounded here closed :=
    have bounded : Bounded (collected h j e).st :=
      bounded_of_eases (e := e) (eases_of_entry (e := e) rfl rfl (job?_collected h j e) fun _ eq => (nomatch eq))
        rfl rfl bounded
    ⟨⟨(ledger_core.collects e h j sound.1 trivial here closed).1, shortAlone_of_bounded bounded⟩, bounded⟩
  refs e n patches sound bounded unused :=
    have bounded := bounded.within (setRefs_within e rfl rfl)
    ⟨⟨(ledger_core.refs e n patches sound.1 trivial unused).1, shortAlone_of_bounded bounded⟩, bounded⟩
  prices e n x sound bounded unused free :=
    have bounded := bounded.within (setPrices_within e rfl)
    ⟨⟨(ledger_core.prices e n x sound.1 trivial unused free).1, shortAlone_of_bounded bounded⟩, bounded⟩

theorem reservationsSound_iff (s : State) : ReservationsSound s ↔ LedgersSound s ∧ Bounded s := by
  constructor
  · intro sound
    refine ⟨sound.ledgers, fun c => ?_, fun c more h holds => ?_⟩
    · rw [Bool.eq_iff_iff, boundFails_iff]
      refine ⟨sound.failing c, fun more => ?_⟩
      by_contra short
      exact absurd (sound.bound c (by simpa [State.isShort] using short)) (Nat.not_le_of_lt more)
    · obtain ⟨j, here, pos⟩ := holds
      refine sound.alone c ?_ h j here pos
      by_contra short
      exact absurd (sound.bound c (by simpa using short)) (Nat.not_le_of_lt ((boundFails_iff s c).1 more))
  · rintro ⟨ledgers, bounded⟩
    have fails (c : Fin 12) (short : s.ink.channels[c].short = true) : s.ink.boundFails c = true :=
      (bounded.short c).symm.trans short
    refine ⟨ledgers, fun c quiet => Nat.le_of_not_lt fun more => ?_, fun c short => (boundFails_iff s c).1 (fails c short),
      fun c short h j here pos => bounded.alone c (fails c short) h ⟨j, here, pos⟩⟩
    have short : s.ink.channels[c].short = true := (bounded.short c).trans ((boundFails_iff s c).2 more)
    rw [quiet] at short
    cases short

/-- A state that differs in nothing that the bounds read. -/
theorem reservationsSound_congr {s t : State} (sound : ReservationsSound s) (store : t.store = s.store)
    (channels : t.ink.channels = s.ink.channels) (usable : t.ink.usable = s.ink.usable)
    (grant : t.sched.grant = s.sched.grant) (cost : t.cost = s.cost) (refs : t.colour.refs = s.colour.refs) :
    ReservationsSound t := by
  refine ⟨ledgersSound_congr sound.ledgers store channels grant cost refs, fun c => ?_, fun c => ?_,
    fun c short h j here => ?_⟩
  · rw [channels, usable]
    exact sound.bound c
  · rw [channels, usable]
    exact sound.failing c
  · rw [channels] at short
    rw [printing_congr grant]
    exact sound.alone c short h j (by simpa only [State.job?, store] using here)

theorem reservationsSound_empty {s : State} (jobs : s.store = JobStore.atReset) (sched : s.sched = Schedule.atReset)
    (channels : s.ink.channels = Vector.replicate 12 Channel.atReset) (cost : s.cost = CostUnit.atReset)
    (colour : s.colour = ColourUnit.atReset) : ReservationsSound s := by
  refine ⟨ledgersSound_empty jobs sched channels cost colour, fun c _ => ?_, fun c short => ?_, fun c short => ?_⟩
  · simp [channels, Channel.atReset]
  · simp [channels, Channel.atReset] at short
  · simp [channels, Channel.atReset] at short

/-- Calibrations are no part of a usable volume. -/
theorem usable_calibrated (s : State) : s.applyPower.ink.usable = s.ink.usable := by
  have same (b : Fin 24) (dead : Nat) : s.applyPower.ink.bays[b].usable dead = s.ink.bays[b].usable dead := by
    show (mapTable (fun b : Bay => { b with cal := Calibration.atPower }) s.ink.bays)[b].usable dead = _
    rw [mapTable_get]
    rfl
  funext c
  unfold InkUnit.usable
  rw [same, same]
  rfl

/-- Settles O12: the consequences at the end of an event trim every job but the printing one from a channel
whose bound fails, and no ask is taken there. -/
theorem stepKeepsReservations : Obligations.StepKeepsReservations :=
  step_keeps_of_core (S := ReservationsSound) reservation_core
    (fun c s _ sound =>
      have bounded := (reservationsSound_iff (Ev.moved (lineMoved c) s).st).1
        (reservationsSound_congr sound rfl rfl rfl rfl rfl rfl)
      ⟨⟨(ledgersSound_iff _).1 bounded.1, shortAlone_of_bounded bounded.2⟩, bounded.2⟩)
    (fun e _ sound bounded => reservationsSound_congr
      ((reservationsSound_iff e.st).2 ⟨(ledgersSound_iff e.st).2 sound.1, bounded⟩) rfl rfl rfl rfl rfl rfl)
    (fun _ _ sound => reservationsSound_congr sound rfl rfl rfl rfl rfl rfl)
    (fun _ sound => reservationsSound_congr sound rfl rfl rfl rfl rfl rfl)
    (fun _ _ _ sound => reservationsSound_congr sound rfl rfl rfl rfl rfl rfl)
    (fun _ sound => reservationsSound_congr sound rfl rfl rfl rfl rfl rfl)
    (fun _ _ => reservationsSound_empty rfl rfl rfl rfl rfl)
    fun s sound => reservationsSound_congr sound rfl rfl (usable_calibrated s) rfl rfl rfl

end Sys2Proof.Machine
end

section
/-! The state after reset (9.9, O3). -/

namespace Sys2Proof.Machine

-- One proof after another: the stacks of many waiting threads do not fit the memory of one compile.
set_option Elab.async false

/-- After the release of RESET every bay is EMPTY or INSERTED (R26, R28). -/
theorem atRelease_bays (drops : Vector DropVolumes 12) (cals : Fin 24 → Calibration) (pins : Pins)
    (pending : List Instr) : BaysFollow (State.atRelease drops cals pins pending) := by
  have bay (b : Fin 24) : (State.atRelease drops cals pins pending).ink.bays[b] =
      Bay.atReset pins.present[b] (cals b) := tabulate_get _ b
  have channel (c : Fin 12) : (State.atRelease drops cals pins pending).ink.channels[c] = Channel.atReset := by
    simp [State.atRelease]
  have state (present : Bool) (cal : Calibration) : (Bay.atReset present cal).state ≠ .active ∧
      (Bay.atReset present cal).state ≠ .ready ∧ (Bay.atReset present cal).state.declared = false ∧
      ((Bay.atReset present cal).state = .empty ↔ present = false) := by
    cases present <;> simp [Bay.atReset, BayState.declared]
  refine ⟨⟨fun b k cart => ?_, fun b r k removal => ?_, fun b => ?_, fun b _ => ?_, fun c sd => ?_, fun c sd _ => ?_,
    fun c sd active => ?_⟩, fun _ b => ?_⟩
  · rw [bay] at cart; cases cart
  · rw [bay] at removal; cases removal
  · rw [bay]; exact (state _ _).2.2.1.symm
  · rw [bay]; rfl
  · rw [bay, channel]; exact iff_of_false (fun active => (nomatch active)) (state _ _).1
  · rw [bay]; exact (state _ _).2.1
  · rw [bay] at active; exact absurd active (state _ _).1
  · rw [bay]; exact (state _ _).2.2.2

/-- Settles O3: the reset state is empty in each part that an invariant speaks of. -/
theorem resetIsSound : Obligations.ResetIsSound := by
  refine ⟨atRelease_bays _ _ _ _, poolSound_empty rfl, atReset_ports _ rfl, reservationsSound_empty rfl rfl rfl rfl rfl,
    atRelease_figures _ _ (fun c => ?_) fun _ => by decide, (marksSound_iff _).2 soundMarks_nil,
    holdSound_of_inStep (printingSound_empty rfl rfl) (inStep_atReset rfl rfl)⟩
  rw [Fin.getElem_fin, Vector.getElem_replicate]
  decide

end Sys2Proof.Machine
end

section
/-! Frames and their transfers (9.1 to 9.3, 11.2), and a request as its port serves it. -/

namespace Sys2Proof.Machine

-- One proof after another: the stacks of many waiting threads do not fit the memory of one compile.
set_option Elab.async false

/-! ### Requests served -/

/-- What a request does at its block, in the event that has taken its frame in. -/
def ReqKind.taken (k : ReqKind) (p : Port) (tag : Byte) (pl : List Byte) (s : State) : Ev × Reply :=
  takeOf k { port := p, header := requestHeader k tag pl, payload := pl } (accepted p pl s)

section
variable {s : State} {k : ReqKind} {p : Port} {tag : Byte} {pl : List Byte}

theorem exec_served (served : s.serves k p pl = true) : exec (k.command p tag pl) s =
    .next (respond p (requestHeader k tag pl) (k.taken p tag pl s)).close.finish := by
  rw [exec_command, request_serves _ _ _ _ _ _ served]
  rfl

/-- The same, where the request loses no engine. -/
theorem exec_settled (served : s.serves k p pl = true) (quiet : (k.taken p tag pl s).1.lost = false) :
    exec (k.command p tag pl) s = .next (respond p (requestHeader k tag pl) (k.taken p tag pl s)).finish := by
  rw [exec_served served, close_quiet]
  exact quiet

/-- A request that its block refuses, or that only reads, is answered and changes nothing else. -/
theorem exec_answered {r : Reply} (served : s.serves k p pl = true)
    (taken : k.taken p tag pl s = (accepted p pl s, r)) :
    exec (k.command p tag pl) s = .next (s.answered p k tag pl r) := by
  rw [exec_settled served (by rw [taken]; rfl), taken, respond_refuse]

/-- A request that raises no notice and moves no order: its effect on the blocks, and its answer. -/
theorem exec_effect {x : Ev × Reply} (served : s.serves k p pl = true) (taken : k.taken p tag pl s = x)
    (quiet : x.1.lost = false := by rfl) (start : x.1.start = s := by rfl) (raised : x.1.raised = [] := by rfl)
    (ports : x.1.st.ports = (accepted p pl s).st.ports := by rfl)
    (orders : ordersDiffer s x.1.st = false := by exact ordersDiffer_same _ _ rfl rfl) :
    exec (k.command p tag pl) s = .next (State.answered p k tag pl x.2 { x.1.st with ports := s.ports }) := by
  subst taken
  rw [exec_settled served quiet, respond_effect k p tag pl s _ start raised ports orders]

/-- The same, for the kinds whose parts are clear of the orders, of the ports and of notices. -/
theorem exec_quietly {x : Ev × Reply} (served : s.serves k p pl = true) (taken : k.taken p tag pl s = x)
    (free : ∀ q ∈ [Part.sched, .media, .hold, .ports, .raised, .lost], q ∉ takeParts k := by decide) :
    exec (k.command p tag pl) s = .next (State.answered p k tag pl x.2 { x.1.st with ports := s.ports }) := by
  have within : (accepted p pl s).Within (takeParts k) x.1 := by
    rw [← taken]
    exact takeOf_within _ _ k
  have sched : x.1.st.sched = s.sched := within.same .sched (free _ (by decide))
  have media : x.1.st.media.sameButHold s.media := within.same .media (free _ (by decide))
  have hold : (x.1.st.media.hold, x.1.st.media.pause) = (s.media.hold, s.media.pause) :=
    within.same .hold (free _ (by decide))
  simp only [Prod.mk.injEq] at hold
  exact exec_effect served taken (within.same .lost (free _ (by decide))) within.start
    (within.same .raised (free _ (by decide))) (within.same .ports (free _ (by decide)))
    (ordersDiffer_same _ _ sched (by rw [media, hold.1, hold.2]))

/-- The same, where an order may move: the change is flagged (R170). -/
theorem exec_moved {x : Ev × Reply} (served : s.serves k p pl = true) (taken : k.taken p tag pl s = x)
    (quiet : x.1.lost = false := by rfl) (start : x.1.start = s := by rfl) (raised : x.1.raised = [] := by rfl)
    (ports : x.1.st.ports = (accepted p pl s).st.ports := by rfl) : exec (k.command p tag pl) s =
      .next (State.noteOrders s (State.answered p k tag pl x.2 { x.1.st with ports := s.ports })) := by
  have answered : (respond p (requestHeader k tag pl) x).st =
      State.answered p k tag pl x.2 { x.1.st with ports := s.ports } := by
    cases p <;> simp [respond, State.answered, requestHeader, Ev.modifyPort, Ev.mapPorts, ports, accepted,
      Ports.modifyUnit, PortUnit.answer, PortUnit.receive]
  subst taken
  rw [exec_settled served quiet]
  have silent := finish_silent (respond p (requestHeader k tag pl) (k.taken p tag pl s)) raised
  rw [answered] at silent
  exact congrArg Host.Outcome.next (silent.trans (congrArg (fun t => State.noteOrders t _) start))

/-- A request that raises no notice: its effect on the blocks, its answer, and the change of the orders. -/
theorem exec_orders {x : Ev × Reply} (served : s.serves k p pl = true) (taken : k.taken p tag pl s = x)
    (free : ∀ q ∈ [Part.ports, .raised, .lost], q ∉ takeParts k := by decide) :
    exec (k.command p tag pl) s =
      .next (State.noteOrders s (State.answered p k tag pl x.2 { x.1.st with ports := s.ports })) := by
  have within : (accepted p pl s).Within (takeParts k) x.1 := by
    rw [← taken]
    exact takeOf_within _ _ k
  exact exec_moved served taken (within.same .lost (free _ (by decide))) within.start
    (within.same .raised (free _ (by decide))) (within.same .ports (free _ (by decide)))

/-- The same, where the orders stand. -/
theorem exec_sameOrders {x : Ev × Reply} (served : s.serves k p pl = true) (taken : k.taken p tag pl s = x)
    (orders : ordersDiffer s x.1.st = false)
    (free : ∀ q ∈ [Part.ports, .raised, .lost], q ∉ takeParts k := by decide) :
    exec (k.command p tag pl) s = .next (State.answered p k tag pl x.2 { x.1.st with ports := s.ports }) := by
  rw [exec_orders served taken free, noteOrders_same]
  exact (ordersDiffer_congr _ _ _ rfl rfl).trans orders

/-! ### Operands -/

/-- What a request makes of operands that its reader takes. -/
theorem taken_read {α : Type} {read : List Byte → Option α} {f : Request → Ev → α → Ev × Reply} {a : α}
    (take : takeOf k = fun q e => withRead (read q.payload) e (f q e)) (operands : read pl = some a) :
    k.taken p tag pl s =
      f { port := p, header := requestHeader k tag pl, payload := pl } (accepted p pl s) a := by
  refine (congrFun (congrFun take _) _).trans ?_
  show withRead (read pl) _ _ = _
  rw [operands]
  rfl

/-- Operands that the reader does not take are refused (R184). -/
theorem exec_unread {α : Type} {read : List Byte → Option α} {f : Request → Ev → α → Ev × Reply}
    (served : s.serves k p pl = true) (take : takeOf k = fun q e => withRead (read q.payload) e (f q e))
    (operands : read pl = none) : exec (k.command p tag pl) s =
      .next (s.answered p k tag pl (Reply.refuse .badValue)) := by
  refine exec_answered served ((congrFun (congrFun take _) _).trans ?_)
  show withRead (read pl) _ _ = _
  rw [operands]
  rfl

theorem taken_none {f : Request → Ev → Ev × Reply} (take : takeOf k = fun q e => withNone q e (f q e)) :
    k.taken p tag [] s = f { port := p, header := requestHeader k tag [], payload := [] } (accepted p [] s) :=
  congrFun (congrFun take _) _

/-- A request without operands refuses any (R184). -/
theorem exec_operands {f : Request → Ev → Ev × Reply} (served : s.serves k p pl = true)
    (take : takeOf k = fun q e => withNone q e (f q e)) (some_ : pl ≠ []) : exec (k.command p tag pl) s =
      .next (s.answered p k tag pl (Reply.refuse .badValue)) := by
  refine exec_answered served ((congrFun (congrFun take _) _).trans ?_)
  exact if_neg fun empty => some_ (List.eq_nil_of_length_eq_zero empty)

/-- The blocks as a request finds them: its frame has touched its port alone. -/
theorem accepted_blocks (p : Port) (pl : List Byte) (s : State) :
    (accepted p pl s).st = { s with ports := (accepted p pl s).st.ports } := rfl

end

/-! ### Fields -/

/-- A field that stands first. -/
theorem field_here {n v : Nat} (post : List Byte) (fits : v < 256 ^ n) : field (leBytes n v ++ post) 0 n = v :=
  field_number (pre := []) rfl fits

/-- The last field. -/
theorem field_last {n v : Nat} (fits : v < 256 ^ n) : field (leBytes n v) 0 n = v := by
  have := field_here [] fits
  rwa [List.append_nil] at this

/-- A field after another. -/
theorem field_skip {m off n v : Nat} (post : List Byte) (after : m ≤ off) :
    field (leBytes m v ++ post) off n = field post (off - m) n := by
  rw [field_drop (by simpa using after), leBytes_length]

/-- A field of one entry of a table. -/
theorem field_tableBytes {α : Type} {m size : Nat} {enc : α → List Byte} (v : Vector α m)
    (sized : ∀ x, (enc x).length = size) (i : Fin m) {off n : Nat} (inside : off + n ≤ size) :
    field (tableBytes enc v) (size * i.val + off) n = field (enc v[i]) off n := by
  obtain ⟨pre, post, split_, length⟩ := tableBytes_split enc v sized i
  rw [split_, field_drop (by omega), length, Nat.add_sub_cancel_left, field_take (by rw [sized]; exact inside)]

/-! ### The bytes of a request frame -/

theorem ofByte_code (k : ReqKind) : ReqKind.ofByte k.code = some k := by
  cases k <;> decide

/-- A request's frame (11.2). -/
def requestBody (k : ReqKind) (tag : Byte) (pl : List Byte) : List Byte :=
  k.code :: tag :: (leBytes 2 pl.length ++ pl)

theorem requestBody_length (k : ReqKind) (tag : Byte) (pl : List Byte) :
    (requestBody k tag pl).length = pl.length + 4 := by
  simp [requestBody]
  omega

theorem withCheck_length (bs : List Byte) : (withCheck bs).length = bs.length + 2 := by
  simp [withCheck]

theorem field_check (bs : List Byte) :
    field (withCheck bs) ((withCheck bs).length - 2) 2 = (crc16 bs).toNat := by
  have h := field_number (pre := bs) (post := []) (off := (withCheck bs).length - 2) (n := 2)
    (v := (crc16 bs).toNat) (by rw [withCheck_length]; rfl) (crc16 bs).isLt
  rwa [List.append_nil] at h

theorem take_withCheck (bs : List Byte) : (withCheck bs).take ((withCheck bs).length - 2) = bs := by
  rw [withCheck_length, Nat.add_sub_cancel, withCheck]
  exact List.take_left

theorem field_length {k : ReqKind} {tag : Byte} {pl : List Byte} (fits : pl.length ≤ 1020) :
    field (withCheck (requestBody k tag pl)) 2 2 = pl.length :=
  field_number (pre := [k.code, tag]) (post := pl ++ leBytes 2 (crc16 (requestBody k tag pl)).toNat) rfl
    (by omega)

/-- Settles O16: the frame of a request passes the three checks, and its fields stand where they are read. -/
theorem framesReadBack : Obligations.FramesReadBack := by
  intro k tag pl fits
  have length : (withCheck (requestBody k tag pl)).length = pl.length + 6 := by
    rw [withCheck_length, requestBody_length]
  refine ⟨?_, ?_, ?_⟩
  · show checkFrame (withCheck (requestBody k tag pl)) = _
    unfold checkFrame
    rw [field_length fits, take_withCheck, field_check, length]
    dsimp only
    rw [if_neg (by simp [Config.maxPayload]; omega), if_neg (by simp)]
    show (match ReqKind.ofByte k.code with | none => _ | some k => _) = _
    rw [ofByte_code]
  · have number := leNat_leBytes_of_lt (n := 2) (v := pl.length) (by omega)
    simp only [leBytes, leNat, Nat.mul_zero, Nat.add_zero] at number
    show (Header.mk k.code tag (BitVec.ofNat 16 ((BitVec.ofNat 8 pl.length).toNat +
      256 * (BitVec.ofNat 8 (pl.length / 256)).toNat)) : Header) = _
    rw [number]
    rfl
  · show framePayload (withCheck (requestBody k tag pl)) = pl
    unfold framePayload
    rw [length, Nat.add_sub_cancel]
    show ((pl ++ leBytes 2 _).take pl.length) = pl
    exact List.take_left

/-! ### Refusals of the port -/

/-- A request that its port refuses is answered so, and nothing else changes (R168). -/
theorem exec_portRefusal {s : State} {k : ReqKind} {p : Port} {tag : Byte} {pl : List Byte} {c : ResultCode}
    (run : s.pins.reset = false) (held : s.portHeld p = false) (idle : (s.ports.unit p).txn = .idle)
    (fits : pl.length ≤ Config.maxPayload) (refused : portRefusal k p (s.ports.unit p) = some c) :
    exec (k.command p tag pl) s = .next (s.answered p k tag pl (Reply.refuse c)) := by
  have dropped : dropReply p (requestHeader k tag pl)
      ((Ev.begin s).modifyPort p (PortUnit.receive (pl.length + 6))) =
        (Ev.begin s).modifyPort p (PortUnit.receive (pl.length + 6)) :=
    dropReply_none _ _ _ (by simp [PortUnit.receive, idle])
  have refused' : portRefusal k p ((accepted p pl s).st.ports.unit p) = some c := by
    rw [← refused]
    exact portRefusal_congr _ _ _ _ (by simp [accepted, PortUnit.receive])
  have frame : takeFrame k (takeOf k) { port := p, header := requestHeader k tag pl, payload := pl }
      ((Ev.begin s).modifyPort p (PortUnit.receive (pl.length + 6))) =
        respond p (requestHeader k tag pl) (accepted p pl s, Reply.refuse c) := by
    unfold takeFrame
    rw [dropped]
    change (match portRefusal k p ((accepted p pl s).st.ports.unit p) with
      | some c => _
      | none => _) = _
    rw [refused']
    rfl
  have lost : (respond p (requestHeader k tag pl) (accepted p pl s, Reply.refuse c)).lost = false := rfl
  rw [exec_command, ← respond_refuse, ← close_quiet _ lost, ← frame]
  simp only [request]
  rw [event_run _ _ run, arrive_go _ _ _ _ _ held (by simp [idle]), if_neg (Nat.not_lt.2 fits)]

/-- Settles O17: the port answers before the block sees the request. -/
theorem portRefusals : Obligations.PortRefusals := by
  intro s k p tag pl run held idle fits
  refine ⟨fun elsewhere => exec_portRefusal run held idle fits ?_, fun listed faulted reads clears =>
    exec_portRefusal run held idle fits ?_⟩
  · simp [portRefusal, elsewhere]
  · have closed : k.servedFaulted = false := by
      cases k <;> first | rfl | exact absurd rfl reads | exact absurd rfl clears
    simp [portRefusal, listed, faulted, closed]

/-! ### Read transfers -/

theorem clocked_length (count : Nat) (frame : List Byte) : (clocked count frame).length = count := by
  simp [clocked]
  omega

theorem clocked_getD {count i : Nat} (frame : List Byte) (lt : i < count) :
    (clocked count frame).getD i 0 = frame.getD i 0 := by
  simp only [clocked, List.getD_eq_getElem?_getD, List.getElem?_take, if_pos lt, List.getElem?_append]
  split
  · rfl
  · next beyond =>
    rw [List.getElem?_eq_none (Nat.le_of_not_lt beyond)]
    simp only [List.getElem?_replicate]
    split <;> rfl

/-- The order change flag once a frame has left on a port (R170). -/
def Ports.ordersSent (p : Port) (ps : Ports) : Ports := if p = .engine then { ps with orderChange := false } else ps

theorem ordersSent_unit (p q : Port) (ps : Ports) : (ps.ordersSent p).unit q = ps.unit q := by
  unfold Ports.ordersSent
  split
  · cases q <;> rfl
  · rfl

theorem ordersSent_rest (p : Port) (ps : Ports) :
    (ps.ordersSent p).orderChange = (ps.orderChange && p != .engine) ∧ (ps.ordersSent p).summary = ps.summary ∧
      (ps.ordersSent p).summaryMultiple = ps.summaryMultiple := by
  unfold Ports.ordersSent
  split
  · next same => exact ⟨by simp [same], rfl, rfl⟩
  · next other => exact ⟨by simp [other], rfl, rfl⟩

/-- A read transfer touches its port unit and, on the Engine port, the order change flag. -/
theorem exec_readTransfer {s : State} {p : Port} {count : Nat} (run : s.pins.reset = false)
    (held : s.portHeld p = false) (some_ : 0 < count) : exec (.readTransfer p count) s = .next
      { s with
        ports := Ports.ordersSent p (s.ports.modifyUnit p (PortUnit.read count (s.outgoing p))) } := by
  have quiet : (s.portHeld p || count == 0) = false := by
    rw [held]
    simpa using Nat.ne_of_gt some_
  rw [exec_run rfl run]
  unfold eventOf
  have read : effect (.readTransfer p count) (Ev.moved (lineMoved (.readTransfer p count)) s) =
      (((Ev.begin s).modifyPort p (PortUnit.read count (s.outgoing p))).mapPorts fun ps =>
        if p = .engine then { ps with orderChange := false } else ps) := by
    show (if s.portHeld p || count == 0 then _ else _) = _
    rw [quiet]
    rfl
  rw [read, close_quiet _ rfl, finish_quiet _ rfl (ordersDiffer_same _ _ rfl rfl)]
  rfl

theorem portWord_eq (s : State) (p : Port) : s.portWord p = if p = .engine then s.orderWord else [] := by
  cases p <;> rfl

/-- The frame that a read transfer sends (R166, R170). -/
theorem outgoing_ready {s : State} {p : Port} {r : Response} (ready : (s.ports.unit p).txn = .responseReady r) :
    s.outgoing p = frameOut r.kind r.tag r.code (r.payload ++ if p = .engine then s.orderWord else []) := by
  rw [State.outgoing, ready, portWord_eq]

theorem outgoing_idle {s : State} {p : Port} (idle : ∀ r, (s.ports.unit p).txn ≠ .responseReady r) :
    s.outgoing p = frameOut 0 0 .ok (if p = .engine then s.orderWord else []) := by
  unfold State.outgoing
  split
  · next r ready => exact absurd ready (idle r)
  · rw [portWord_eq]

/-- A response read to its end leaves the port IDLE, and nothing else changes its transaction (R166). -/
theorem read_txn (count : Nat) (frame : List Byte) (u : PortUnit) :
    (∀ r, u.txn = .responseReady r → frame.length ≤ count → (u.read count frame).txn = .idle) ∧
      ((∀ r, u.txn = .responseReady r → count < frame.length) → (u.read count frame).txn = u.txn) := by
  constructor
  · intro r ready whole
    simp [PortUnit.read, ready, whole]
  · intro part
    cases ready : u.txn with
    | responseReady r => simp [PortUnit.read, ready, Nat.not_le.2 (part r ready)]
    | _ => simp [PortUnit.read, ready]

/-- Settles O19: the transfer clocks out the frame of the moment. -/
theorem readTransfers : Obligations.ReadTransfers := by
  intro s p count run held some_
  dsimp only
  have unit (q : Port) : (Ports.ordersSent p (s.ports.modifyUnit p (PortUnit.read count (s.outgoing p)))).unit q =
      if q = p then (s.ports.unit q).read count (s.outgoing p) else s.ports.unit q := by
    rw [ordersSent_unit, unit_modifyUnit]
  have own := (unit p).trans (if_pos rfl)
  obtain ⟨order, summary, multiple⟩ :=
    ordersSent_rest p (s.ports.modifyUnit p (PortUnit.read count (s.outgoing p)))
  obtain ⟨wholly, partly⟩ := read_txn count (s.outgoing p) (s.ports.unit p)
  refine ⟨_, exec_readTransfer run held some_, rfl, fun q other => (unit q).trans (if_neg other), ?_, ?_, ?_, ?_, ?_,
    order.trans (by rw [modifyUnit_orderChange]), summary.trans (modifyUnit_summary _ _ _),
    multiple.trans (modifyUnit_summaryMultiple _ _ _)⟩
  all_goals
    dsimp only
    rw [own]
  · rfl
  · exact clocked_length _ _
  · intro i lt
    refine (clocked_getD _ lt).trans ?_
    split
    · next r ready => rw [outgoing_ready ready]
    · next idle => rw [outgoing_idle idle]
  · intro whole
    have idle : ((s.ports.unit p).read count (s.outgoing p)).txn = .idle := by
      cases ready : (s.ports.unit p).txn with
      | responseReady r =>
        simp only [ready] at whole
        exact wholly r ready (by rw [outgoing_ready ready]; exact whole)
      | _ => simp only [ready] at whole
    refine ⟨idle, ?_⟩
    simp only [State.reply, own, idle, Bool.and_false]
  · intro part
    refine partly fun r ready => ?_
    simp only [ready] at part
    rw [outgoing_ready ready]
    exact Nat.lt_of_not_le part

end Sys2Proof.Machine
end

section
/-! The requests of the Job store (1.3, 1.6 to 1.8, 8.9). -/

namespace Sys2Proof.Machine

-- One proof after another: the stacks of many waiting threads do not fit the memory of one compile.
set_option Elab.async false

/-! ### Handles -/

theorem withJob_open {q : Request} {e : Ev} {f : Fin 32 → Job → Ev × Reply} {h : Fin 32} {j : Job}
    (payload : q.payload = [BitVec.ofNat 8 h.val]) (here : e.st.store.jobs[h] = some j) :
    withJob q e f = f h j := by
  have read : fin? 32 (field q.payload 0 1) = some h := by
    rw [payload]
    have number : field [BitVec.ofNat 8 h.val] 0 1 = h.val := by
      show (BitVec.ofNat 8 h.val).toNat + 256 * 0 = h.val
      simp
      omega
    rw [number]
    exact dif_pos h.isLt
  unfold withJob
  rw [if_pos (by rw [payload]; rfl), read]
  dsimp only
  rw [here]

theorem withJob_unknown {q : Request} {e : Ev} {f : Fin 32 → Job → Ev × Reply} {h : Byte}
    (payload : q.payload = [h]) (free : e.st.job? h.toNat = none) : withJob q e f = refuse .unknownHandle e := by
  have number : field q.payload 0 1 = h.toNat := by
    rw [payload]
    show h.toNat + 256 * 0 = h.toNat
    omega
  unfold withJob
  rw [if_pos (by rw [payload]; rfl), number]
  unfold State.job? at free
  unfold fin?
  split
  · rfl
  · next x eq =>
    split at eq
    · next lt =>
      cases eq
      rw [dif_pos lt] at free
      have free' : e.st.store.jobs[(⟨h.toNat, lt⟩ : Fin 32)] = none := free
      rw [free']
    · cases eq

section
variable {s : State} {p : Port} {tag : Byte} {h : Fin 32} {j : Job}

theorem taken_open {k : ReqKind} {f : Ev → Fin 32 → Job → Ev × Reply} (take : takeOf k = fun q e => withJob q e (f e))
    (here : s.store.jobs[h] = some j) :
    k.taken p tag [BitVec.ofNat 8 h.val] s = f (accepted p [BitVec.ofNat 8 h.val] s) h j :=
  (congrFun (congrFun take _) _).trans (withJob_open rfl here)

theorem taken_unknown {k : ReqKind} {f : Ev → Fin 32 → Job → Ev × Reply} {n : Byte}
    (take : takeOf k = fun q e => withJob q e (f e)) (free : s.job? n.toNat = none) :
    k.taken p tag [n] s = (accepted p [n] s, Reply.refuse .unknownHandle) :=
  (congrFun (congrFun take _) _).trans (withJob_unknown rfl free)

theorem setHeld_served {k : ReqKind} {v : Bool} (take : takeOf k = setHeld v) (here : s.store.jobs[h] = some j)
    (served : s.serves k p [BitVec.ofNat 8 h.val] = true) :
    exec (k.command p tag [BitVec.ofNat 8 h.val]) s = .next
      (if j.state = .closed then s.answered p k tag [BitVec.ofNat 8 h.val] (Reply.refuse .wrongState)
      else State.answered p k tag [BitVec.ofNat 8 h.val] (Reply.ok [])
        { s with
          store := { s.store with jobs := s.store.jobs.set h.val (some { j with held := v }) h.isLt } }) := by
  have taken : k.taken p tag [BitVec.ofNat 8 h.val] s = _ := taken_open take here
  split
  · next closed =>
    rw [if_pos closed] at taken
    exact exec_answered served taken
  · next open_ =>
    rw [if_neg open_] at taken
    rw [exec_effect served taken]
    have store : JobStore.modifyJob h.val (fun k => { k with held := v }) s.store =
        { s.store with jobs := s.store.jobs.set h.val (some { j with held := v }) h.isLt } := by
      unfold JobStore.modifyJob
      rw [dif_pos h.isLt]
      unfold modifyAt
      have at_ : s.store.jobs[(⟨h.val, h.isLt⟩ : Fin 32)] = some j := here
      rw [at_]
      rfl
    show Host.Outcome.next (State.answered p k tag _ _
      { s with store := JobStore.modifyJob h.val (fun k => { k with held := v }) s.store, ports := s.ports }) = _
    rw [store]

/-- Settles O21: the handle names the job, and each request on it does its own. -/
theorem jobHandles : Obligations.JobHandles := by
  constructor
  · intro s p tag h j here
    dsimp only
    refine ⟨fun served => ?_, fun served => ?_, fun served => ?_⟩
    · exact exec_answered (k := .queryJob) served
        (taken_open (f := fun e _ j => (e, Reply.ok (jobReport j))) rfl here)
    · exact setHeld_served (k := .holdJob) rfl here served
    · exact setHeld_served (k := .releaseJob) rfl here served
  · intro s p tag h free
    exact ⟨fun served => exec_answered (k := .queryJob) served (taken_unknown rfl free),
      fun served => exec_answered (k := .holdJob) served (taken_unknown rfl free),
      fun served => exec_answered (k := .releaseJob) served (taken_unknown rfl free),
      fun served => exec_answered (k := .cancelJob) served (taken_unknown rfl free),
      fun served => exec_answered (k := .collectJob) served (taken_unknown rfl free)⟩

/-- The blocks of a collected job (R22). -/
theorem collected_blocks (e : Ev) : (collected h j e).st = { e.st with
    store := { e.st.store with
      jobs := e.st.store.jobs.set h.val none h.isLt, freeCopies := e.st.store.freeCopies + j.copies.length }
    cost := { e.st.cost with
      accounts := e.st.cost.accounts.set j.account.val
        { e.st.cost.accounts[j.account] with openJobs := e.st.cost.accounts[j.account].openJobs - 1 } j.account.isLt
      prices := e.st.cost.prices.set j.priceSet.val
        { e.st.cost.prices[j.priceSet] with inUse := e.st.cost.prices[j.priceSet].inUse - 1 } j.priceSet.isLt }
    colour := ColourUnit.lockRefs j.check (· - 1) e.st.colour } := rfl

theorem collected_account (e : Ev) : (collected h j e).st.cost.accounts[j.account] =
    { e.st.cost.accounts[j.account] with openJobs := e.st.cost.accounts[j.account].openJobs - 1 } :=
  (modifyAccount_account e j.account j.account _).trans (if_pos rfl)

end

/-- Settles O22: the CLOSED job's records go back, and its locks fall by one. -/
theorem collectFreesTheJob : Obligations.CollectFreesTheJob := by
  intro s tag h j here
  dsimp only
  intro served
  have taken : ReqKind.taken .collectJob .desk tag [BitVec.ofNat 8 h.val] s = _ :=
    taken_open (f := fun e h j => if j.state = .closed then
      (collected h j e, Reply.ok (collectReport h.val j (collected h j e).st.cost.accounts[j.account]))
      else refuse .wrongState e) rfl here
  refine ⟨fun open_ => ?_, fun closed => ?_⟩
  · rw [if_neg open_] at taken
    exact exec_answered (k := .collectJob) served taken
  · rw [if_pos closed, collected_account] at taken
    refine (exec_quietly (k := .collectJob) served taken).trans ?_
    dsimp only
    rw [collected_blocks]
    unfold ColourUnit.lockRefs
    cases j.check <;> rfl

end Sys2Proof.Machine
end

section
/-! The refusals of SUBMIT_JOB and DECLARE_CARTRIDGE (1.3, 2.3), and DECLARE_DROPS (3.1). -/

namespace Sys2Proof.Machine

-- One proof after another: the stacks of many waiting threads do not fit the memory of one compile.
set_option Elab.async false

/-! ### SUBMIT_JOB -/

theorem chargesNothing_iff (s : State) (x : Submission) : s.chargesNothing x = true ↔ costsNothing s x := by
  simp only [State.chargesNothing, costsNothing, Bool.and_eq_true, allOf_iff, beq_iff_eq]
  tauto

theorem passesCredit_iff (s : State) (x : Submission) : s.passesCredit x = true ↔
    x.account = 0 ∨ costsNothing s x ∨
      s.cost.accounts[x.account].charged + s.cost.accounts[x.account].committed + s.jobEstimate x ≤
        s.cost.accounts[x.account].limit := by
  simp only [State.passesCredit, Account.covers, Bool.or_eq_true, beq_iff_eq, chargesNothing_iff, decide_eq_true_eq]
  tauto

theorem freeEntry_none_iff (s : State) : s.freeEntry = none ↔ ∀ h : Fin 32, s.store.jobs[h].isSome = true := by
  simp [State.freeEntry, List.find?_eq_none, ← Option.isSome_iff_ne_none, Option.isNone_iff_eq_none]

/-- The lowest free entry (R1). -/
theorem freeEntry_eq {s : State} {h : Fin 32} (free : s.store.jobs[h] = none)
    (taken : ∀ i : Fin 32, i < h → (s.store.jobs[i]).isSome = true) : s.freeEntry = some h := by
  refine List.find?_eq_some_iff_getElem.2 ⟨by rw [free]; rfl, h.val, by simp, by simp, fun j lt => ?_⟩
  have full := taken ⟨j, lt.trans h.isLt⟩ lt
  have at_ : (List.finRange 32)[j]'(by simp; omega) = (⟨j, lt.trans h.isLt⟩ : Fin 32) := by simp
  rw [at_]
  simpa [Option.isSome_iff_ne_none] using full

section
variable {s : State} {tag : Byte} {pl : List Byte}

/-- The admission of a submission that passes every check (R7). -/
def admission (h : Fin 32) (x : Submission) (e : Ev) : Ev := settleAccounts (admitJob h (newJob e.st x) e)

theorem taken_submit {x : Submission} (read : readSubmission s pl = some x) :
    ReqKind.taken .submitJob .job tag pl s =
      match s.freeEntry with
      | none => refuse .noRoom (accepted .job pl s)
      | some h =>
        if s.store.freeCopies < x.copies then refuse .noRoom (accepted .job pl s)
        else if !s.passesCredit x then refuse .credit (accepted .job pl s)
        else (admission h x (accepted .job pl s), Reply.ok (submitReport h.val
          (((admission h x (accepted .job pl s)).st.job? h.val).getD (newJob s x)))) := by
  show withRead (readSubmission s pl) (accepted .job pl s) _ = _
  rw [read]
  rfl

/-- Values, room and credit are tried in this order (R5). -/
theorem submitRefusals_hold : submitRefusals := by
  intro s tag pl served
  dsimp only
  refine ⟨fun unread => ?_, fun x read room => ?_, fun x h read free room account costs over_ => ?_⟩
  · refine exec_answered (k := .submitJob) served ?_
    show withRead (readSubmission s pl) (accepted .job pl s) _ = _
    rw [unread]
    rfl
  · refine exec_answered (k := .submitJob) served ((taken_submit read).trans ?_)
    split
    · rfl
    · next h entry =>
      rw [if_pos]
      · rfl
      · refine room.resolve_left fun full => ?_
        rw [(freeEntry_none_iff s).2 full] at entry
        cases entry
  · refine exec_answered (k := .submitJob) served ((taken_submit read).trans ?_)
    have credit : s.passesCredit x = false := by
      rw [Bool.eq_false_iff, ne_eq, passesCredit_iff]
      rintro (house | nothing | covered)
      · exact account house
      · exact costs nothing
      · omega
    split
    · next full =>
      have := (freeEntry_none_iff s).1 full h
      rw [free] at this
      cases this
    · rw [if_neg (Nat.not_lt.2 room), credit]
      rfl

/-! ### DECLARE_CARTRIDGE -/

/-- The operands of DECLARE_CARTRIDGE (11.7). -/
def declarationBytes (bay volume lot expiry : Nat) : List Byte :=
  leBytes 1 bay ++ leBytes 4 volume ++ leBytes 4 lot ++ leBytes 2 expiry

theorem readDeclaration_bytes {bay volume lot expiry : Nat} (bayFits : bay < 256) (volumeFits : volume < 4294967296)
    (lotFits : lot < 4294967296) (expiryFits : expiry < 65536) :
    readDeclaration (declarationBytes bay volume lot expiry) =
      if lt : bay < 24 then
        if 1 ≤ volume ∧ volume ≤ 1000000000 then
          some { bay := ⟨bay, lt⟩, volume := volume, lot := lot, expiry := expiry }
        else none
      else none := by
  have length : (declarationBytes bay volume lot expiry).length = 11 := by simp [declarationBytes]
  have bayField : field (declarationBytes bay volume lot expiry) 0 1 = bay := by
    simp [declarationBytes, field_here, bayFits]
  have volumeField : field (declarationBytes bay volume lot expiry) 1 4 = volume := by
    simp [declarationBytes, field_skip, field_here, volumeFits]
  have lotField : field (declarationBytes bay volume lot expiry) 5 4 = lot := by
    simp [declarationBytes, field_skip, field_here, lotFits]
  have expiryField : field (declarationBytes bay volume lot expiry) 9 2 = expiry := by
    simp [declarationBytes, field_skip, field_last, expiryFits]
  unfold readDeclaration
  rw [length, bayField, volumeField, lotField, expiryField]
  unfold fin?
  split_ifs with lt range
  · simp [range, guard]
  · simp [range, guard]
  · simp

theorem taken_declare {x : Declaration} (read : readDeclaration pl = some x) :
    ReqKind.taken .declareCartridge .desk tag pl s =
      match s.ink.bays[x.bay].state with
      | .empty => refuse .notPresent (accepted .desk pl s)
      | .inserted =>
        (settle (declareCartridge x.bay x.volume x.lot x.expiry (accepted .desk pl s)), Reply.ok (declarationReport x.bay
          (settle (declareCartridge x.bay x.volume x.lot x.expiry (accepted .desk pl s))).st))
      | _ => refuse .wrongState (accepted .desk pl s) :=
  taken_read (f := fun _ e x => match e.st.ink.bays[x.bay].state with
    | .empty => refuse .notPresent e
    | .inserted =>
      (settle (declareCartridge x.bay x.volume x.lot x.expiry e), Reply.ok (declarationReport x.bay
        (settle (declareCartridge x.bay x.volume x.lot x.expiry e)).st))
    | _ => refuse .wrongState e) rfl read

end

theorem declarationRefusals_hold : declarationRefusals := by
  intro s tag bay volume lot expiry bayFits volumeFits lotFits expiryFits
  dsimp only
  intro served
  have read := readDeclaration_bytes bayFits volumeFits lotFits expiryFits
  refine ⟨fun out => exec_unread (k := .declareCartridge) (read := readDeclaration) served rfl ?_,
    fun b same least most => ?_⟩
  · refine read.trans ?_
    split_ifs with lt range
    · omega
    · rfl
    · rfl
  · have read : readDeclaration (declarationBytes bay volume lot expiry) =
        some { bay := b, volume := volume, lot := lot, expiry := expiry } := by
      rw [read, dif_pos (same ▸ b.isLt), if_pos ⟨least, most⟩]
      simp [← same]
    refine ⟨fun empty => exec_answered (k := .declareCartridge) served ((taken_declare read).trans ?_),
      fun declared => exec_answered (k := .declareCartridge) served ((taken_declare read).trans ?_)⟩
    · dsimp only
      rw [empty]
      rfl
    · dsimp only
      split
      · next empty => rw [empty] at declared; cases declared
      · next inserted => rw [inserted] at declared; cases declared
      · rfl

/-- Settles O42: the refusals of the two requests. -/
theorem refusalsChangeNothing : Obligations.RefusalsChangeNothing := ⟨submitRefusals_hold, declarationRefusals_hold⟩

/-! ### DECLARE_DROPS -/

theorem dropBytes_length (d : DropVolumes) : (dropBytes d).length = 6 := rfl

/-- The drop volumes of a channel read back. -/
theorem dropVolumes_bytes {d : Vector DropVolumes 12} (c : Fin 12)
    (fits : d[c].small < 65536 ∧ d[c].medium < 65536 ∧ d[c].large < 65536) :
    dropVolumes (tableBytes dropBytes d) c = d[c] := by
  obtain ⟨small, medium, large⟩ := fits
  have first := field_tableBytes d dropBytes_length c (off := 0) (n := 2) (by decide)
  have second := field_tableBytes d dropBytes_length c (off := 2) (n := 2) (by decide)
  have third := field_tableBytes d dropBytes_length c (off := 4) (n := 2) (by decide)
  simp only [dropBytes, List.append_assoc, Nat.add_zero] at first second third
  simp only [dropVolumes]
  simp only [first, second, third]
  rw [field_here _ small, field_skip _ (Nat.le_refl 2), field_here _ medium,
    field_skip _ (by decide), field_skip _ (Nat.le_refl 2), field_last large]

theorem readDrops_bytes {d : Vector DropVolumes 12}
    (fits : ∀ c : Fin 12, d[c].small < 65536 ∧ d[c].medium < 65536 ∧ d[c].large < 65536) :
    readDrops (tableBytes dropBytes d) = if allOf 12 fun c => d[c].inRange then some d else none := by
  have table : tabulate 12 (dropVolumes (tableBytes dropBytes d)) = d := by
    refine Vector.ext fun i lt => ?_
    rw [tabulate_getElem]
    exact dropVolumes_bytes ⟨i, lt⟩ (fits ⟨i, lt⟩)
  unfold readDrops
  rw [table, tableBytes_length dropBytes d dropBytes_length]
  simp

/-- Settles O25: the table reads back as it was sent, and its range alone decides. -/
theorem declareDrops : Obligations.DeclareDrops := by
  refine fun s tag => ⟨fun pl served length => ?_, fun d fits served => ?_⟩
  · refine exec_unread (k := .declareDrops) (read := readDrops) served rfl ?_
    unfold readDrops
    dsimp only
    rw [if_neg]
    simp [length]
  · have read := readDrops_bytes fits
    split
    · next good =>
      rw [if_pos good] at read
      have taken := taken_read (k := .declareDrops) (p := .engine) (tag := tag) (s := s)
        (f := fun _ e t => if e.st.printing.isSome then refuse .wrongState e
          else (e.mapMeter fun m => { m with drops := t, confirmed := true }, Reply.ok (tableBytes dropBytes t)))
        rfl read
      split
      · next printing =>
        exact exec_answered (k := .declareDrops) served (taken.trans (if_pos printing))
      · next idle =>
        exact exec_quietly (k := .declareDrops) served (taken.trans (if_neg idle))
    · next bad =>
      rw [if_neg bad] at read
      exact exec_unread (k := .declareDrops) (read := readDrops) served rfl read

end Sys2Proof.Machine
end

section
/-! The requests of the schedule, and the requests that only read (2.9, 4.6, 5.1, 5.2, 5.8, 7.9, 8.2, 9.6). -/

namespace Sys2Proof.Machine

-- One proof after another: the stacks of many waiting threads do not fit the memory of one compile.
set_option Elab.async false

/-! ### Lanes -/

theorem field_byte (b : Byte) : field [b] 0 1 = b.toNat := by
  show b.toNat + 256 * 0 = b.toNat
  omega

theorem field_getElem {pl : List Byte} {i : Nat} (lt : i < pl.length) : field pl i 1 = pl[i].toNat := by
  have drop := List.drop_eq_getElem_cons lt
  unfold field
  rw [drop]
  show pl[i].toNat + 256 * 0 = _
  omega

theorem readLanes_lanes {n : Nat} (v : Vector (Fin 4) n) : readLanes n (lanes v) = some v := by
  have read (i : Fin n) : field (lanes v) i.val 1 = v[i].val := by
    have entry := field_tableBytes (enc := fun x : Fin 4 => leBytes 1 x.val) (size := 1) v (fun _ => rfl) i
      (off := 0) (n := 1) (by decide)
    rw [Nat.one_mul, Nat.add_zero] at entry
    exact entry.trans (field_last (by omega))
  have length : (lanes v).length = n :=
    (tableBytes_length (fun x : Fin 4 => leBytes 1 x.val) v (size := 1) fun _ => rfl).trans (Nat.one_mul n)
  unfold readLanes
  rw [if_pos]
  · refine congrArg some (Vector.ext fun i lt => ?_)
    rw [tabulate_getElem]
    refine Fin.ext ?_
    show field (lanes v) i 1 % 4 = v[i].val
    rw [show field (lanes v) i 1 = v[i].val from read ⟨i, lt⟩]
    omega
  · rw [Bool.and_eq_true, decide_eq_true_eq, allOf_iff]
    exact ⟨length, fun i => by rw [read]; simp⟩

theorem readLanes_none {n : Nat} {pl : List Byte} (bad : ∃ b ∈ pl, 4 ≤ b.toNat) : readLanes n pl = none := by
  unfold readLanes
  rw [if_neg]
  rw [Bool.and_eq_true, decide_eq_true_eq, allOf_iff]
  rintro ⟨length, small⟩
  obtain ⟨b, inn, large⟩ := bad
  obtain ⟨i, lt, rfl⟩ := List.mem_iff_getElem.1 inn
  have := small ⟨i, length ▸ lt⟩
  rw [field_getElem lt] at this
  simp at this
  omega

/-! ### The schedule -/

theorem ordersDiffer_false {s t : State} (media : t.media = s.media) (grant : t.sched.grant = s.sched.grant)
    (abort : t.sched.abort = s.sched.abort) (power : t.sched.power = s.sched.power) : ordersDiffer s t = false := by
  simp [ordersDiffer, State.holdOrder, State.feedTo, State.capOrder, State.printing, media, grant, abort, power]

section
variable {s : State} {p : Port} {k : ReqKind} {tag : Byte} {pl : List Byte}

/-- A request that touches the schedule alone. -/
theorem exec_sched {g : Schedule → Schedule} {r : Reply} (served : s.serves k p pl = true)
    (taken : k.taken p tag pl s = ((accepted p pl s).mapSched g, r))
    (free : ∀ q ∈ [Part.ports, .raised, .lost], q ∉ takeParts k := by decide) :
    exec (k.command p tag pl) s =
      .next (State.noteOrders s (State.answered p k tag pl r { s with sched := g s.sched })) :=
  exec_orders served taken free

/-- The same, where it moves no order. -/
theorem exec_schedSame {g : Schedule → Schedule} {r : Reply} (served : s.serves k p pl = true)
    (taken : k.taken p tag pl s = ((accepted p pl s).mapSched g, r))
    (grant : (g s.sched).grant = s.sched.grant) (abort : (g s.sched).abort = s.sched.abort)
    (power : (g s.sched).power = s.sched.power)
    (free : ∀ q ∈ [Part.ports, .raised, .lost], q ∉ takeParts k := by decide) :
    exec (k.command p tag pl) s = .next (State.answered p k tag pl r { s with sched := g s.sched }) :=
  exec_sameOrders served taken (ordersDiffer_false rfl grant abort power) free

theorem readPower_byte (b : Byte) : readPower [b] =
    if b.toNat = 0 then some .run else if b.toNat = 1 then some .capped else none := by
  unfold readPower
  rw [if_pos (show [b].length = 1 from rfl), field_byte]
  split
  · next zero => rw [if_pos zero]
  · next one => rw [if_neg (by rw [one]; decide), if_pos one]
  · next zero one => rw [if_neg zero, if_neg one]

theorem taken_setPower {x : Power} (read : readPower pl = some x) :
    ReqKind.taken .setPower p tag pl s =
      ((accepted p pl s).mapSched fun u => u.setPower x s.printing.isSome,
        Reply.ok (leBytes 1 (s.sched.setPower x s.printing.isSome).power.code ++
          flagByte (s.sched.setPower x s.printing.isSome).pendingCap)) :=
  taken_read (f := fun _ e x => (e.mapSched fun _ => e.st.sched.setPower x e.st.printing.isSome,
    Reply.ok (leBytes 1 (e.st.sched.setPower x e.st.printing.isSome).power.code ++
      flagByte (e.st.sched.setPower x e.st.printing.isSome).pendingCap))) rfl read

theorem taken_writePhases {v : Vector (Fin 4) 32} (read : readLanes 32 pl = some v) :
    ReqKind.taken .writePhases p tag pl s =
      ((accepted p pl s).mapSched fun u => { u with staged := v },
        Reply.ok (lanes v ++ flagByte s.sched.loadPending)) :=
  taken_read (f := fun _ e t =>
    (e.mapSched fun u => { u with staged := t }, Reply.ok (lanes t ++ flagByte e.st.sched.loadPending))) rfl read

theorem taken_loadPhases : ReqKind.taken .loadPhases p tag [] s =
    ((accepted p [] s).mapSched fun u => { u with loadPending := true },
      Reply.ok (lanes s.sched.live ++ lanes s.sched.staged ++ leBytes 1 s.sched.pointer.val)) :=
  taken_none (f := fun _ e => (e.mapSched fun u => { u with loadPending := true },
    Reply.ok (lanes e.st.sched.live ++ lanes e.st.sched.staged ++ leBytes 1 e.st.sched.pointer.val))) rfl

theorem taken_setClassMap {v : Vector (Fin 4) 8} (read : readLanes 8 pl = some v) :
    ReqKind.taken .setClassMap p tag pl s =
      ((accepted p pl s).mapSched fun u => { u with classMap := v }, Reply.ok (lanes v)) :=
  taken_read (f := fun _ e t => (e.mapSched fun u => { u with classMap := t }, Reply.ok (lanes t))) rfl read

end

/-- SET_POWER on the Desk port (R86). -/
theorem exec_setPower {s : State} {tag b : Byte} {x : Power} (served : s.serves .setPower .desk [b] = true)
    (read : readPower [b] = some x) : exec (.setPower .desk tag [b]) s =
      .next (State.noteOrders s (State.answered .desk .setPower tag [b]
        (Reply.ok (leBytes 1 (s.sched.setPower x s.printing.isSome).power.code ++
          flagByte (s.sched.setPower x s.printing.isSome).pendingCap))
        { s with sched := s.sched.setPower x s.printing.isSome })) :=
  exec_sched (k := .setPower) served (taken_setPower read)

theorem ordersDiffer_answered {s t : State} {p : Port} {k : ReqKind} {tag : Byte} {pl : List Byte} {r : Reply} :
    ordersDiffer s (State.answered p k tag pl r t) = ordersDiffer s t :=
  ordersDiffer_congr _ _ _ rfl rfl

theorem setPower_capped (u : Schedule) (printing : Bool) : u.setPower .capped printing =
    if u.power = .capped then u
    else if printing then { u with pendingCap := true } else { u with power := .capped, pendingCap := false } := rfl

/-- Settles O37: each request touches the schedule alone. -/
theorem scheduleRequests : Obligations.ScheduleRequests := by
  refine fun s tag => ⟨fun served => ?_, fun served => ?_, fun b large served => ?_, fun v served => ?_, fun served => ?_,
    fun v served => ?_, fun pl bad => ⟨fun served => ?_, fun served => ?_⟩⟩
  · exact exec_setPower served (readPower_byte 0)
  · rw [exec_setPower served (readPower_byte 1), setPower_capped]
    split_ifs with capped printing
    · rw [noteOrders_same _ _ (ordersDiffer_answered.trans (ordersDiffer_self s)), capped]
      rfl
    · have run : s.sched.power = .run := by
        cases power : s.sched.power with
        | run => rfl
        | capped => exact absurd power capped
      have orders : ordersDiffer s { s with sched := { s.sched with pendingCap := true } } = false :=
        ordersDiffer_false rfl rfl rfl rfl
      rw [noteOrders_same _ _ (ordersDiffer_answered.trans orders), run]
      rfl
    · rfl
  · refine exec_unread (k := .setPower) (read := readPower) served rfl ((readPower_byte b).trans ?_)
    rw [if_neg (by omega), if_neg (by omega)]
  · exact exec_schedSame (k := .writePhases) served (taken_writePhases (readLanes_lanes v)) rfl rfl rfl
  · exact exec_schedSame (k := .loadPhases) served taken_loadPhases rfl rfl rfl
  · exact exec_schedSame (k := .setClassMap) served (taken_setClassMap (readLanes_lanes v)) rfl rfl rfl
  · exact exec_unread (k := .writePhases) (read := readLanes 32) served rfl (readLanes_none bad)
  · exact exec_unread (k := .setClassMap) (read := readLanes 8) served rfl (readLanes_none bad)

/-! ### Reads -/

section
variable {s : State} {p : Port} {tag : Byte} {pl : List Byte}

theorem taken_engineStatus : ReqKind.taken .engineStatus p tag [] s =
    (accepted p [] s, Reply.ok (statusReport s)) :=
  taken_none (f := fun _ e => (e, Reply.ok (statusReport e.st))) rfl

theorem taken_readInk : ReqKind.taken .readInk p tag [] s =
    ((accepted p [] s).mapScan fun u => { u with overlap := false }, Reply.ok (inkReport s)) :=
  taken_none (f := fun _ e => (e.mapScan fun u => { u with overlap := false }, Reply.ok (inkReport e.st))) rfl

theorem historyReport_accepted (n skip : Nat) :
    historyReport (accepted p pl s).st n skip = historyReport s n skip := by
  unfold historyReport
  rfl

theorem insertAdmitted_congr {t : State} (store : t.store = s.store) (h : Fin 32) (l : List (Fin 32)) :
    insertAdmitted t h l = insertAdmitted s h l := by
  have seq (n : Nat) : t.seqOf n = s.seqOf n := by
    unfold State.seqOf State.job?
    rw [store]
  induction l with
  | nil => rfl
  | cons x xs ih =>
    unfold insertAdmitted
    rw [seq, seq, ih]

theorem accountReport_accepted (a : Fin 32) : accountReport (accepted p pl s).st a = accountReport s a := by
  have insert : insertAdmitted (accepted p pl s).st = insertAdmitted s :=
    funext fun h => funext fun l => insertAdmitted_congr (s := s) (t := (accepted p pl s).st) rfl h l
  have jobs : (accepted p pl s).st.jobsOf a = s.jobsOf a := by
    unfold State.jobsOf
    rw [insert]
    rfl
  unfold accountReport
  rw [jobs]
  rfl

theorem taken_readHistory {x : Nat × Nat} (read : readPaging pl = some x) : ReqKind.taken .readHistory p tag pl s =
    (accepted p pl s, Reply.ok (historyReport s x.1 x.2)) :=
  (taken_read (f := fun _ e x => (e, Reply.ok (historyReport e.st x.1 x.2))) rfl read).trans
    (by rw [historyReport_accepted])

theorem taken_readAccount {a : Fin 32} (read : readAccountNumber pl = some a) :
    ReqKind.taken .readAccount p tag pl s = (accepted p pl s, Reply.ok (accountReport s a)) :=
  (taken_read (f := fun _ e i => (e, Reply.ok (accountReport e.st i))) rfl read).trans
    (by rw [accountReport_accepted])

/-- A request that touches the scan unit alone, and raises nothing. -/
theorem exec_scan {k : ReqKind} {g : ScanUnit → ScanUnit} {r : Reply} (served : s.serves k p pl = true)
    (taken : k.taken p tag pl s = ((accepted p pl s).mapScan g, r)) :
    exec (k.command p tag pl) s = .next (State.answered p k tag pl r { s with scan := g s.scan }) :=
  exec_effect served taken

/-- The report of the faults shows the counter at 0: the frame that asks passed its checks (R167, R176). -/
theorem taken_readFaults : ReqKind.taken .readFaults p tag [] s = (accepted p [] s,
    Reply.ok (faultsReport p (s.ports.modifyUnit p fun u => { u with badCount := 0 }))) :=
  (taken_none (f := fun q e => (e, Reply.ok (faultsReport q.port e.st.ports))) rfl).trans (by cases p <;> rfl)

theorem readPaging_bytes (n skip : Byte) : readPaging [n, skip] =
    if 1 ≤ n.toNat ∧ n.toNat ≤ 32 then some (n.toNat, skip.toNat) else none := by
  have first : field [n, skip] 0 1 = n.toNat := field_getElem (pl := [n, skip]) (by simp)
  have second : field [n, skip] 1 1 = skip.toNat := field_getElem (pl := [n, skip]) (by simp)
  unfold readPaging
  rw [first, second]
  exact if_congr (by simp) rfl rfl

theorem readAccountNumber_byte (b : Byte) :
    readAccountNumber [b] = if lt : b.toNat < 32 then some ⟨b.toNat, lt⟩ else none := by
  unfold readAccountNumber
  rw [if_pos (show [b].length = 1 from rfl), field_byte]
  rfl

theorem toNat_handle (a : Fin 32) : (BitVec.ofNat 8 a.val).toNat = a.val := by
  simp
  omega

end

/-- Settles O38: each report is of the state as the frame found it. -/
theorem readRequests : Obligations.ReadRequests := by
  refine fun s tag => ⟨fun served => ?_, fun served => ?_, fun n skip served => ?_, fun a served => ?_,
    fun b large served => ?_, fun p served => ?_⟩
  · exact exec_answered (k := .engineStatus) served taken_engineStatus
  · exact exec_scan (k := .readInk) served taken_readInk
  · have read := readPaging_bytes n skip
    split
    · next inRange => exact exec_answered (k := .readHistory) served (taken_readHistory (read.trans (if_pos inRange)))
    · next out => exact exec_unread (k := .readHistory) (read := readPaging) served rfl (read.trans (if_neg out))
  · refine exec_answered (k := .readAccount) served (taken_readAccount ((readAccountNumber_byte _).trans ?_))
    rw [dif_pos (show (BitVec.ofNat 8 a.val).toNat < 32 from (toNat_handle a).symm ▸ a.isLt)]
    exact congrArg some (Fin.ext (toNat_handle a))
  · exact exec_unread (k := .readAccount) (read := readAccountNumber) served rfl
      ((readAccountNumber_byte b).trans (dif_neg (Nat.not_lt.2 large)))
  · exact exec_answered (k := .readFaults) served taken_readFaults

end Sys2Proof.Machine
end

section
/-! The requests and the commands of the scan (4.1 to 4.3). -/

namespace Sys2Proof.Machine

-- One proof after another: the stacks of many waiting threads do not fit the memory of one compile.
set_option Elab.async false

/-! ### Events that raise notices -/

/-- A request that moves no order: its effect on the blocks, its answer, and the notices it raises. -/
theorem exec_noticed {s : State} {k : ReqKind} {p : Port} {tag : Byte} {pl : List Byte} {x : Ev × Reply}
    (served : s.serves k p pl = true) (taken : k.taken p tag pl s = x) (orders : ordersDiffer s x.1.st = false)
    (free : ∀ q ∈ [Part.ports, .lost], q ∉ takeParts k := by decide) :
    exec (k.command p tag pl) s = .next (State.notify (orderNotices x.1.raised)
      (State.answered p k tag pl x.2 { x.1.st with ports := s.ports })) := by
  have within : (accepted p pl s).Within (takeParts k) x.1 := by
    rw [← taken]
    exact takeOf_within _ _ k
  have lost : x.1.lost = false := within.same .lost (free _ (by decide))
  have start : x.1.start = s := within.start
  have ports : x.1.st.ports = (accepted p pl s).st.ports := within.same .ports (free _ (by decide))
  have answered : (respond p (requestHeader k tag pl) x).st =
      State.answered p k tag pl x.2 { x.1.st with ports := s.ports } := by
    cases p <;> simp [respond, State.answered, requestHeader, Ev.modifyPort, Ev.mapPorts, ports, accepted,
      Ports.modifyUnit, PortUnit.answer, PortUnit.receive]
  subst taken
  rw [exec_settled served lost, finish_eq, answered, noteOrders_same]
  · rfl
  · rw [show (respond p (requestHeader k tag pl) (k.taken p tag pl s)).start = s from start]
    exact (ordersDiffer_congr s (k.taken p tag pl s).1.st _ rfl rfl).trans orders

/-- The event of a command that loses no engine and moves no order. -/
theorem exec_event {c : Instr} {s : State} {e : Ev} (inEvent : outOfEvents c = false) (run : s.pins.reset = false)
    (does : started c s = e) (quiet : e.lost = false) (orders : ordersDiffer s e.st = false) :
    exec c s = .next (State.notify (orderNotices e.raised) e.st) := by
  subst does
  rw [exec_run inEvent run, eventOf, close_quiet _ quiet, finish_eq, noteOrders_same]
  · rw [show (started c s).start = s from (effect_within c _).start]
    exact (ordersDiffer_congr _ _ _ rfl rfl).trans orders

/-- The same, where it raises no notice. -/
theorem exec_silent {c : Instr} {s : State} {e : Ev} (inEvent : outOfEvents c = false) (run : s.pins.reset = false)
    (does : started c s = e) (quiet : e.lost = false) (orders : ordersDiffer s e.st = false) (raised : e.raised = []) :
    exec c s = .next e.st := by
  rw [exec_event inEvent run does quiet orders, raised, orderNotices_nil, notify_nil]

/-! ### The operands -/

theorem clamp_eq (lo hi x : Nat) : clamp lo hi x = max lo (min x hi) := by
  unfold clamp
  omega

theorem readBayCal_bytes {b : Fin 24} {z scale tare : Nat} (zFits : z < 65536) (scaleFits : scale < 4294967296)
    (tareFits : tare < 4294967296) :
    readBayCal (leBytes 1 b.val ++ leBytes 2 z ++ leBytes 4 scale ++ leBytes 4 tare) = some (b,
      { zero := min z 4095, scale := max 1 (min scale 1000000), tare := min tare 2000000, calibrated := true }) := by
  have bayFits : b.val < 256 := by omega
  have bay : fin? 24 b.val = some b := dif_pos b.isLt
  simp [readBayCal, field_here, field_skip, field_last, zFits, scaleFits, tareFits, bayFits, bay, clamp_eq]

/-- The operands of SET_SCAN (11.7). -/
def scanOperands (first last seconds : Nat) (set : Byte) : List Byte :=
  leBytes 1 first ++ leBytes 1 last ++ [set] ++ leBytes 2 seconds

theorem readScan_bytes {first last seconds : Nat} {set : Byte} (firstFits : first < 256) (lastFits : last < 256)
    (secondsFits : seconds < 65536) : readScan (scanOperands first last seconds set) =
      if h : first < 25 ∧ last < 25 ∧ first ≤ last then
        some { first := ⟨first, h.1⟩, last := ⟨last, h.2.1⟩, onDesk := set.getLsbD 0, onInterval := set.getLsbD 1,
               onCopyEnd := set.getLsbD 2, seconds := max 1 (min seconds 3600) }
      else none := by
  have length : (scanOperands first last seconds set).length = 5 := by simp [scanOperands]
  have firstField : field (scanOperands first last seconds set) 0 1 = first := by
    simp [scanOperands, field_here, firstFits]
  have lastField : field (scanOperands first last seconds set) 1 1 = last := by
    simp [scanOperands, field_here, field_skip, lastFits]
  have setField : field (scanOperands first last seconds set) 2 1 = set.toNat := field_getElem (by simp [scanOperands])
  have secondsField : field (scanOperands first last seconds set) 3 2 = seconds :=
    (field_drop (pre := leBytes 1 first ++ leBytes 1 last ++ [set]) (by simp)).trans
      ((congrArg (field _ · 2) (by simp)).trans (field_last secondsFits))
  unfold readScan
  rw [length, firstField, lastField, setField, secondsField]
  by_cases f : first < 25
  · by_cases l : last < 25
    · by_cases order : first ≤ last
      · simp [fin?, f, l, order, clamp_eq, BitVec.testBit_toNat]
        exact (Nat.testBit_zero _).symm
      · simp [fin?, f, l, order]
    · simp [fin?, f, l]
  · simp [fin?, f]

/-! ### Requests -/

section
variable {s : State} {p : Port} {tag : Byte} {pl : List Byte}

/-- A trigger in the scan unit of `s`, which arises by `k` (R69, R72). -/
def State.scanStarted (k : TriggerKind) (s : State) : ScanUnit :=
  { s.scan with
    running := some
      { kind := k, first := s.scan.config.first, last := s.scan.config.last, start := s.now,
        qualifying := s.printing.isNone, next := s.scan.config.first.val } }

theorem startScan_eq (k : TriggerKind) (e : Ev) : startScan k e = e.mapScan fun _ => e.st.scanStarted k := rfl

/-- The notice of a dropped trigger (R71). -/
def scanOverlapNotice (k : TriggerKind) (s : State) : List Notice :=
  if s.scan.overlap then [] else [{ kind := .scanOverlap, subject := .none, detail := k.code }]

theorem dropTrigger_eq (k : TriggerKind) (e : Ev) :
    (dropTrigger k e).st = { e.st with scan := { e.st.scan with overlap := true } } ∧
      (dropTrigger k e).raised = e.raised ++ scanOverlapNotice k e.st ∧
      (dropTrigger k e).lost = e.lost := by
  unfold dropTrigger scanOverlapNotice
  dsimp only
  split
  · exact ⟨rfl, (List.append_nil _).symm, rfl⟩
  · exact ⟨rfl, rfl, rfl⟩

theorem orderNotices_scanOverlap (k : TriggerKind) (s : State) :
    orderNotices (scanOverlapNotice k s) = scanOverlapNotice k s := by
  unfold scanOverlapNotice
  split <;> rfl

theorem taken_setBayCal {x : Fin 24 × Calibration} (read : readBayCal pl = some x) :
    ReqKind.taken .setBayCal p tag pl s =
      ((accepted p pl s).modifyBay x.1 fun b => { b with cal := x.2 }, Reply.ok (calBytes x.2)) :=
  taken_read (f := fun _ e x => (e.modifyBay x.1 fun b => { b with cal := x.2 }, Reply.ok (calBytes x.2))) rfl read

/-- SET_BAY_CAL writes the calibration of its bay (R73). -/
theorem exec_setBayCal {x : Fin 24 × Calibration} (served : s.serves .setBayCal p pl = true)
    (read : readBayCal pl = some x) : exec (ReqKind.command .setBayCal p tag pl) s =
      .next (State.answered p .setBayCal tag pl (Reply.ok (calBytes x.2))
        { s with ink := { s.ink with bays := s.ink.bays.set x.1.val { s.ink.bays[x.1] with cal := x.2 } x.1.isLt } }) :=
  exec_effect served (taken_setBayCal read)

theorem taken_setScan {k : ScanConfig} (read : readScan pl = some k) : ReqKind.taken .setScan p tag pl s =
    ((accepted p pl s).mapScan fun u =>
        { u with config := k, timer := if k.onInterval then some (s.now + k.seconds * 1000) else none },
      Reply.ok (scanConfigBytes k)) :=
  taken_read (f := fun _ e k => (e.mapScan fun u =>
    { u with config := k, timer := if k.onInterval then some (e.st.now + k.seconds * 1000) else none },
      Reply.ok (scanConfigBytes k))) rfl read

theorem taken_startScan : ReqKind.taken .startScan p tag [] s =
    if s.scan.config.onDesk then
      (triggerScan .desk (accepted p [] s), Reply.ok (flagByte s.scan.running.isNone))
    else refuse .wrongState (accepted p [] s) :=
  taken_none (f := fun _ e => if e.st.scan.config.onDesk then
    (triggerScan .desk e, Reply.ok (flagByte e.st.scan.running.isNone)) else refuse .wrongState e) rfl

/-- START_SCAN in IDLE starts a scan (R69). -/
theorem exec_startScan_idle (served : s.serves .startScan p [] = true) (desk : s.scan.config.onDesk = true)
    (idle : s.scan.running = none) : exec (ReqKind.command .startScan p tag []) s =
      .next (State.answered p .startScan tag [] (Reply.ok [1]) { s with scan := s.scanStarted .desk }) := by
  have trigger : triggerScan .desk (accepted p [] s) =
      (accepted p [] s).mapScan fun _ => (accepted p [] s).st.scanStarted .desk :=
    if_pos (show s.scan.running.isNone = true by rw [idle]; rfl)
  have taken : ReqKind.taken .startScan p tag [] s =
      ((accepted p [] s).mapScan fun _ => s.scanStarted .desk, Reply.ok [1]) := by
    rw [taken_startScan, if_pos desk, trigger, idle]
    rfl
  exact exec_scan served taken

/-- START_SCAN in RUNNING is dropped (R71). -/
theorem exec_startScan_running (served : s.serves .startScan p [] = true) (desk : s.scan.config.onDesk = true)
    (running : s.scan.running.isSome = true) : exec (ReqKind.command .startScan p tag []) s =
      .next (State.notify (scanOverlapNotice .desk s) (State.answered p .startScan tag [] (Reply.ok [0])
        { s with scan := { s.scan with overlap := true } })) := by
  have busy : s.scan.running.isNone = false := by
    rw [Option.isNone_eq_false_iff]
    exact running
  have trigger : triggerScan .desk (accepted p [] s) = dropTrigger .desk (accepted p [] s) :=
    if_neg (show ¬ s.scan.running.isNone = true by simp [busy])
  have taken : ReqKind.taken .startScan p tag [] s = (dropTrigger .desk (accepted p [] s), Reply.ok [0]) := by
    rw [taken_startScan, if_pos desk, trigger, busy]
    rfl
  obtain ⟨state, raised, lost⟩ := dropTrigger_eq .desk (accepted p [] s)
  have orders : ordersDiffer s (dropTrigger .desk (accepted p [] s)).st = false := by
    rw [state]
    exact ordersDiffer_same _ _ rfl rfl
  have ran := exec_noticed (k := .startScan) served taken orders
  dsimp only at ran
  rw [raised, state] at ran
  exact ran.trans (by
    rw [show (accepted p [] s).raised ++ scanOverlapNotice .desk (accepted p [] s).st = scanOverlapNotice .desk s from
      rfl, orderNotices_scanOverlap]
    rfl)

end

/-- Settles O46: the operands are stored clamped, and the trigger starts a scan in IDLE alone. -/
theorem scanRequests : Obligations.ScanRequests := by
  refine fun s tag => ⟨fun b z scale tare zFits scaleFits tareFits served => ?_,
    fun first last seconds set firstFits lastFits secondsFits served => ⟨fun bad => ?_, fun f l isF isL order => ?_⟩,
    fun served => ⟨fun off => ?_, fun desk idle => ?_, fun desk running => ?_⟩⟩
  · exact exec_setBayCal served (readBayCal_bytes zFits scaleFits tareFits)
  · refine exec_unread (k := .setScan) (read := readScan) served rfl
      ((readScan_bytes firstFits lastFits secondsFits).trans (dif_neg ?_))
    omega
  · subst isF isL
    refine exec_scan (k := .setScan) served (taken_setScan ((readScan_bytes firstFits lastFits secondsFits).trans ?_))
    rw [dif_pos ⟨f.isLt, l.isLt, order⟩]
  · refine exec_answered (k := .startScan) served (taken_startScan.trans ?_)
    rw [if_neg (by simp [off])]
    rfl
  · exact exec_startScan_idle served desk idle
  · exact exec_startScan_running served desk running

/-! ### Progress -/

/-- The expiry of a running timer, in its event (log 3). -/
theorem started_expiry {c : Instr} {due : State → Option Nat} {f : Ev → Ev} {s : State} {d : Nat}
    (expiry : effect c = expiring due f) (still : lineMoved c s.pins = s.pins) (runs : due s = some d) :
    started c s = f ((Ev.begin s).mapClock (TimeBase.reach d)) := by
  have begun : Ev.moved (lineMoved c) s = Ev.begin s := by
    unfold Ev.moved
    rw [still]
    rfl
  unfold started
  rw [expiry, begun]
  unfold expiring
  rw [show due (Ev.begin s).st = some d from runs]

/-- The interval timer restarted, at the moment it was due (R68, log 3). -/
def State.intervalRestarted (d : Nat) (s : State) : State :=
  let u : State := { s with clock := s.clock.advance (d - s.clock.mono) }
  { u with scan := { s.scan with timer := some (u.clock.mono + s.scan.config.seconds * 1000) } }

/-- The event in which the interval timer is restarted. -/
def restarted (d : Nat) (s : State) : Ev := { Ev.begin s with st := s.intervalRestarted d }

theorem started_interval {s : State} {d : Nat} (timer : s.scan.timer = some d)
    (interval : s.scan.config.onInterval = true) :
    started .scanIntervalExpiry s = triggerScan .interval (restarted d s) := by
  rw [started_expiry (c := .scanIntervalExpiry) (due := fun s => s.scan.timer) rfl rfl timer]
  exact if_pos interval

/-- Settles O47: the timer's trigger is one of a scan, and a conversion writes one entry. -/
theorem scanProgress : Obligations.ScanProgress := by
  refine ⟨fun s d run timer => ⟨fun interval idle => ?_, fun interval running => ?_⟩,
    fun s raw r lt run running within => ?_⟩
  · have starts : triggerScan .interval (restarted d s) = startScan .interval (restarted d s) :=
      if_pos (show s.scan.running.isNone = true by rw [idle]; rfl)
    exact exec_silent (c := .scanIntervalExpiry) rfl run ((started_interval timer interval).trans starts) rfl
      (ordersDiffer_same _ _ rfl rfl) rfl
  · have drops : triggerScan .interval (restarted d s) = dropTrigger .interval (restarted d s) := by
      refine if_neg (show ¬ s.scan.running.isNone = true from ?_)
      rw [Option.isNone_iff_eq_none]
      intro idle
      rw [idle] at running
      cases running
    obtain ⟨state, raised, lost⟩ := dropTrigger_eq .interval (restarted d s)
    have ran := exec_event (c := .scanIntervalExpiry) rfl run ((started_interval timer interval).trans drops) lost
      (by rw [state]; exact ordersDiffer_same _ _ rfl rfl)
    rw [raised, state] at ran
    exact ran.trans (by
      rw [show (restarted d s).raised ++ scanOverlapNotice .interval (restarted d s).st = scanOverlapNotice .interval s
        from rfl, orderNotices_scanOverlap]
      rfl)
  · have converts : started (.sampleConversion raw) s = (Ev.begin s).mapScan fun u =>
        { u with samples := u.samples.set r.next (sampleOf raw s.now) lt, running := some { r with next := r.next + 1 } } := by
      show convert raw (Ev.begin s) = _
      unfold convert
      rw [show (Ev.begin s).st.scan.running = some r from running]
      dsimp only
      rw [dif_pos lt, if_pos within]
      rfl
    have sample : sampleOf raw s.now =
        { raw := raw.toNat, time := s.now, valid := 1 ≤ raw.toNat && raw.toNat ≤ 4094 } := by
      unfold sampleOf
      congr 1
      rw [Bool.eq_iff_iff]
      simp [bne_iff_ne, BitVec.toNat_eq]
      omega
    rw [← sample]
    exact exec_silent (c := .sampleConversion raw) rfl run converts rfl (ordersDiffer_same _ _ rfl rfl) rfl

end Sys2Proof.Machine
end

section
/-! Faults that requests note, and the ending requests that end nothing (5.5, 9.6). -/

namespace Sys2Proof.Machine

-- One proof after another: the stacks of many waiting threads do not fit the memory of one compile.
set_option Elab.async false

/-! ### Requests refused with a fault -/

/-- A fault record reads and writes nothing that a transfer moves (R175). -/
theorem note_transfer (k : FaultKind) (h : Option Header) (now : Nat) (u : PortUnit) (txn : Transaction) (sent : List Byte)
    (n : Nat) : PortUnit.note k h now { u with txn := txn, sent := sent, badCount := n } =
      { PortUnit.note k h now u with txn := txn, sent := sent, badCount := n } := by
  unfold PortUnit.note
  dsimp only
  split
  · rfl
  · split <;> rfl

section
variable {s : State} {k : ReqKind} {p : Port} {tag : Byte} {pl : List Byte} {f : FaultKind} {r : Reply}

/-- The port as a request finds it stops by the faults that it stopped by before (R175). -/
theorem accepted_stops : (accepted p pl s).st.stops p f = s.stops p f := by
  unfold State.stops accepted
  simp [PortUnit.stops, PortUnit.receive]

theorem accepted_held (served : s.serves k p pl = true) : (accepted p pl s).st.portHeld p = false := by
  obtain ⟨-, held, -⟩ := (serves_iff s k p pl).1 served
  rw [← held]
  rfl

/-- A request refused with a fault that stops no port. -/
theorem exec_noted (served : s.serves k p pl = true) (stops : s.stops p f = false)
    (taken : k.taken p tag pl s = (recordFault p f (some (requestHeader k tag pl)) (accepted p pl s), r)) :
    exec (k.command p tag pl) s =
      .next (State.answered p k tag pl r (s.noteFault p f (some (requestHeader k tag pl)))) := by
  rw [recordFault_quiet _ _ _ _ (accepted_held served) (accepted_stops.trans stops)] at taken
  rw [exec_settled served (by rw [taken]; rfl), taken, finish_quiet _ rfl (ordersDiffer_same _ _ rfl rfl)]
  have ports : ((((s.ports.modifyUnit p (PortUnit.receive (pl.length + 6))).modifyUnit p fun u =>
      { u with badCount := 0 }).modifyUnit p (PortUnit.note f (some (requestHeader k tag pl)) s.now)).modifyUnit p fun u =>
        { u with txn := .responseReady { kind := k.code, tag := tag, code := r.code, payload := r.payload } }) =
      (s.ports.modifyUnit p (PortUnit.note f (some (requestHeader k tag pl)) s.now)).modifyUnit p
        (PortUnit.answer k tag pl r) := by
    rw [modifyUnit_modifyUnit, modifyUnit_modifyUnit, modifyUnit_modifyUnit, modifyUnit_modifyUnit]
    refine congrArg (Ports.modifyUnit p · s.ports) (funext fun u => ?_)
    have note := note_transfer f (some (requestHeader k tag pl)) s.now u u.txn
      (List.replicate (pl.length + 6) 0) 0
    exact (congrArg (fun v : PortUnit => { v with
      txn := .responseReady { kind := k.code, tag := tag, code := r.code, payload := r.payload } }) note :)
  exact congrArg (fun ps => Host.Outcome.next { s with ports := ps }) ports

end

/-! ### Ending requests -/

theorem field_snoc {pl : List Byte} {b : Byte} : field (pl ++ [b]) pl.length 1 = b.toNat := by
  rw [field_getElem (by simp)]
  simp

/-- The cause that PANEL_ABORT's byte names (R98, log 13). -/
def abortCause (b : Byte) : EndCause := if b = 0 then .engineFault else .engineRequest

theorem refAt_append {pl post : List Byte} (length : pl.length = 3) : refAt (pl ++ post) 0 = refAt pl 0 := by
  unfold refAt
  rw [field_take (by omega), field_take (by omega), field_take (by omega)]

theorem readAbort_bytes {pl : List Byte} (length : pl.length = 3) (b : Byte) :
    readAbort (pl ++ [b]) = if b.toNat < 2 then some (refAt pl 0, abortCause b) else none := by
  have code : field (pl ++ [b]) 3 1 = b.toNat := by
    rw [← length]
    exact field_snoc
  unfold readAbort
  rw [if_pos (by simp [length]), code, refAt_append length]
  split
  · next zero =>
    have is : b = 0 := BitVec.eq_of_toNat_eq zero
    simp [is, abortCause]
  · next one =>
    have is : b = 1 := BitVec.eq_of_toNat_eq one
    simp [is, abortCause]
  · next zero one =>
    rw [if_neg]
    intro small
    rcases (by omega : b.toNat = 0 ∨ b.toNat = 1) with isZero | isOne
    · exact zero isZero
    · exact one isOne

section
variable {s : State} {p : Port} {tag : Byte} {pl : List Byte}

theorem taken_panelDone {r : CopyRef} (read : readRef pl = some r) : ReqKind.taken .panelDone p tag pl s =
    match s.matchEnding r with
    | .printing => (settleMarks (copyEndTrigger (endPrinting .done (accepted p pl s))), Reply.ok [])
    | .answersAbort => (clearAbort (accepted p pl s), Reply.ok [])
    | .stale =>
      (recordFault .engine .staleRef (some (requestHeader .panelDone tag pl)) (accepted p pl s), Reply.refuse .staleRef) :=
  taken_read (f := fun q e r => match e.st.matchEnding r with
    | .printing => (settleMarks (copyEndTrigger (endPrinting .done e)), Reply.ok [])
    | .answersAbort => (clearAbort e, Reply.ok [])
    | .stale => staleEnding q e) rfl read

theorem taken_panelAbort {x : CopyRef × EndCause} (read : readAbort pl = some x) : ReqKind.taken .panelAbort p tag pl s =
    match s.matchEnding x.1 with
    | .printing => (settleMarks (endPrinting x.2 (accepted p pl s)), Reply.ok [])
    | .answersAbort => (clearAbort (accepted p pl s), Reply.ok [])
    | .stale =>
      (recordFault .engine .staleRef (some (requestHeader .panelAbort tag pl)) (accepted p pl s), Reply.refuse .staleRef) :=
  taken_read (f := fun q e x => match e.st.matchEnding x.1 with
    | .printing => (settleMarks (endPrinting x.2 e), Reply.ok [])
    | .answersAbort => (clearAbort e, Reply.ok [])
    | .stale => staleEnding q e) rfl read

theorem matchEnding_printing {g : Grant} (grant : s.sched.grant = some g) (printing : g.printing = true) :
    s.matchEnding g.ref = .printing := by
  simp [State.matchEnding, grant, printing]

theorem matchEnding_answersAbort {g : Grant} (grant : s.sched.grant = some g) (ended : g.printing = false)
    (abort : s.sched.abort = some g.ref) : s.matchEnding g.ref = .answersAbort := by
  simp [State.matchEnding, grant, ended, abort]

theorem matchEnding_stale {r : CopyRef}
    (none : ∀ g, s.sched.grant = some g → g.ref = r → g.printing = false ∧ s.sched.abort ≠ some r) :
    s.matchEnding r = .stale := by
  unfold State.matchEnding
  split
  · rfl
  · next g grant =>
    split_ifs with here printing abort
    · exact absurd (none g grant here).1 (by simp [printing])
    · exact absurd abort (none g grant here).2
    · rfl
    · rfl

/-- The engine's answer to the ABORT order. -/
theorem exec_answersAbort {k : ReqKind} (served : s.serves k p pl = true)
    (taken : k.taken p tag pl s = (clearAbort (accepted p pl s), Reply.ok [])) :
    exec (k.command p tag pl) s = .next (State.noteOrders s
      (State.answered p k tag pl (Reply.ok []) { s with sched := { s.sched with abort := none } })) := by
  rw [exec_settled served (by rw [taken]; rfl), taken, finish_silent _ rfl]
  cases p <;> rfl

end

theorem readRef_bytes {pl : List Byte} (length : pl.length = 3) : readRef pl = some (refAt pl 0) := if_pos length

/-- Settles O36: an ending request clears the order it answers, or is stale. -/
theorem endingsAfterTheEnd : Obligations.EndingsAfterTheEnd := by
  intro s tag pl b length small
  have abort := (readAbort_bytes length b).trans (if_pos small)
  refine ⟨?_, fun stale stops => ?_⟩
  · rintro ⟨g, grant, ref, ended⟩ order
    have answers : s.matchEnding (refAt pl 0) = .answersAbort := by
      rw [← ref] at order ⊢
      exact matchEnding_answersAbort grant ended order
    refine ⟨fun served => ?_, fun served => ?_⟩
    · exact exec_answersAbort (k := .panelDone) served ((taken_panelDone (readRef_bytes length)).trans (by rw [answers]))
    · exact exec_answersAbort (k := .panelAbort) served ((taken_panelAbort abort).trans (by rw [answers]))
  · have none := matchEnding_stale stale
    refine ⟨fun served => ?_, fun served => ?_⟩
    · exact exec_noted (k := .panelDone) served stops ((taken_panelDone (readRef_bytes length)).trans (by rw [none]))
    · exact exec_noted (k := .panelAbort) served stops ((taken_panelAbort abort).trans (by rw [none]))

end Sys2Proof.Machine
end

section
/-! The requests of the media path (6.1, 6.2, 6.8). -/

namespace Sys2Proof.Machine

-- One proof after another: the stacks of many waiting threads do not fit the memory of one compile.
set_option Elab.async false

section
variable {s : State} {p : Port} {tag : Byte} {pl : List Byte}

/-! ### Reports and orders -/

/-- The media report reads no port (R109). -/
theorem mediaReport_mapMedia (g : Media → Media) :
    mediaReport ((accepted p pl s).mapMedia g).st = mediaReport { s with media := g s.media } := by
  unfold mediaReport State.pauseReport State.feedTo
  rfl

theorem mediaReport_accepted : mediaReport (accepted p pl s).st = mediaReport s := mediaReport_mapMedia id

/-- The orders read the hold, the marks and the flag of the last answer of the media path (R117, R124). -/
theorem ordersDiffer_media {m : Media} (hold : m.hold = s.media.hold) (marks : m.marks = s.media.marks)
    (lastNone : m.lastNone = s.media.lastNone) : ordersDiffer s { s with media := m } = false := by
  simp [ordersDiffer, State.holdOrder, State.feedTo, State.capOrder, State.printing, hold, marks, lastNone]

/-- A request that touches the media path alone, and moves no order. -/
theorem exec_media {k : ReqKind} {g : Media → Media} {r : Reply} (served : s.serves k p pl = true)
    (taken : k.taken p tag pl s = ((accepted p pl s).mapMedia g, r)) (hold : (g s.media).hold = s.media.hold)
    (marks : (g s.media).marks = s.media.marks) (lastNone : (g s.media).lastNone = s.media.lastNone)
    (free : ∀ q ∈ [Part.ports, .raised, .lost], q ∉ takeParts k := by decide) :
    exec (k.command p tag pl) s = .next (State.answered p k tag pl r { s with media := g s.media }) := by
  have orders : ordersDiffer s ((accepted p pl s).mapMedia g).st = false :=
    (ordersDiffer_congr s { s with media := g s.media } _ rfl rfl).trans (ordersDiffer_media hold marks lastNone)
  exact exec_sameOrders served taken orders free

/-! ### What the requests do at their block -/

theorem rollLocked_iff {n : Fin 2} : s.rollLocked n = true ↔
    s.media.rollInPath = some n ∧ (s.media.marks ≠ [] ∨ s.printing.isSome = true) := by
  simp [State.rollLocked]

theorem taken_mountRoll {x : Mounting} (read : readMounting s.media.types pl = some x) :
    ReqKind.taken .mountRoll p tag pl s =
      if s.rollLocked x.roll then refuse .inUse (accepted p pl s)
      else
        ((accepted p pl s).setRoll x.roll (.mounted (mountedFigures x s.media.types[x.mediaType].width)),
          Reply.ok (mediaReport
            ((accepted p pl s).setRoll x.roll (.mounted (mountedFigures x s.media.types[x.mediaType].width))).st)) := by
  show withRead (readMounting s.media.types pl) (accepted p pl s) _ = _
  rw [read]
  rfl

theorem taken_unmountRoll {n : Fin 2} (read : readRoll pl = some n) : ReqKind.taken .unmountRoll p tag pl s =
    if s.rollLocked n then refuse .inUse (accepted p pl s)
    else if s.media.rolls[n] = .empty then (accepted p pl s, Reply.ok (mediaReport (accepted p pl s).st))
    else (unmount n (accepted p pl s),
      Reply.ok (unmountBytes s.media.rolls[n] ++ mediaReport (unmount n (accepted p pl s)).st)) := by
  refine (taken_read (f := fun _ e n => if e.st.rollLocked n then refuse .inUse e else
    match e.st.media.rolls[n] with
    | .empty => (e, Reply.ok (mediaReport e.st))
    | r => (unmount n e, Reply.ok (unmountBytes r ++ mediaReport (unmount n e).st))) rfl read).trans ?_
  refine if_congr Iff.rfl rfl ?_
  show (match s.media.rolls[n] with
    | .empty => _
    | r => _) = _
  cases roll : s.media.rolls[n] with
  | empty => rw [if_pos rfl]
  | mounted f => rw [if_neg (by simp)]
  | exhausted f => rw [if_neg (by simp)]

theorem taken_setMediaType {x : Fin 16 × MediaType} (read : readMediaType pl = some x) :
    ReqKind.taken .setMediaType p tag pl s =
      ((accepted p pl s).mapMedia fun m => { m with types := m.types.set x.1.val x.2 x.1.isLt },
        Reply.ok (mediaTypeBytes x.2 ++ mediaReport
          ((accepted p pl s).mapMedia fun m => { m with types := m.types.set x.1.val x.2 x.1.isLt }).st)) :=
  taken_read (f := fun _ e x => (e.mapMedia fun m => { m with types := m.types.set x.1.val x.2 x.1.isLt },
    Reply.ok (mediaTypeBytes x.2 ++ mediaReport
      (e.mapMedia fun m => { m with types := m.types.set x.1.val x.2 x.1.isLt }).st))) rfl read

theorem taken_setPath {x : PathSettings} (read : readPath pl = some x) : ReqKind.taken .setPath p tag pl s =
    ((accepted p pl s).mapMedia fun m => { m with settings := x },
      Reply.ok (pathBytes x ++ mediaReport ((accepted p pl s).mapMedia fun m => { m with settings := x }).st)) :=
  taken_read (f := fun _ e x => (e.mapMedia fun m => { m with settings := x },
    Reply.ok (pathBytes x ++ mediaReport (e.mapMedia fun m => { m with settings := x }).st))) rfl read

/-! ### The requests -/

/-- MOUNT_ROLL (R108). -/
theorem exec_mountRoll {x : Mounting} (served : s.serves .mountRoll p pl = true)
    (read : readMounting s.media.types pl = some x) (free : s.rollLocked x.roll = false) :
    let t : State := { s with
      media := { s.media with
        rolls := s.media.rolls.set x.roll.val (.mounted (mountedFigures x s.media.types[x.mediaType].width))
          x.roll.isLt } }
    exec (ReqKind.command .mountRoll p tag pl) s =
      .next (t.answered p .mountRoll tag pl (Reply.ok (mediaReport t))) := by
  intro t
  have taken := (taken_mountRoll (p := p) (tag := tag) read).trans (if_neg (by simp [free]))
  have report : mediaReport ((accepted p pl s).setRoll x.roll
      (.mounted (mountedFigures x s.media.types[x.mediaType].width))).st = mediaReport t :=
    mediaReport_mapMedia _
  rw [report] at taken
  exact exec_media served taken rfl rfl rfl

/-- UNMOUNT_ROLL on a roll that is not EMPTY (R109). -/
theorem exec_unmountRoll {n : Fin 2} (served : s.serves .unmountRoll p pl = true) (read : readRoll pl = some n)
    (free : s.rollLocked n = false) (loaded : s.media.rolls[n] ≠ .empty) :
    let t : State := { s with media := { s.media with
      rolls := s.media.rolls.set n.val .empty n.isLt
      rollInPath := if s.media.rollInPath = some n then none else s.media.rollInPath } }
    exec (ReqKind.command .unmountRoll p tag pl) s =
      .next (t.answered p .unmountRoll tag pl (Reply.ok (unmountBytes s.media.rolls[n] ++ mediaReport t))) := by
  intro t
  have taken := ((taken_unmountRoll (p := p) (tag := tag) read).trans (if_neg (by simp [free]))).trans (if_neg loaded)
  have blocks : unmount n (accepted p pl s) = (accepted p pl s).mapMedia fun m =>
      { m with rolls := m.rolls.set n.val .empty n.isLt,
               rollInPath := if m.rollInPath = some n then none else m.rollInPath } := rfl
  rw [blocks, mediaReport_mapMedia] at taken
  exact exec_media served taken rfl rfl rfl

end

/-! ### Operands -/

theorem readMounting_bytes {types : Vector MediaType 16} {n : Fin 2} {mt : Fin 16} {len : Nat}
    (defined : (types[mt]).defined = true) (least : 1 ≤ len) (most : len ≤ 1000000) :
    readMounting types (leBytes 1 n.val ++ leBytes 1 mt.val ++ leBytes 4 len) =
      some { roll := n, mediaType := mt, length := len } := by
  have rollFits : n.val < 256 := by omega
  have typeFits : mt.val < 256 := by omega
  have lenFits : len < 4294967296 := by omega
  have roll : fin? 2 n.val = some n := dif_pos n.isLt
  have type : fin? 16 mt.val = some mt := dif_pos mt.isLt
  have guarded : guard (types[mt].defined = true) = some () := if_pos defined
  simp [readMounting, field_here, field_skip, field_last, rollFits, typeFits, lenFits, roll, type, least, most]
  exact congrArg (Option.bind · _) guarded

theorem readRoll_byte (n : Fin 2) : readRoll [BitVec.ofNat 8 n.val] = some n := by
  have number : (BitVec.ofNat 8 n.val).toNat = n.val := by simp; omega
  unfold readRoll
  rw [if_pos (show [BitVec.ofNat 8 n.val].length = 1 from rfl), field_byte, number]
  exact dif_pos n.isLt

theorem readMediaType_bytes {mt : Fin 16} {width dry pause : Nat} (widthFits : width < 65536) (dryFits : dry < 65536)
    (pauseFits : pause < 65536) :
    readMediaType (leBytes 1 mt.val ++ leBytes 2 width ++ leBytes 2 dry ++ leBytes 2 pause) =
      some (mt, { defined := true, width := max 1000 (min width 16256), dryBase := min dry 3600,
                  pauseLimit := max 1 (min pause 600) }) := by
  have typeFits : mt.val < 256 := by omega
  have type : fin? 16 mt.val = some mt := dif_pos mt.isLt
  simp [readMediaType, field_here, field_skip, field_last, typeFits, widthFits, dryFits, pauseFits, type, clamp_eq]

theorem readPath_bytes {head cut tol ack cutter timeout : Nat} (headFits : head < 65536) (cutFits : cut < 65536)
    (tolFits : tol < 65536) (ackFits : ack < 281474976710656) (cutterFits : cutter < 281474976710656)
    (timeoutFits : timeout < 281474976710656) :
    readPath (leBytes 2 head ++ leBytes 2 cut ++ leBytes 2 tol ++ leBytes 6 ack ++ leBytes 6 cutter ++
        leBytes 6 timeout) =
      some { dHead := max 100 (min head 20000), dCut := max (max 100 (min head 20000) + 100) (min cut 30000),
             cutTolerance := min tol 500, ackLimit := max 100 (min ack 10000),
             cutterTimeout := max 1000 (min cutter 20000), headTimeout := max 5000 (min timeout 60000) } := by
  simp [readPath, field_here, field_skip, field_last, headFits, cutFits, tolFits, ackFits, cutterFits, timeoutFits,
    clamp_eq]

/-- Settles O50: a roll that marks or a copy lock is refused, and the rest is stored and reported. -/
theorem mediaRequests : Obligations.MediaRequests := by
  refine fun s tag => ⟨fun n mt len defined least most served => ⟨fun locked => ?_, fun free => ?_⟩,
    fun n served => ⟨fun locked => ?_, fun free empty => ?_, fun free loaded => ?_⟩,
    fun mt width dry pause widthFits dryFits pauseFits served => ?_,
    fun head cut tol ack cutter timeout headFits cutFits tolFits ackFits cutterFits timeoutFits served => ?_⟩
  · exact exec_answered (k := .mountRoll) served
      ((taken_mountRoll (readMounting_bytes defined least most)).trans (if_pos (rollLocked_iff.2 locked)))
  · exact exec_mountRoll (x := { roll := n, mediaType := mt, length := len }) served
      (readMounting_bytes defined least most) (Bool.eq_false_iff.2 fun locked => free (rollLocked_iff.1 locked))
  · exact exec_answered (k := .unmountRoll) served
      ((taken_unmountRoll (readRoll_byte n)).trans (if_pos (rollLocked_iff.2 locked)))
  · refine exec_answered (k := .unmountRoll) served ((taken_unmountRoll (readRoll_byte n)).trans ?_)
    rw [if_neg fun locked => free (rollLocked_iff.1 locked), if_pos empty, mediaReport_accepted]
  · exact exec_unmountRoll served (readRoll_byte n)
      (Bool.eq_false_iff.2 fun locked => free (rollLocked_iff.1 locked)) loaded
  · have taken := taken_setMediaType (s := s) (p := .desk) (tag := tag) (readMediaType_bytes (mt := mt) widthFits dryFits pauseFits)
    rw [mediaReport_mapMedia] at taken
    exact exec_media (k := .setMediaType) served taken rfl rfl rfl
  · have taken := taken_setPath (s := s) (p := .desk) (tag := tag)
      (readPath_bytes headFits cutFits tolFits ackFits cutterFits timeoutFits)
    rw [mediaReport_mapMedia] at taken
    exact exec_media (k := .setPath) served taken rfl rfl rfl

end Sys2Proof.Machine
end

section
/-! The desk station's settings of colour, prices, time and accounts (7.1, 7.9, 8.1, 8.2, 8.7, 9.8). -/

namespace Sys2Proof.Machine

-- One proof after another: the stacks of many waiting threads do not fit the memory of one compile.
set_option Elab.async false

/-! ### Operands -/

/-- A field of one entry of a table that stands within a payload. -/
theorem field_table {α : Type} {m size : Nat} {enc : α → List Byte} {v : Vector α m}
    (sized : ∀ x, (enc x).length = size) (i : Fin m) {pre post : List Byte} {place off n : Nat}
    (start : place = pre.length + (size * i.val + off)) (inside : off + n ≤ size) :
    field (pre ++ (tableBytes enc v ++ post)) place n = field (enc v[i]) off n := by
  have whole : size * i.val + size ≤ size * m := by
    rw [← Nat.mul_succ]
    exact Nat.mul_le_mul_left size i.isLt
  rw [start, field_drop (Nat.le_add_right _ _), Nat.add_sub_cancel_left,
    field_take (by rw [tableBytes_length enc v sized]; omega), field_tableBytes v sized i inside]

/-- The table of entries that read back. -/
theorem tabulate_table {α : Type} {m : Nat} {v : Vector α m} {read : Fin m → α} (entry : ∀ i, read i = v[i]) :
    tabulate m read = v :=
  Vector.ext fun i lt => (tabulate_getElem read i lt).trans (entry ⟨i, lt⟩)

theorem signed16_back {x : Int} (least : -32768 ≤ x) (most : x < 32768) : signed16 (x % 65536).toNat = x := by
  unfold signed16
  split <;> omega

theorem signedBytes_length (x : Int) : (signedBytes x).length = 2 := leBytes_length _ _

theorem colourBytes_length (x : Colour) : (colourBytes x).length = 6 := by
  simp [colourBytes, signedBytes_length]

theorem colourAt_bytes {x : Colour} (inRange : x.inRange = true) : colourAt (colourBytes x) 0 = x := by
  simp only [Colour.inRange, Bool.and_eq_true, decide_eq_true_eq] at inRange
  obtain ⟨⟨⟨lLeast, lMost⟩, aLeast, aMost⟩, bLeast, bMost⟩ := inRange
  have l : field (colourBytes x) 0 2 = (x.l % 65536).toNat := by
    unfold colourBytes signedBytes
    rw [List.append_assoc, field_here _ (by omega)]
  have a : field (colourBytes x) 2 2 = (x.a % 65536).toNat := by
    unfold colourBytes signedBytes
    rw [List.append_assoc, field_skip _ (by decide), field_here _ (by omega)]
  have b : field (colourBytes x) 4 2 = (x.b % 65536).toNat := by
    unfold colourBytes signedBytes
    rw [List.append_assoc, field_skip _ (by decide), field_skip _ (by decide), field_last (by omega)]
  unfold colourAt
  rw [l, a, b, signed16_back (by omega) (by omega), signed16_back (by omega) (by omega)]
  have lightness : ((x.l % 65536).toNat : Int) = x.l := by omega
  rw [lightness]

theorem colourAt_congr {pl pl' : List Byte} {off off' : Nat}
    (same : ∀ d, d + 2 ≤ 6 → field pl (off + d) 2 = field pl' (off' + d) 2) : colourAt pl off = colourAt pl' off' := by
  unfold colourAt
  have first := same 0 (by decide)
  rw [Nat.add_zero, Nat.add_zero] at first
  rw [first, same 2 (by decide), same 4 (by decide)]

/-- The operands of SET_REFERENCE (11.7). -/
def referenceOperands (r : Fin 16) (patches : List Colour) : List Byte :=
  leBytes 1 r.val ++ (leBytes 1 patches.length ++ (patches.map colourBytes).flatten)

theorem readReference_bytes {r : Fin 16} {patches : List Colour} (least : 1 ≤ patches.length)
    (most : patches.length ≤ 48) (inRange : ∀ x ∈ patches, x.inRange = true) :
    readReference (referenceOperands r patches) = some (r, patches) := by
  have table : (patches.map colourBytes).flatten = tableBytes colourBytes patches.toArray.toVector := rfl
  have bytes : referenceOperands r patches = (leBytes 1 r.val ++ leBytes 1 patches.length) ++
      (tableBytes colourBytes patches.toArray.toVector ++ []) := by
    unfold referenceOperands
    rw [table, List.append_nil, List.append_assoc]
  have length : (referenceOperands r patches).length = 2 + 6 * patches.length := by
    rw [bytes, List.length_append, List.append_nil, tableBytes_length colourBytes _ colourBytes_length]
    simp
  have setField : field (referenceOperands r patches) 0 1 = r.val := field_here _ (by omega)
  have countField : field (referenceOperands r patches) 1 1 = patches.length := by
    unfold referenceOperands
    rw [field_skip _ (by decide), field_here _ (by omega)]
  have read : ((List.range patches.length).map fun i => colourAt (referenceOperands r patches) (2 + 6 * i)) = patches := by
    refine List.ext_getElem (by simp) fun i _ lt => ?_
    rw [List.getElem_map, List.getElem_range, ← colourAt_bytes (inRange _ (List.getElem_mem lt))]
    refine colourAt_congr fun d inside => ?_
    rw [bytes]
    have entry := field_table (v := patches.toArray.toVector) colourBytes_length ⟨i, lt⟩
      (pre := leBytes 1 r.val ++ leBytes 1 patches.length) (post := []) (place := 2 + 6 * i + d) (off := d) (n := 2)
      (by simp; omega) inside
    rw [entry, Nat.zero_add]
    rfl
  have set : fin? 16 r.val = some r := dif_pos r.isLt
  have all : patches.all Colour.inRange = true := List.all_eq_true.2 inRange
  unfold readReference
  rw [setField, set, countField, length]
  dsimp only [Option.bind_eq_bind, Option.bind_some]
  rw [read, all]
  simp [guard, least, most]

theorem readHistorySize_bytes {n : Nat} (fits : n < 65536) :
    readHistorySize (leBytes 2 n) = if n = 64 ∨ n = 128 ∨ n = 256 then some n else none := by
  have number : field (leBytes 2 n) 0 2 = n := field_last fits
  unfold readHistorySize
  rw [number]
  exact if_congr (by simp) rfl rfl

/-- The operands of SET_PRICES (11.7). -/
theorem readPrices_bytes {n : Fin 4} {p : PriceSet} (ink : ∀ c : Fin 12, p.ink[c] ≤ 1000000)
    (media : ∀ t : Fin 16, p.media[t] ≤ 10000000) (cut : p.cut ≤ 100000) (measurement : p.measurement ≤ 100000)
    (unused : p.inUse = 0) : readPrices (leBytes 1 n.val ++ priceBytes p) = some (n, p) := by
  have sized (x : Nat) : (leBytes 4 x).length = 4 := leBytes_length 4 x
  have inkLength := tableBytes_length (leBytes 4) p.ink sized
  have mediaLength := tableBytes_length (leBytes 4) p.media sized
  have length : (leBytes 1 n.val ++ priceBytes p).length = 121 := by
    simp [priceBytes, inkLength, mediaLength]
  have setField : field (leBytes 1 n.val ++ priceBytes p) 0 1 = n.val := field_here _ (by omega)
  have inkField (c : Fin 12) : field (leBytes 1 n.val ++ priceBytes p) (1 + 4 * c.val) 4 = p.ink[c] := by
    have entry := field_table (v := p.ink) sized c (pre := leBytes 1 n.val)
      (post := tableBytes (leBytes 4) p.media ++ leBytes 4 p.cut ++ leBytes 4 p.measurement)
      (place := 1 + 4 * c.val) (off := 0) (n := 4) (by simp) (by decide)
    have price := ink c
    rw [field_last (by omega)] at entry
    simpa [priceBytes] using entry
  have mediaField (t : Fin 16) : field (leBytes 1 n.val ++ priceBytes p) (49 + 4 * t.val) 4 = p.media[t] := by
    have entry := field_table (v := p.media) sized t (pre := leBytes 1 n.val ++ tableBytes (leBytes 4) p.ink)
      (post := leBytes 4 p.cut ++ leBytes 4 p.measurement)
      (place := 49 + 4 * t.val) (off := 0) (n := 4) (by simp [inkLength]) (by decide)
    have price := media t
    rw [field_last (by omega)] at entry
    simpa [priceBytes] using entry
  have cutField : field (leBytes 1 n.val ++ priceBytes p) 113 4 = p.cut := by
    have entry := field_number (pre := leBytes 1 n.val ++ tableBytes (leBytes 4) p.ink ++ tableBytes (leBytes 4) p.media)
      (post := leBytes 4 p.measurement) (off := 113) (n := 4) (v := p.cut) (by simp [inkLength, mediaLength]) (by omega)
    simpa [priceBytes] using entry
  have measurementField : field (leBytes 1 n.val ++ priceBytes p) 117 4 = p.measurement := by
    have entry := field_number (pre := leBytes 1 n.val ++ tableBytes (leBytes 4) p.ink ++
        tableBytes (leBytes 4) p.media ++ leBytes 4 p.cut)
      (post := []) (off := 117) (n := 4) (v := p.measurement) (by simp [inkLength, mediaLength]) (by omega)
    simpa [priceBytes] using entry
  have set : fin? 4 n.val = some n := dif_pos n.isLt
  have inkAll : (allOf 12 fun c => decide (p.ink[c] ≤ 1000000)) = true := (allOf_iff _).2 fun c => decide_eq_true (ink c)
  have mediaAll : (allOf 16 fun t => decide (p.media[t] ≤ 10000000)) = true :=
    (allOf_iff _).2 fun t => decide_eq_true (media t)
  have inkTable := tabulate_table inkField
  have mediaTable := tabulate_table mediaField
  have whole : ({ ink := p.ink, media := p.media, cut := p.cut, measurement := p.measurement, inUse := 0 } : PriceSet) = p := by
    rw [← unused]
  unfold readPrices
  rw [length, setField, set, inkTable, mediaTable, cutField, measurementField]
  dsimp only [Option.bind_eq_bind, Option.bind_some]
  rw [inkAll, mediaAll]
  simp [guard, cut, measurement, whole]

theorem readTime_bytes {day ms : Nat} (dayFits : day < 65536) (msFits : ms < 4294967296) :
    readTime (leBytes 2 day ++ leBytes 4 ms) = if ms < 86400000 then some (day, ms) else none := by
  have dayField : field (leBytes 2 day ++ leBytes 4 ms) 0 2 = day := field_here _ dayFits
  have msField : field (leBytes 2 day ++ leBytes 4 ms) 2 4 = ms := by
    rw [field_skip _ (by decide)]
    exact field_last msFits
  unfold readTime
  rw [dayField, msField]
  exact if_congr (by simp [Config.msPerDay]) rfl rfl

theorem readAccountSettings_bytes {i : Fin 32} {enabled : Bool} {limit : Nat} (fits : limit < 281474976710656) :
    readAccountSettings (leBytes 1 i.val ++ flagByte enabled ++ leBytes 6 limit) =
      if i.val ≠ 0 ∨ enabled = true then some (i, enabled, limit) else none := by
  have account : fin? 32 i.val = some i := dif_pos i.isLt
  have accountField : field (leBytes 1 i.val ++ flagByte enabled ++ leBytes 6 limit) 0 1 = i.val := by
    rw [List.append_assoc]
    exact field_here _ (by omega)
  have flagField : field (leBytes 1 i.val ++ flagByte enabled ++ leBytes 6 limit) 1 1 = leNat (flagByte enabled) := by
    rw [List.append_assoc]
    exact field_mid rfl rfl
  have limitField : field (leBytes 1 i.val ++ flagByte enabled ++ leBytes 6 limit) 2 6 = limit := by
    rw [field_drop (by simp)]
    exact field_last fits
  unfold readAccountSettings
  rw [accountField, account, flagField, flag_flagByte, limitField]
  split
  · next allowed => exact congrArg (Option.bind · fun _ => some (i, enabled, limit)) (if_pos allowed)
  · next refused => exact congrArg (Option.bind · fun _ => some (i, enabled, limit)) (if_neg refused)

/-! ### Colour, prices and time -/

section
variable {s : State} {p : Port} {tag : Byte} {pl : List Byte}

theorem taken_setReference {x : Fin 16 × List Colour} (read : readReference pl = some x) :
    ReqKind.taken .setReference p tag pl s =
      if (s.colour.refs[x.1]).inUse = 0 then
        ((accepted p pl s).mapColour fun u =>
            { u with refs := u.refs.set x.1.val { patches := x.2, inUse := 0 } x.1.isLt },
          Reply.ok (refSetBytes { patches := x.2, inUse := 0 }))
      else refuse .inUse (accepted p pl s) :=
  taken_read (f := fun _ e x => if (e.st.colour.refs[x.1]).inUse = 0 then
    (e.mapColour fun u => { u with refs := u.refs.set x.1.val { patches := x.2, inUse := 0 } x.1.isLt },
      Reply.ok (refSetBytes { patches := x.2, inUse := 0 })) else refuse .inUse e) rfl read

theorem taken_setHistorySize {n : Nat} (read : readHistorySize pl = some n) : ReqKind.taken .setHistorySize p tag pl s =
    ((accepted p pl s).mapColour fun u => { u with histSize := n, history := [] }, Reply.ok []) :=
  taken_read (f := fun _ e n => (e.mapColour fun u => { u with histSize := n, history := [] }, Reply.ok [])) rfl read

theorem taken_setPrices {x : Fin 4 × PriceSet} (read : readPrices pl = some x) : ReqKind.taken .setPrices p tag pl s =
    if (s.cost.prices[x.1]).inUse = 0 then
      ((accepted p pl s).mapCost fun c => { c with prices := c.prices.set x.1.val x.2 x.1.isLt },
        Reply.ok (priceBytes x.2))
    else refuse .inUse (accepted p pl s) :=
  taken_read (f := fun _ e x => if (e.st.cost.prices[x.1]).inUse = 0 then
    (e.mapCost fun c => { c with prices := c.prices.set x.1.val x.2 x.1.isLt }, Reply.ok (priceBytes x.2))
    else refuse .inUse e) rfl read

theorem taken_setTime {x : Nat × Nat} (read : readTime pl = some x) : ReqKind.taken .setTime p tag pl s =
    ((accepted p pl s).mapClock fun t => { t with day := x.1, ms := x.2 },
      Reply.ok (leBytes 2 x.1 ++ leBytes 4 x.2 ++ leBytes 6 s.clock.mono)) :=
  taken_read (f := fun _ e x => (e.mapClock fun t => { t with day := x.1, ms := x.2 },
    Reply.ok (timeReport (e.mapClock fun t => { t with day := x.1, ms := x.2 }).st.clock))) rfl read

/-- A request that touches the colour unit alone. -/
theorem exec_colour {k : ReqKind} {g : ColourUnit → ColourUnit} {r : Reply} (served : s.serves k p pl = true)
    (taken : k.taken p tag pl s = ((accepted p pl s).mapColour g, r)) :
    exec (k.command p tag pl) s = .next (State.answered p k tag pl r { s with colour := g s.colour }) :=
  exec_effect served taken

/-- A request that touches the cost unit alone, and raises nothing. -/
theorem exec_cost {k : ReqKind} {g : CostUnit → CostUnit} {r : Reply} (served : s.serves k p pl = true)
    (taken : k.taken p tag pl s = ((accepted p pl s).mapCost g, r)) :
    exec (k.command p tag pl) s = .next (State.answered p k tag pl r { s with cost := g s.cost }) :=
  exec_effect served taken

/-- A request that touches the time base alone. -/
theorem exec_clock {k : ReqKind} {g : TimeBase → TimeBase} {r : Reply} (served : s.serves k p pl = true)
    (taken : k.taken p tag pl s = ((accepted p pl s).mapClock g, r)) :
    exec (k.command p tag pl) s = .next (State.answered p k tag pl r { s with clock := g s.clock }) :=
  exec_effect served taken

end

theorem deskSettings_holds : deskSettings := by
  refine fun s tag => ⟨fun r patches least most inRange served => ?_, fun n fits served => ?_,
    fun n p ink media cut measurement unused served => ?_, fun day ms dayFits msFits served => ?_⟩
  · have taken := taken_setReference (s := s) (p := .desk) (tag := tag) (readReference_bytes (r := r) least most inRange)
    split
    · next unused => exact exec_colour (k := .setReference) served (taken.trans (if_pos unused))
    · next used => exact exec_answered (k := .setReference) served (taken.trans (if_neg used))
  · split
    · next size =>
      exact exec_colour (k := .setHistorySize) served
        (taken_setHistorySize ((readHistorySize_bytes fits).trans (if_pos size)))
    · next other =>
      exact exec_unread (k := .setHistorySize) (read := readHistorySize) served rfl
        ((readHistorySize_bytes fits).trans (if_neg other))
  · have taken := taken_setPrices (s := s) (p := .desk) (tag := tag)
      (readPrices_bytes (n := n) ink media cut measurement unused)
    split
    · next unused => exact exec_cost (k := .setPrices) served (taken.trans (if_pos unused))
    · next used => exact exec_answered (k := .setPrices) served (taken.trans (if_neg used))
  · split
    · next inDay =>
      exact exec_clock (k := .setTime) served (taken_setTime ((readTime_bytes dayFits msFits).trans (if_pos inDay)))
    · next beyond =>
      exact exec_unread (k := .setTime) (read := readTime) served rfl
        ((readTime_bytes dayFits msFits).trans (if_neg beyond))

/-! ### Accounts -/

/-- An account's charged, committed and limit figures are those of the start of the event (R161). -/
def Ev.accountStands (e : Ev) (i : Fin 32) : Prop :=
  (e.st.cost.accounts[i]).charged = (e.start.cost.accounts[i]).charged ∧
    (e.st.cost.accounts[i]).committed = (e.start.cost.accounts[i]).committed ∧
    (e.st.cost.accounts[i]).limit = (e.start.cost.accounts[i]).limit

/-- A walk that stands still at every entry but one. -/
theorem foldl_only {α β : Type} {P : α → Prop} {f : α → β → α} {i : β} (moves : ∀ a, P a → P (f a i))
    (idle : ∀ a, P a → ∀ j, j ≠ i → f a j = a) (l : List β) (nodup : l.Nodup) (a : α) (sound : P a) :
    (i ∉ l → l.foldl f a = a) ∧ (i ∈ l → l.foldl f a = f a i) := by
  induction l generalizing a with
  | nil => exact ⟨fun _ => rfl, fun inn => absurd inn (by simp)⟩
  | cons x xs ih =>
    obtain ⟨fresh, rest⟩ := List.nodup_cons.1 nodup
    simp only [List.foldl_cons, List.mem_cons, not_or]
    constructor
    · rintro ⟨other, out⟩
      rw [idle a sound x (Ne.symm other)]
      exact (ih rest a sound).1 out
    · intro inn
      by_cases here : i = x
      · subst here
        exact (ih rest _ (moves a sound)).1 fresh
      · rw [idle a sound x (Ne.symm here)]
        exact (ih rest a sound).2 (inn.resolve_left here)

theorem evalOverrun_stands {e : Ev} {i : Fin 32} (stands : e.accountStands i) : evalOverrun i e = e := if_pos stands

theorem evalOverrun_others {e : Ev} {i j : Fin 32} (other : j ≠ i) (stands : e.accountStands j) :
    (evalOverrun i e).accountStands j := by
  unfold evalOverrun
  dsimp only
  have moved (f : Account → Account) : (e.modifyAccount i f).accountStands j := by
    unfold Ev.accountStands
    rw [modifyAccount_account, if_neg other]
    exact stands
  split_ifs
  · exact stands
  · exact moved _
  · exact moved _

/-- The end of an event that has touched one account's figures evaluates that account. -/
theorem settleAccounts_one {e : Ev} {i : Fin 32} (others : ∀ j, j ≠ i → e.accountStands j) :
    settleAccounts e = evalOverrun i e :=
  (foldl_only (P := fun e : Ev => ∀ j, j ≠ i → e.accountStands j) (i := i)
    (fun _ stands j other => evalOverrun_others other (stands j other))
    (fun _ stands j other => evalOverrun_stands (stands j other)) (List.finRange 32) (List.nodup_finRange 32) e
    others).2 (List.mem_finRange i)

/-- Two changes of one account are one. -/
theorem modifyAccount_modifyAccount (i : Fin 32) (f g : Account → Account) (e : Ev) :
    (e.modifyAccount i f).modifyAccount i g = e.modifyAccount i fun a => g (f a) := by
  have accounts : modifyAt (modifyAt e.st.cost.accounts i f) i g = modifyAt e.st.cost.accounts i fun a => g (f a) :=
    table_ext fun j => by
      rw [modifyAt_get, modifyAt_get, modifyAt_get]
      split <;> rfl
  exact congrArg (fun v => e.mapCost fun c => { c with accounts := v }) accounts

theorem modifyAccount_congr {i : Fin 32} {f g : Account → Account} {e : Ev}
    (same : f e.st.cost.accounts[i] = g e.st.cost.accounts[i]) : e.modifyAccount i f = e.modifyAccount i g := by
  have accounts : modifyAt e.st.cost.accounts i f = modifyAt e.st.cost.accounts i g :=
    congrArg (fun a => e.st.cost.accounts.set i.val a i.isLt) same
  exact congrArg (fun v => e.mapCost fun c => { c with accounts := v }) accounts

/-- The account as SET_ACCOUNT leaves it, its overrun flag evaluated where the limit changes (R152, R161). -/
def Account.configured (i : Fin 32) (enabled : Bool) (limit : Nat) (a : Account) : Account :=
  { a with
    enabled := enabled
    limit := limit
    overrun := if limit = a.limit then a.overrun else overrunNow i { a with enabled := enabled, limit := limit } }

/-- The notice of an account that passes its limit by SET_ACCOUNT (R161). -/
def configuredNotice (i : Fin 32) (limit : Nat) (a : Account) : List Notice :=
  if limit ≠ a.limit ∧ overrunNow i { a with limit := limit } = true ∧ a.overrun = false then
    [{ kind := .accountOverrun, subject := .account i.val, detail := saturate32 (a.charged + a.committed - limit) }]
  else []

theorem orderNotices_configured (i : Fin 32) (limit : Nat) (a : Account) :
    orderNotices (configuredNotice i limit a) = configuredNotice i limit a := by
  unfold configuredNotice
  split <;> rfl

section
variable {e : Ev} {i : Fin 32} {enabled : Bool} {limit : Nat}

/-- What SET_ACCOUNT makes of an event that has touched no account. -/
theorem settleAccounts_configured (fresh : e.st.cost = e.start.cost) :
    settleAccounts (e.modifyAccount i fun a => { a with enabled := enabled, limit := limit }) =
      { e.modifyAccount i (Account.configured i enabled limit) with
        raised := e.raised ++ configuredNotice i limit e.st.cost.accounts[i] } := by
  have here : ((e.modifyAccount i fun a => { a with enabled := enabled, limit := limit }).st.cost.accounts[i]) =
      { e.st.cost.accounts[i] with enabled := enabled, limit := limit } := by
    rw [modifyAccount_account, if_pos rfl]
  have was : e.start.cost.accounts[i] = e.st.cost.accounts[i] := by rw [fresh]
  rw [settleAccounts_one (i := i) fun j other => by
    unfold Ev.accountStands
    rw [modifyAccount_account, if_neg other, modifyAccount_start, fresh]
    exact ⟨rfl, rfl, rfl⟩]
  unfold evalOverrun
  dsimp only
  rw [here, modifyAccount_start, was]
  by_cases same : limit = (e.st.cost.accounts[i]).limit
  · rw [if_pos ⟨rfl, rfl, same⟩]
    have quiet : configuredNotice i limit e.st.cost.accounts[i] = [] := if_neg fun moved => moved.1 same
    rw [quiet, List.append_nil]
    refine modifyAccount_congr ?_
    unfold Account.configured
    rw [if_pos same]
  · rw [if_neg fun stands => same stands.2.2, modifyAccount_modifyAccount]
    have account : e.modifyAccount i (Account.configured i enabled limit) = e.modifyAccount i fun a =>
        { a with enabled := enabled, limit := limit,
                 overrun := overrunNow i { e.st.cost.accounts[i] with enabled := enabled, limit := limit } } := by
      refine modifyAccount_congr ?_
      unfold Account.configured
      rw [if_neg same]
    rw [account]
    by_cases passes : (overrunNow i { e.st.cost.accounts[i] with enabled := enabled, limit := limit } = true ∧
        (e.st.cost.accounts[i]).overrun = false)
    · have noticed : configuredNotice i limit e.st.cost.accounts[i] = [_] := if_pos ⟨same, passes⟩
      rw [if_pos (by rw [passes.1, passes.2]; rfl), noticed]
      rfl
    · have quiet : configuredNotice i limit e.st.cost.accounts[i] = [] := if_neg fun moved => passes moved.2
      rw [if_neg (by simpa using passes), quiet, List.append_nil]
      rfl

end

section
variable {s : State} {p : Port} {tag : Byte} {pl : List Byte} {i : Fin 32} {enabled : Bool} {limit : Nat}

/-- The event of SET_ACCOUNT at its end. -/
def accountConfigured (p : Port) (pl : List Byte) (s : State) (i : Fin 32) (enabled : Bool) (limit : Nat) : Ev :=
  { (accepted p pl s).modifyAccount i (Account.configured i enabled limit) with
    raised := configuredNotice i limit s.cost.accounts[i] }

theorem accountConfigured_orders : ordersDiffer s (accountConfigured p pl s i enabled limit).st = false :=
  ordersDiffer_same _ _ rfl rfl

theorem accountConfigured_account : (accountConfigured p pl s i enabled limit).st.cost.accounts[i] =
    Account.configured i enabled limit s.cost.accounts[i] :=
  (modifyAccount_account (accepted p pl s) i i _).trans (if_pos rfl)

theorem taken_setAccount (read : readAccountSettings pl = some (i, enabled, limit)) :
    ReqKind.taken .setAccount p tag pl s = (accountConfigured p pl s i enabled limit,
      Reply.ok (accountBytes (Account.configured i enabled limit s.cost.accounts[i]))) := by
  have settled : settleAccounts ((accepted p pl s).modifyAccount i fun a =>
      { a with enabled := enabled, limit := limit }) = accountConfigured p pl s i enabled limit :=
    settleAccounts_configured (e := accepted p pl s) rfl
  show withRead (readAccountSettings pl) (accepted p pl s) _ = _
  rw [read]
  simp only [withRead, settled]
  rw [accountConfigured_account]

/-- SET_ACCOUNT that is not refused (R152, R161). -/
theorem exec_setAccount (served : s.serves .setAccount p pl = true)
    (read : readAccountSettings pl = some (i, enabled, limit)) :
    exec (ReqKind.command .setAccount p tag pl) s = .next (State.notify (configuredNotice i limit s.cost.accounts[i])
      (State.answered p .setAccount tag pl
        (Reply.ok (accountBytes (Account.configured i enabled limit s.cost.accounts[i])))
        { s with cost := { s.cost with
          accounts := s.cost.accounts.set i.val (Account.configured i enabled limit s.cost.accounts[i]) i.isLt } })) := by
  have ran := exec_noticed (k := .setAccount) served (taken_setAccount (tag := tag) read)
    accountConfigured_orders
  rw [show orderNotices (accountConfigured p pl s i enabled limit).raised =
    configuredNotice i limit s.cost.accounts[i] from orderNotices_configured i limit _] at ran
  exact ran

end

theorem accountSettings_holds : accountSettings := by
  refine fun s tag i enabled limit fits served => ⟨fun house disabled => ?_, fun allowed => ?_⟩
  · refine exec_unread (k := .setAccount) (read := readAccountSettings) served rfl
      ((readAccountSettings_bytes fits).trans (if_neg ?_))
    simp [house, disabled]
  · have client : (i.val != 0) = (i != 0) := by
      rw [Bool.eq_iff_iff, bne_iff_ne, bne_iff_ne, ne_eq, ne_eq, Fin.ext_iff]
      rfl
    have read := (readAccountSettings_bytes (i := i) (enabled := enabled) fits).trans (if_pos (by
      refine allowed.imp_left fun other zero => other (Fin.ext zero)))
    have ran := exec_setAccount (p := .desk) (tag := tag) served read
    simp only [configuredNotice, Account.configured, overrunNow, client, saturate32] at ran
    exact ran

/-- Settles O59: what the operands spell is stored and answered, or refused. -/
theorem deskSettings : Obligations.DeskSettings := ⟨deskSettings_holds, accountSettings_holds⟩

end Sys2Proof.Machine
end

section
/-! The requests of the port units, and the queues that notices enter (9.5, 9.6). -/

namespace Sys2Proof.Machine

-- One proof after another: the stacks of many waiting threads do not fit the memory of one compile.
set_option Elab.async false

/-! ### Requests that touch the ports -/

section
variable {s : State} {k : ReqKind} {p : Port} {tag : Byte} {pl : List Byte} {r : Reply}

/-- A request that touches the ports alone, whatever its frame has moved of its own port's unit. -/
theorem exec_ports {g : Ports → Ports} (served : s.serves k p pl = true)
    (taken : k.taken p tag pl s = ((accepted p pl s).mapPorts g, r))
    (ports : ((g ((s.ports.modifyUnit p (PortUnit.receive (pl.length + 6))).modifyUnit p fun u =>
      { u with badCount := 0 })).modifyUnit p fun u =>
        { u with txn := .responseReady { kind := k.code, tag := tag, code := r.code, payload := r.payload } }) =
      (g s.ports).modifyUnit p (PortUnit.answer k tag pl r)) :
    exec (k.command p tag pl) s = .next (State.answered p k tag pl r { s with ports := g s.ports }) := by
  rw [exec_settled served (by rw [taken]; rfl), taken, finish_quiet _ rfl (ordersDiffer_same _ _ rfl rfl)]
  exact congrArg (fun ps => Host.Outcome.next { s with ports := ps }) ports

/-- A change of a port unit that sees nothing of what a frame moves. -/
theorem answer_modifyUnit {q : Port} {f : PortUnit → PortUnit} (ps : Ports)
    (blind : ∀ (u : PortUnit) (sent : List Byte), f { u with sent := sent, badCount := 0 } =
      { f u with sent := sent, badCount := 0 }) :
    ((((ps.modifyUnit p (PortUnit.receive (pl.length + 6))).modifyUnit p fun u =>
      { u with badCount := 0 }).modifyUnit q f).modifyUnit p fun u =>
        { u with txn := .responseReady { kind := k.code, tag := tag, code := r.code, payload := r.payload } }) =
      (ps.modifyUnit q f).modifyUnit p (PortUnit.answer k tag pl r) := by
  by_cases same : q = p
  · subst same
    rw [modifyUnit_modifyUnit, modifyUnit_modifyUnit, modifyUnit_modifyUnit, modifyUnit_modifyUnit]
    refine congrArg (Ports.modifyUnit q · ps) (funext fun u => ?_)
    exact (congrArg (fun v : PortUnit => { v with
      txn := .responseReady { kind := k.code, tag := tag, code := r.code, payload := r.payload } })
      (blind u (List.replicate (pl.length + 6) 0)) :)
  · cases p <;> cases q <;> first | exact absurd rfl same | rfl

/-- A request that changes one port unit. -/
theorem exec_unit {q : Port} {f : PortUnit → PortUnit} (served : s.serves k p pl = true)
    (taken : k.taken p tag pl s = ((accepted p pl s).modifyPort q f, r))
    (blind : ∀ (u : PortUnit) (sent : List Byte), f { u with sent := sent, badCount := 0 } =
      { f u with sent := sent, badCount := 0 }) :
    exec (k.command p tag pl) s = .next (State.answered p k tag pl r { s with ports := s.ports.modifyUnit q f }) :=
  exec_ports served taken (answer_modifyUnit s.ports blind)

end

/-! ### Operands -/

theorem portCode_back (p : Port) : port? (portCode p) = some p := by
  cases p <;> rfl

theorem policy_length (x : Policy) : (flagByte x.masked ++ leBytes 1 x.severity.code).length = 2 := rfl

/-- The operands of SET_FAULT_POLICY read back (R178). -/
theorem readFaultPolicy_bytes (p : Port) (v : Vector Policy 11) :
    readFaultPolicy (leBytes 1 (portCode p) ++ policyBytes v) = some (p, v) := by
  have length : (leBytes 1 (portCode p) ++ policyBytes v).length = 23 := by
    rw [List.length_append, policyBytes, tableBytes_length _ v policy_length]
    rfl
  have portField : field (leBytes 1 (portCode p) ++ policyBytes v) 0 1 = portCode p :=
    field_here _ (by cases p <;> decide)
  have entry (i : Fin 11) (off : Nat) (inside : off + 1 ≤ 2) :
      field (leBytes 1 (portCode p) ++ policyBytes v) (1 + 2 * i.val + off) 1 =
        field (flagByte v[i].masked ++ leBytes 1 v[i].severity.code) off 1 := by
    have here := field_table (v := v) policy_length i (pre := leBytes 1 (portCode p)) (post := [])
      (place := 1 + 2 * i.val + off) (by simp; omega) inside
    rwa [List.append_nil] at here
  have maskField (i : Fin 11) : field (leBytes 1 (portCode p) ++ policyBytes v) (1 + 2 * i.val) 1 =
      if v[i].masked then 1 else 0 := by
    have here := entry i 0 (by decide)
    rw [Nat.add_zero] at here
    rw [here]
    cases v[i].masked <;> rfl
  have severityField (i : Fin 11) : field (leBytes 1 (portCode p) ++ policyBytes v) (2 + 2 * i.val) 1 =
      v[i].severity.code := by
    have here := entry i 1 (by decide)
    rw [show 1 + 2 * i.val + 1 = 2 + 2 * i.val by omega] at here
    rw [here]
    cases v[i].masked <;> cases v[i].severity <;> rfl
  have policy (i : Fin 11) : policyAt (leBytes 1 (portCode p) ++ policyBytes v) i = v[i] := by
    unfold policyAt
    rw [maskField, severityField]
    rcases v[i] with ⟨masked, severity⟩
    cases masked <;> cases severity <;> rfl
  have inRange : (allOf 11 fun i => decide (field (leBytes 1 (portCode p) ++ policyBytes v) (1 + 2 * i.val) 1 < 2) &&
      decide (field (leBytes 1 (portCode p) ++ policyBytes v) (2 + 2 * i.val) 1 < 2)) = true := by
    rw [allOf_iff]
    intro i
    rw [maskField, severityField]
    cases v[i].masked <;> cases v[i].severity <;> rfl
  unfold readFaultPolicy
  rw [length, portField, portCode_back, inRange, tabulate_table policy]
  rfl

/-- The operands of SET_NOTICE_LEVELS (11.7). -/
theorem readLevels_bytes {threshold : Nat} {levels : Vector Nat 18} (fits : threshold < 256)
    (levelFits : ∀ i : Fin 18, levels[i] < 256) :
    readLevels (leBytes 1 threshold ++ tableBytes (leBytes 1) levels) =
      if 1 ≤ threshold ∧ threshold ≤ 7 ∧ ∀ i : Fin 18, levels[i] ≤ 7 then some (threshold, levels) else none := by
  have sized (x : Nat) : (leBytes 1 x).length = 1 := leBytes_length 1 x
  have length : (leBytes 1 threshold ++ tableBytes (leBytes 1) levels).length = 19 := by
    rw [List.length_append, tableBytes_length _ levels sized, leBytes_length]
  have thresholdField : field (leBytes 1 threshold ++ tableBytes (leBytes 1) levels) 0 1 = threshold :=
    field_here _ fits
  have levelField (i : Fin 18) : field (leBytes 1 threshold ++ tableBytes (leBytes 1) levels) (1 + i.val) 1 =
      levels[i] := by
    have here := field_table (v := levels) sized i (pre := leBytes 1 threshold) (post := []) (place := 1 + i.val)
      (off := 0) (n := 1) (by simp) (by decide)
    have level := levelFits i
    rwa [List.append_nil, field_last (by omega)] at here
  have table := tabulate_table levelField
  unfold readLevels
  rw [length, thresholdField, table]
  refine if_congr ?_ rfl rfl
  rw [Bool.and_eq_true, Bool.and_eq_true, Bool.and_eq_true, allOf_iff]
  simp [and_assoc]

/-! ### The requests -/

section
variable {s : State} {p : Port} {tag : Byte} {pl : List Byte}

theorem taken_setFaultPolicy {x : Port × Vector Policy 11} (read : readFaultPolicy pl = some x) :
    ReqKind.taken .setFaultPolicy p tag pl s =
      ((accepted p pl s).modifyPort x.1 fun u => { u with policy := x.2 }, Reply.ok (policyBytes x.2)) :=
  taken_read (f := fun _ e x => (e.modifyPort x.1 fun u => { u with policy := x.2 }, Reply.ok (policyBytes x.2))) rfl
    read

theorem taken_fetchNotices : ReqKind.taken .fetchNotices p tag [] s =
    ((accepted p [] s).modifyPort p fun u => { u with queue := u.queue.drop 8, wrapped := false },
      Reply.ok (fetchReport (s.ports.unit p))) :=
  (taken_none (f := fun q e => (e.modifyPort q.port fun u => { u with queue := u.queue.drop 8, wrapped := false },
    Reply.ok (fetchReport (e.st.ports.unit q.port)))) rfl).trans (by cases p <;> rfl)

theorem taken_setNoticeLevels {x : Nat × Vector Nat 18} (read : readLevels pl = some x) :
    ReqKind.taken .setNoticeLevels p tag pl s =
      ((accepted p pl s).modifyPort p fun u => { u with threshold := x.1, levels := x.2 },
        Reply.ok (leBytes 1 x.1 ++ tableBytes (leBytes 1) x.2)) :=
  (taken_read (f := fun q e x => (e.modifyPort q.port fun u => { u with threshold := x.1, levels := x.2 },
    Reply.ok (levelBytes ((e.modifyPort q.port fun u =>
      { u with threshold := x.1, levels := x.2 }).st.ports.unit q.port)))) rfl read).trans (by cases p <;> rfl)

theorem taken_clearFaults : ReqKind.taken .clearFaults p tag [] s =
    ((accepted p [] s).mapPorts fun ps => Ports.clearSummary p (ps.modifyUnit p PortUnit.clearFaults),
      Reply.ok (faultRecordBytes (s.ports.unit p))) :=
  (taken_none (f := fun q e => ((e.modifyPort q.port PortUnit.clearFaults).mapPorts (Ports.clearSummary q.port),
    Reply.ok (faultRecordBytes (e.st.ports.unit q.port)))) rfl).trans (by cases p <;> rfl)

theorem clearSummary_modifyUnit (f : PortUnit → PortUnit) (ps : Ports) :
    (ps.clearSummary p).modifyUnit p f = (ps.modifyUnit p f).clearSummary p := by
  cases p <;> rfl

end

theorem fetchReport_eq (u : PortUnit) : fetchReport u = leBytes 1 (min 8 u.queue.length) ++
    leBytes 1 (u.queue.length - 8) ++ flagByte u.wrapped ++ ((u.queue.take 8).map entryBytes).flatten := by
  unfold fetchReport
  rw [List.length_take, List.length_drop]

theorem portRequests_holds : portRequests := by
  refine fun s tag => ⟨fun p v served => ?_, fun p served => ?_, fun p threshold levels fits levelFits served => ?_,
    fun p served => ?_⟩
  · exact exec_unit (k := .setFaultPolicy) served (taken_setFaultPolicy (readFaultPolicy_bytes p v)) fun _ _ => rfl
  · rw [← fetchReport_eq]
    exact exec_unit (k := .fetchNotices) served taken_fetchNotices fun _ _ => rfl
  · have read := readLevels_bytes fits levelFits
    split
    · next inRange =>
      exact exec_unit (k := .setNoticeLevels) served (taken_setNoticeLevels (read.trans (if_pos inRange))) fun _ _ => rfl
    · next out =>
      exact exec_unread (k := .setNoticeLevels) (read := readLevels) served rfl (read.trans (if_neg out))
  · have ran := exec_ports (k := .clearFaults) (tag := tag) served taken_clearFaults (by
      rw [clearSummary_modifyUnit, answer_modifyUnit s.ports fun _ _ => rfl, clearSummary_modifyUnit])
    exact ran

/-! ### Queues -/

theorem offer_eq (now : Nat) (n : Notice) (u : PortUnit) : u.offer now n = queuedNotice now n u := by
  unfold PortUnit.offer queuedNotice
  dsimp only
  split
  · rfl
  · by_cases room : u.queue.length < 32
    · have wrapped : (u.wrapped || decide (32 ≤ u.queue.length)) = u.wrapped := by simp [Nat.not_le.2 room]
      rw [if_pos room, if_pos (show u.queue.length < Config.queueSize from room), wrapped]
    · have wrapped : (u.wrapped || decide (32 ≤ u.queue.length)) = true := by simp [Nat.not_lt.1 room]
      rw [if_neg room, if_neg (show ¬ u.queue.length < Config.queueSize from room), wrapped, List.drop_one]

/-- The order in which the notices of one event enter the queues (R171). -/
def Notice.upTo (x y : Notice) : Prop :=
  x.kind.index < y.kind.index ∨ (x.kind.index = y.kind.index ∧ x.subject.number ≤ y.subject.number)

theorem upTo_of_before {x y : Notice} (before : x.before y = true) : x.upTo y := by
  simp only [Notice.before, Bool.or_eq_true, Bool.and_eq_true, decide_eq_true_eq, beq_iff_eq] at before
  exact before.imp_right fun later => ⟨later.1, Nat.le_of_lt later.2⟩

theorem upTo_of_not_before {x y : Notice} (after : x.before y = false) : y.upTo x := by
  simp only [Notice.before, Bool.or_eq_false_iff, Bool.and_eq_false_iff, decide_eq_false_iff_not,
    beq_eq_false_iff_ne] at after
  unfold Notice.upTo
  rcases lt_or_eq_of_le (not_lt.1 after.1) with lt | eq
  · exact .inl lt
  · exact .inr ⟨eq, not_lt.1 (after.2.resolve_left fun ne => ne eq.symm)⟩

theorem Notice.upTo.trans {x y z : Notice} (first : x.upTo y) (second : y.upTo z) : x.upTo z := by
  unfold Notice.upTo at *
  rcases first with lt | ⟨eq, le⟩
  · rcases second with lt' | ⟨eq', -⟩
    · exact .inl (lt_trans lt lt')
    · exact .inl (eq' ▸ lt)
  · rcases second with lt' | ⟨eq', le'⟩
    · exact .inl (eq ▸ lt')
    · exact .inr ⟨eq.trans eq', le_trans le le'⟩

theorem insertNotice_perm (n : Notice) (l : List Notice) : (insertNotice n l).Perm (n :: l) := by
  induction l with
  | nil => exact .refl _
  | cons x xs ih =>
    unfold insertNotice
    split
    · exact .refl _
    · exact (ih.cons x).trans (.swap n x xs)

theorem insertNotice_sorted {n : Notice} {l : List Notice} (sorted : l.Pairwise Notice.upTo) :
    (insertNotice n l).Pairwise Notice.upTo := by
  induction l with
  | nil => exact List.pairwise_singleton _ _
  | cons x xs ih =>
    obtain ⟨least, rest⟩ := List.pairwise_cons.1 sorted
    unfold insertNotice
    split
    · next before =>
      refine List.pairwise_cons.2 ⟨fun y inn => ?_, sorted⟩
      rcases List.mem_cons.1 inn with rfl | later
      · exact upTo_of_before before
      · exact (upTo_of_before before).trans (least y later)
    · next after =>
      refine List.pairwise_cons.2 ⟨fun y inn => ?_, ih rest⟩
      rcases List.mem_cons.1 ((insertNotice_perm n xs).mem_iff.1 inn) with rfl | later
      · exact upTo_of_not_before (Bool.eq_false_iff.2 after)
      · exact least y later

theorem foldl_insertNotice (l acc : List Notice) (sorted : acc.Pairwise Notice.upTo) :
    (l.foldl (fun acc n => insertNotice n acc) acc).Perm (l ++ acc) ∧
      (l.foldl (fun acc n => insertNotice n acc) acc).Pairwise Notice.upTo := by
  induction l generalizing acc with
  | nil => exact ⟨.refl _, sorted⟩
  | cons n ns ih =>
    obtain ⟨perm, pairs⟩ := ih (insertNotice n acc) (insertNotice_sorted sorted)
    exact ⟨perm.trans (((insertNotice_perm n acc).append_left ns).trans List.perm_middle), pairs⟩

theorem noticesQueue_holds : noticesQueue := by
  refine ⟨fun s run ready => ?_, fun e p => ?_, fun l => ?_⟩
  · have falls : started .cutHomeFall s = ((Ev.moved (lineMoved .cutHomeFall) s).mapMedia fun m =>
        { m with cutter := .fault }).raise .cutterFault .none 0 := by
      show homeFalls _ = _
      unfold homeFalls
      rw [show (Ev.moved (lineMoved .cutHomeFall) s).st.media.cutter = .ready from ready]
    refine ⟨_, exec_event (c := .cutHomeFall) rfl run falls rfl (ordersDiffer_media rfl rfl rfl), fun p => ?_⟩
    rw [notify_unit]
    unfold offerAll
    rw [show ∀ t : State, t.pins = { s.pins with cutHome := false } → t.portHeld p = s.portHeld p from by
      intro t pins
      unfold State.portHeld
      rw [pins]
      cases p <;> rfl]
    · split
      · rfl
      · exact offer_eq _ _ _
    · rfl
  · rw [finish_unit, offerAll]
    split
    · rfl
    · exact congrArg (fun f => List.foldl f _ _) (funext fun u => funext fun n => offer_eq _ _ _)
  · obtain ⟨perm, sorted⟩ := foldl_insertNotice l [] .nil
    exact ⟨perm.trans (.of_eq (List.append_nil l)), sorted⟩

/-- Settles O60: the requests change their port's unit, and notices enter the queues in one order. -/
theorem portRequests : Obligations.PortRequests := ⟨portRequests_holds, noticesQueue_holds⟩

end Sys2Proof.Machine
end

section
/-! The head line: messages examined against the exchange in progress (7.4, 7.5, 11.8). -/

namespace Sys2Proof.Machine

-- One proof after another: the stacks of many waiting threads do not fit the memory of one compile.
set_option Elab.async false

/-! ### The bytes of a message -/

theorem field_one {g : List Byte} {i : Nat} (lt : i < g.length) : field g i 1 = (g.getD i 0).toNat := by
  rw [field_getElem lt, List.getD_eq_getElem?_getD, List.getElem?_eq_getElem lt]
  rfl

theorem field_two {g : List Byte} {i : Nat} (lt : i + 1 < g.length) :
    field g i 2 = (g.getD i 0).toNat + 256 * (g.getD (i + 1) 0).toNat := by
  have first : i < g.length := by omega
  have drop : g.drop i = g[i] :: g[i + 1] :: g.drop (i + 2) := by
    rw [List.drop_eq_getElem_cons first, List.drop_eq_getElem_cons lt]
  unfold field
  rw [drop, List.getD_eq_getElem?_getD, List.getElem?_eq_getElem first, List.getD_eq_getElem?_getD,
    List.getElem?_eq_getElem lt]
  show g[i].toNat + 256 * (g[i + 1].toNat + 256 * 0) = g[i].toNat + 256 * g[i + 1].toNat
  omega

/-- The check of a message on the head line (R186). -/
def checked (g : List Byte) : Prop := (crc16 (g.take 10)).toNat = (g.getD 10 0).toNat + 256 * (g.getD 11 0).toNat

section
variable {g : List Byte} {c n : Nat}

theorem checked_bne (length : g.length = 12) (check : checked g) : ((crc16 (g.take 10)).toNat != field g 10 2) = false := by
  rw [field_two (by omega), bne_eq_false_iff_eq]
  exact check

/-- A PATCH in its turn (R138). -/
theorem malformed_patch (length : g.length = 12) (check : checked g) (kind : (g.getD 0 0).toNat = 2)
    (index : (g.getD 2 0).toNat = n) (room : n < c) : malformed c n g = false := by
  unfold malformed
  rw [checked_bne length check, field_one (by omega), kind, field_one (by omega), index]
  simp [room]

/-- An END after the last PATCH (R138). -/
theorem malformed_end (length : g.length = 12) (check : checked g) (kind : (g.getD 0 0).toNat = 3)
    (count : (g.getD 2 0).toNat = c) (full : n = c) : malformed c n g = false := by
  unfold malformed
  rw [checked_bne length check, field_one (by omega), kind, field_one (by omega), count]
  simp [full]

/-- A kind that the head does not send (R138). -/
theorem malformed_kind (length : g.length = 12) (kind : 3 < (g.getD 0 0).toNat) : malformed c n g = true := by
  unfold malformed
  rw [field_one (i := 0) (by omega)]
  split
  · omega
  · omega
  · simp

end

/-! ### Examined messages -/

section
variable {s : State} {bytes : List Byte}

/-- The event of bytes that complete a message (R186). -/
theorem started_message {c : Instr} (head : effect c = headBytes bytes) (still : lineMoved c s.pins = s.pins)
    (some_ : bytes ≠ []) (length : (s.colour.gathered ++ bytes).length = 12) :
    started c s = examineMessage (s.colour.gathered ++ bytes)
      ((Ev.begin s).mapColour fun u => { u with gathered := [] }) := by
  have begun : Ev.moved (lineMoved c) s = Ev.begin s := by
    unfold Ev.moved
    rw [still]
    rfl
  unfold started
  rw [head, begun]
  exact headBytes_complete bytes (Ev.begin s) some_ length

variable {g : List Byte} {e : Ev} {m : Measurement} {x : BitVec 8} {rs : List PatchRecord}

theorem examineMessage_exchanging (service : e.st.colour.measurement = some m) (phase : m.phase = .exchanging x rs) :
    examineMessage g e =
      if g.getD 1 0 ≠ x then e
      else if malformed (e.st.targetsOf m.owner).length rs.length g then
        settleMarks (endExchange m (.unmeasured .head) { Figures.none with valid := some rs.length } e)
      else if field g 0 1 = 2 then
        e.mapColour fun u => { u with measurement := some { m with phase := .exchanging x (rs ++ [patchRecord g]) } }
      else settleMarks (judgeExchange m rs e) := by
  unfold examineMessage
  rw [service]
  dsimp only
  rw [phase]

/-- A message that bears no number of an exchange in progress is discarded (R138). -/
theorem examineMessage_discards (other : ∀ m x rs, e.st.colour.measurement = some m → m.phase = .exchanging x rs →
    g.getD 1 0 ≠ x) : examineMessage g e = e := by
  unfold examineMessage
  split
  · rfl
  · next m service =>
    split
    · rfl
    · next x rs phase => exact if_pos (other m x rs service phase)

end

/-- Settles O57: bytes complete a message, which is examined; the dry wait begins an exchange. -/
theorem headMessages : Obligations.HeadMessages := by
  refine ⟨fun s bytes m x rs run some_ length service phase kind number index room check => ?_,
    fun s bytes run some_ length other => ?_, fun s b run => ?_, fun s d m run timer service phase => ?_⟩
  · have patch : started (.patch bytes) s = ((Ev.begin s).mapColour fun u => { u with gathered := [] }).mapColour fun u =>
        { u with measurement := some { m with phase := .exchanging x (rs ++ [patchRecord (s.colour.gathered ++ bytes)]) } } := by
      have code : ((s.colour.gathered ++ bytes).getD 0 0).toNat = 2 := by
        rw [kind]
        rfl
      rw [started_message rfl rfl some_ length, examineMessage_exchanging (m := m) service phase,
        if_neg (not_not.2 number), if_neg, if_pos ((field_one (by omega)).trans code)]
      rw [Bool.not_eq_true]
      exact malformed_patch length check code index room
    exact exec_silent (c := .patch bytes) rfl run patch rfl (ordersDiffer_same _ _ rfl rfl) rfl
  · have discards := examineMessage_discards (g := s.colour.gathered ++ bytes)
      (e := (Ev.begin s).mapColour fun u => { u with gathered := [] }) other
    refine ⟨?_, ?_, ?_⟩
    · exact exec_silent (c := .patch bytes) rfl run ((started_message rfl rfl some_ length).trans discards) rfl
        (ordersDiffer_same _ _ rfl rfl) rfl
    · exact exec_silent (c := .headEnd bytes) rfl run ((started_message rfl rfl some_ length).trans discards) rfl
        (ordersDiffer_same _ _ rfl rfl) rfl
    · exact exec_silent (c := .headOther bytes) rfl run ((started_message rfl rfl some_ length).trans discards) rfl
        (ordersDiffer_same _ _ rfl rfl) rfl
  · have gap : started (.headByteGap b) s = ((Ev.begin s).mapColour fun u => { u with gathered := [] }).mapColour fun u =>
        { u with gathered := [b] } := rfl
    exact exec_silent (c := .headByteGap b) rfl run gap rfl (ordersDiffer_same _ _ rfl rfl) rfl
  · have dry : started .dryWaitExpiry s = beginExchange m
        (((Ev.begin s).mapClock (TimeBase.reach d)).mapColour fun u => { u with dryTimer := none }) := by
      rw [started_expiry (c := .dryWaitExpiry) (due := fun s => s.colour.dryTimer) rfl rfl timer]
      unfold dryExpires
      rw [show ((Ev.begin s).mapClock (TimeBase.reach d)).st.colour.measurement = some m from service]
      dsimp only
      rw [phase]
    exact exec_silent (c := .dryWaitExpiry) rfl run dry rfl (ordersDiffer_same _ _ rfl rfl) rfl

end Sys2Proof.Machine
end

section
/-! What the end of an event leaves of the copies: an attempt stays as it is, but for its booking and its
accrued pause, or its copy moves to a later one (R15, R16, R122). -/

namespace Sys2Proof.Machine

-- One proof after another: the stacks of many waiting threads do not fit the memory of one compile.
set_option Elab.async false

/-! ### Copies that stand -/

/-- A job without its state and its reservation: its copies, its counts, what it has booked and what it asked. -/
def Job.filed (j : Job) : Job := { j with state := .queued, reservation := Vector.replicate 12 0, reservationHeld := false }

/-- Every open job has the copies, the counts and the bookings it had. -/
def Ev.SameFiled (e e' : Ev) : Prop := ∀ h, (e'.st.job? h).map Job.filed = (e.st.job? h).map Job.filed

namespace Ev.SameFiled

theorem refl (e : Ev) : e.SameFiled e := fun _ => rfl

theorem trans {e f g : Ev} (h : e.SameFiled f) (k : f.SameFiled g) : e.SameFiled g := fun n =>
  (k n).trans (h n)

theorem of_within {w : List Part} {e e' : Ev} (h : e.Within w e') (out : .store ∉ w := by decide) :
    e.SameFiled e' := fun n => job?_congr (by rw [show e'.st.store = e.st.store from h.same .store out]) n

/-- One operation after another; the last stays clear of the jobs. -/
theorem then_within {w : List Part} {e f g : Ev} (k : f.Within w g) (h : e.SameFiled f)
    (out : .store ∉ w := by decide) : e.SameFiled g := h.trans (of_within k out)

theorem foldl {β : Type} (f : Ev → β → Ev) (l : List β) (e : Ev)
    (step : ∀ (e : Ev) (b : β), e.SameFiled (f e b)) : e.SameFiled (l.foldl f e) :=
  foldl_keeps (fun e' => e.SameFiled e') f l e (fun a b h => h.trans (step a b)) (refl e)

/-- A change of a job's state or reservation. -/
theorem modifyJob (e : Ev) (h : Nat) {f : Job → Job} (filed : ∀ j, (f j).filed = j.filed) :
    e.SameFiled (e.modifyJob h f) := fun n => job?_congr (modifyJob_table e h filed) n

/-- The attempt of a reference stands. -/
theorem attempt {e e' : Ev} (same : e.SameFiled e') {r : CopyRef} {j : Job} {c : CopyRecord}
    (here : e.st.attempt? r = some (j, c)) :
    ∃ j', e'.st.job? r.handle = some j' ∧ j'.copies = j.copies ∧ e'.st.attempt? r = some (j', c) := by
  obtain ⟨open_, copy, number⟩ := attempt?_eq_some.1 here
  have filed := same r.handle
  rw [open_] at filed
  obtain ⟨j', open', eq⟩ := Option.map_eq_some_iff.1 filed
  have copies : j'.copies = j.copies := (congrArg Job.copies eq :)
  exact ⟨j', open', copies, attempt?_eq_some.2 ⟨open', (copy?_congr copies _).trans copy, number⟩⟩

end Ev.SameFiled

section
variable (e : Ev)

theorem waitList_sameFiled (f : List (Fin 32) → List (Fin 32)) :
    e.SameFiled (e.mapStore fun st => { st with waitList := f st.waitList }) := fun _ => rfl

theorem takeReservation_sameFiled (h : Nat) (j : Job) : e.SameFiled (takeReservation h j e) :=
  (Ev.SameFiled.of_within (mapReserved_within e _)).trans (.modifyJob _ h fun _ => rfl)

theorem releaseReservation_sameFiled (h : Nat) : e.SameFiled (releaseReservation h e) := by
  unfold releaseReservation
  split
  · exact .refl e
  · exact .then_within (noteFreed_within _ _) <|
      (Ev.SameFiled.of_within (mapReserved_within e _)).trans (.modifyJob _ h fun _ => rfl)

theorem drawdown_sameFiled (h : Nat) (v : Vector Nat 12) : e.SameFiled (drawdown h v e) := by
  unfold drawdown
  split
  · exact .refl e
  · exact (Ev.SameFiled.of_within (mapReserved_within e _)).trans (.modifyJob _ h fun _ => rfl)

theorem joinWaitList_sameFiled (h : Fin 32) : e.SameFiled (joinWaitList h e) := by
  have waits : e.SameFiled (e.modifyJob h.val fun j => { j with state := .waitInk }) :=
    .modifyJob e h.val fun _ => rfl
  exact waits.trans (waitList_sameFiled _ (insertAdmitted e.st h))

theorem leaveWaitList_sameFiled (h : Nat) : e.SameFiled (leaveWaitList h e) := waitList_sameFiled e _

theorem walkOne_sameFiled (h : Fin 32) : e.SameFiled (walkOne h e) := by
  unfold walkOne
  split
  · exact .refl e
  · split
    · exact .then_within (raise_within _ _ _ _) <|
        (takeReservation_sameFiled e _ _).trans (leaveWaitList_sameFiled _ _)
    · exact .refl e

theorem trimJob_sameFiled (h : Fin 32) : e.SameFiled (trimJob h e) := by
  have released := releaseReservation_sameFiled e h.val
  unfold trimJob
  dsimp only
  split
  · exact released
  · split
    · exact .then_within (raise_within _ _ _ _) (released.trans (joinWaitList_sameFiled _ h))
    · exact released

theorem trim_sameFiled (n : Nat) (any : Bool) : e.SameFiled (trim n any e).2 := by
  induction n generalizing any e with
  | zero => exact .refl e
  | succ n ih =>
    unfold trim
    split
    · exact .refl e
    · exact (trimJob_sameFiled e _).trans (ih _ _)

theorem settleInk_sameFiled : e.SameFiled (settleInk e) := by
  have short : e.SameFiled (settleShort (trim 32 false (evalFlags e)).2) :=
    .then_within (settleShort_within _)
      ((Ev.SameFiled.of_within (evalFlags_within e)).trans (trim_sameFiled _ 32 false))
  rw [settleInk_eq]
  split
  · exact short.trans (.foldl _ _ _ fun e h => walkOne_sameFiled e h)
  · exact short

theorem closeJob_sameFiled (h : Nat) : e.SameFiled (closeJob h e) := by
  unfold closeJob
  split
  · exact .refl e
  · have left := (releaseReservation_sameFiled e h).trans (leaveWaitList_sameFiled _ h)
    refine .then_within (raise_within _ _ _ _) (.trans ?_ (.modifyJob _ h fun _ => rfl))
    exact .then_within (modifyAccount_within _ _ fun _ => rfl) left

theorem closeJobIfDone_sameFiled (h : Nat) : e.SameFiled (closeJobIfDone h e) := by
  unfold closeJobIfDone
  split
  · exact .refl e
  · split
    · exact closeJob_sameFiled e h
    · exact .refl e

theorem rejoin_sameFiled (h : Nat) : e.SameFiled (rejoin h e) := by
  unfold rejoin
  split
  · split
    · exact .refl e
    · split_ifs
      · exact .refl e
      · exact .modifyJob e h fun _ => rfl
      · exact .then_within (raise_within _ _ _ _) (takeReservation_sameFiled e h _)
      · exact .then_within (raise_within _ _ _ _) (joinWaitList_sameFiled e _)
  · exact .refl e

theorem settleCloses_none {e : Ev} (due : e.due = []) : settleCloses e = e := by
  obtain ⟨_, _, _, _, _, _⟩ := e
  cases due
  rfl

/-- With no attempt to examine, the consequences before the pause touch no copy. -/
theorem settleBooks_sameFiled (due : e.due = []) : e.SameFiled (settleBooks e) := by
  unfold settleBooks
  rw [settleCloses_none (e := { e with lost := false }) due]
  exact .then_within (settleAccounts_within _) (settleInk_sameFiled { e with lost := false })

end

/-! ### Copies that move on -/

/-- The copy has moved to a later attempt, or its attempt is the same and looks the same in the view `g`; it is
PRINTING before and after, or neither. -/
def CopyRecord.Follows {α : Type} (g : Attempt → α) (c c' : CopyRecord) : Prop :=
  (c.attempt < c'.attempt ∧ c.state ≠ .printing ∧ c'.state ≠ .printing) ∨
    (c'.attempt = c.attempt ∧ (c'.state = .printing ↔ c.state = .printing) ∧ g c'.record = g c.record)

/-- A change of one attempt's copy leaves the others (R1). -/
theorem copy?_modifyCopies_other {r : CopyRef} {j : Job} {n : Nat} {c : CopyRecord} (f : CopyRecord → CopyRecord)
    (copy : j.copy? n = some c) (other : ¬ (n = r.copy ∧ c.attempt = r.attempt)) :
    Job.copy? { j with copies := modifyCopies r f j.copies } n = some c := by
  cases n with
  | zero => cases copy
  | succ m =>
    show (modifyCopies r f j.copies)[m]? = some c
    unfold modifyCopies
    split
    · exact copy
    · next k at_ =>
      rw [modifyList_get?]
      split
      · next is =>
        subst is
        rw [show j.copies[m]? = some c from copy, Option.map_some,
          if_neg fun number => other ⟨at_.symm, number⟩]
      · exact copy

/-- No open job goes, no copy goes, and each copy follows what it was. -/
def Ev.Follows {α : Type} (g : Attempt → α) (e e' : Ev) : Prop :=
  ∀ h j, e.st.job? h = some j → ∃ j', e'.st.job? h = some j' ∧
    ∀ n c, j.copy? n = some c → ∃ c', j'.copy? n = some c' ∧ c.Follows g c'

section
variable {α : Type} {g : Attempt → α}

theorem CopyRecord.Follows.refl (c : CopyRecord) : c.Follows g c := .inr ⟨rfl, Iff.rfl, rfl⟩

theorem CopyRecord.Follows.trans {a b c : CopyRecord} (h : a.Follows g b) (k : b.Follows g c) : a.Follows g c := by
  rcases h with ⟨lt, was, is⟩ | ⟨number, state, view⟩
  · rcases k with ⟨lt', -, is'⟩ | ⟨number', state', -⟩
    · exact .inl ⟨lt.trans lt', was, is'⟩
    · exact .inl ⟨number' ▸ lt, was, fun p => is (state'.1 p)⟩
  · rcases k with ⟨lt', was', is'⟩ | ⟨number', state', view'⟩
    · exact .inl ⟨number ▸ lt', fun p => was' (state.2 p), is'⟩
    · exact .inr ⟨number'.trans number, state'.trans state, view'.trans view⟩

namespace Ev.Follows

theorem refl (e : Ev) : e.Follows g e := fun _ j open_ => ⟨j, open_, fun _ c copy => ⟨c, copy, .refl c⟩⟩

theorem trans {e f k : Ev} (h : e.Follows g f) (h' : f.Follows g k) : e.Follows g k := fun n j open_ => by
  obtain ⟨j₁, open₁, copies₁⟩ := h n j open_
  obtain ⟨j₂, open₂, copies₂⟩ := h' n j₁ open₁
  refine ⟨j₂, open₂, fun m c copy => ?_⟩
  obtain ⟨c₁, copy₁, follows₁⟩ := copies₁ m c copy
  obtain ⟨c₂, copy₂, follows₂⟩ := copies₂ m c₁ copy₁
  exact ⟨c₂, copy₂, follows₁.trans follows₂⟩

theorem of_sameFiled {e e' : Ev} (same : e.SameFiled e') : e.Follows g e' := fun n j open_ => by
  have filed := same n
  rw [open_] at filed
  obtain ⟨j', open', eq⟩ := Option.map_eq_some_iff.1 filed
  exact ⟨j', open', fun m c copy => ⟨c, (copy?_congr (show j'.copies = j.copies from (congrArg Job.copies eq :)) m).trans copy, .refl c⟩⟩

theorem of_within {w : List Part} {e e' : Ev} (h : e.Within w e') (out : .store ∉ w := by decide) :
    e.Follows g e' := of_sameFiled (.of_within h out)

/-- One operation after another; the last stays clear of the jobs. -/
theorem then_within {w : List Part} {e f k : Ev} (h' : f.Within w k) (h : e.Follows g f)
    (out : .store ∉ w := by decide) : e.Follows g k := h.trans (of_within h' out)

theorem foldl {β : Type} (f : Ev → β → Ev) (l : List β) (e : Ev) (step : ∀ (e : Ev) (b : β), e.Follows g (f e b)) :
    e.Follows g (l.foldl f e) :=
  foldl_keeps (fun e' => e.Follows g e') f l e (fun a b h => h.trans (step a b)) (refl e)

theorem modifyJob (e : Ev) (h : Nat) (f : Job → Job) (copies : ∀ j, e.st.job? h = some j → ∀ n c,
    j.copy? n = some c → ∃ c', (f j).copy? n = some c' ∧ c.Follows g c') : e.Follows g (e.modifyJob h f) := by
  intro n j open_
  by_cases same : n = h
  · subst same
    exact ⟨f j, by rw [job?_modifyJob, if_pos rfl, open_]; rfl, copies j open_⟩
  · exact ⟨j, by rw [job?_modifyJob, if_neg same, open_], fun m c copy => ⟨c, copy, .refl c⟩⟩

/-- A change of a job beside its copies. -/
theorem modifyBeside (e : Ev) (h : Nat) {f : Job → Job} (copies : ∀ j, (f j).copies = j.copies) :
    e.Follows g (e.modifyJob h f) :=
  modifyJob e h f fun j _ n c copy => ⟨c, (copy?_congr (copies j) n).trans copy, .refl c⟩

/-- The copy of a reference moves. -/
theorem modifyCopy (e : Ev) (r : CopyRef) (f : CopyRecord → CopyRecord)
    (moves : ∀ j c, e.st.attempt? r = some (j, c) → c.Follows g (f c)) : e.Follows g (e.modifyCopy r f) := by
  refine modifyJob e r.handle _ fun j open_ n c copy => ?_
  by_cases same : n = r.copy ∧ c.attempt = r.attempt
  · obtain ⟨rfl, number⟩ := same
    exact ⟨f c, copy?_modifyCopies f copy number, moves j c (attempt?_eq_some.2 ⟨open_, copy, number⟩)⟩
  · exact ⟨c, copy?_modifyCopies_other f copy same, .refl c⟩

/-- What the view does not show of an attempt changes. -/
theorem modifyAttempt (e : Ev) (r : CopyRef) (f : Attempt → Attempt) (hidden : ∀ a, g (f a) = g a) :
    e.Follows g (e.modifyAttempt r f) :=
  modifyCopy e r _ fun _ _ _ => .inr ⟨rfl, Iff.rfl, hidden _⟩

/-- The same attempt before and after. -/
theorem attempt {e e' : Ev} (h : e.Follows g e') {r : CopyRef} {j j' : Job} {c c' : CopyRecord}
    (before : e.st.attempt? r = some (j, c)) (later : e'.st.attempt? r = some (j', c')) :
    (c'.state = .printing ↔ c.state = .printing) ∧ g c'.record = g c.record := by
  obtain ⟨open_, copy, number⟩ := attempt?_eq_some.1 before
  obtain ⟨open', copy', number'⟩ := attempt?_eq_some.1 later
  obtain ⟨k, here, copies⟩ := h _ j open_
  cases here.symm.trans open'
  obtain ⟨d, found, follows⟩ := copies _ c copy
  cases found.symm.trans copy'
  rcases follows with ⟨lt, -⟩ | ⟨-, state, view⟩
  · omega
  · exact ⟨state, view⟩

/-- A PRINTING copy stays at its attempt. -/
theorem printing {e e' : Ev} (h : e.Follows g e') {r : CopyRef} {j : Job} {c : CopyRecord}
    (before : e.st.attempt? r = some (j, c)) (prints : c.state = .printing) :
    ∃ j' c', e'.st.attempt? r = some (j', c') ∧ c'.state = .printing ∧ g c'.record = g c.record := by
  obtain ⟨open_, copy, number⟩ := attempt?_eq_some.1 before
  obtain ⟨j', open', copies⟩ := h _ j open_
  obtain ⟨c', copy', follows⟩ := copies _ c copy
  rcases follows with ⟨-, was, -⟩ | ⟨number', state, view⟩
  · exact absurd prints was
  · exact ⟨j', c', attempt?_eq_some.2 ⟨open', copy', number'.trans number⟩, state.2 prints, view⟩

end Ev.Follows

theorem advance_follows {c : CopyRecord} {cs : CopyState} (was : c.state ≠ .printing) (is : cs ≠ .printing) :
    c.Follows g (c.advance cs) := by
  cases cs
  case pending => exact .inl ⟨Nat.lt_succ_self _, was, is⟩
  all_goals exact .inr ⟨rfl, ⟨fun p => absurd p is, fun p => absurd p was⟩, rfl⟩

end

section
variable {α : Type} {g : Attempt → α} (unbooked : ∀ (a : Attempt) (b : Option Booking), g { a with booked := b } = g a)
  (e : Ev)

include unbooked

theorem bookAttempt_follows (r : CopyRef) (cls : AttemptClass) : e.Follows g (bookAttempt r cls e) := by
  unfold bookAttempt
  split
  · exact .refl e
  · dsimp only
    exact .then_within (modifyAccount_within _ _ (Account.terms_charge _)) <|
      .then_within (modifyAccount_within _ _ fun _ => by simp only [Account.terms, Account.charge]) <|
      (Ev.Follows.modifyAttempt e r _ fun _ => unbooked _ _).trans (.modifyBeside _ _ fun _ => rfl)

theorem closeAttempt_follows {r : CopyRef} {j : Job} {c : CopyRecord} (here : e.st.attempt? r = some (j, c))
    (ready : c.state = .finishing) : e.Follows g (closeAttempt r j c e) := by
  obtain ⟨k, d, booked, state⟩ := bookAttempt_copy e (cls := classOf j c.record) here
  have other := nextCopyState_ne_printing j c.attempt (classOf j c.record)
  have moved (cs : CopyState) (n : Nat) (other : cs ≠ .printing) : e.Follows g
      ((((bookAttempt r (classOf j c.record) e).modifyCopy r (CopyRecord.advance cs)).modifyJob r.handle
        (Job.countTerminal cs)).raise .copyDone (.attempt r) n) := by
    refine .then_within (raise_within _ _ _ _) <|
      (((bookAttempt_follows unbooked e r _).trans (.modifyCopy _ r _ fun j' x at_ => ?_)).trans
        (.modifyBeside _ _ fun _ => by cases cs <;> rfl))
    rw [booked] at at_
    cases at_
    exact advance_follows (by rw [state, ready]; simp) other
  unfold closeAttempt
  dsimp only
  split
  · exact (moved _ _ other).trans (.of_sameFiled (rejoin_sameFiled _ _))
  · exact (moved _ _ other).trans (.of_sameFiled (closeJobIfDone_sameFiled _ _))

theorem closeIfReady_follows (r : CopyRef) : e.Follows g (closeIfReady r e) := by
  unfold closeIfReady
  split
  · exact .refl e
  · next j c here =>
    split
    · next ready =>
      simp only [readyToClose, Bool.and_eq_true, beq_iff_eq] at ready
      exact closeAttempt_follows unbooked e here ready.1.1.1
    · exact .refl e

theorem settleBooks_follows : e.Follows g (settleBooks e) := by
  have closes : e.Follows g (settleCloses { e with lost := false }) :=
    (Ev.Follows.of_within (setLost_within e false)).trans <|
      (Ev.Follows.of_within (noDue_within _)).trans (.foldl _ _ _ fun e r => closeIfReady_follows unbooked e r)
  exact .then_within (settleAccounts_within _) (closes.trans (.of_sameFiled (settleInk_sameFiled _)))

end

section
variable {α : Type} {g : Attempt → α} (e : Ev)

theorem endPause_follows (paused : e.st.media.pause = none ∨ ∀ (a : Attempt) (p : Nat), g { a with accruedPause := p } = g a) :
    e.Follows g (endPause e) := by
  unfold endPause
  split
  · next q r pause _ =>
    rcases paused with none_ | hidden
    · rw [none_] at pause
      cases pause
    · exact .then_within (mapHold_within _ rfl) (.modifyAttempt e r _ fun _ => hidden _ _)
  · exact .of_within (mapHold_within e rfl)

theorem syncPause_follows (paused : e.st.media.pause = none ∨ ∀ (a : Attempt) (p : Nat), g { a with accruedPause := p } = g a) :
    e.Follows g (syncPause e) := by
  unfold syncPause
  split
  · split
    · exact .refl e
    · exact .of_within (beginPause_within e)
  · split
    · exact endPause_follows e paused
    · exact .refl e

/-- At the end of an event an attempt keeps what neither its booking nor, where a pause runs, the pause
writes. -/
theorem settle_follows (unbooked : ∀ (a : Attempt) (b : Option Booking), g { a with booked := b } = g a)
    (paused : e.st.media.pause = none ∨ ∀ (a : Attempt) (p : Nat), g { a with accruedPause := p } = g a) :
    e.Follows g (settle e) := by
  have held : ((settleBooks e).st.media.hold, (settleBooks e).st.media.pause) =
      (e.st.media.hold, e.st.media.pause) := (settleBooks_within e).same .hold (by decide)
  rw [settle_eq]
  refine ((settleBooks_follows unbooked e).trans (.of_within (syncHold_within _))).trans (syncPause_follows _ ?_)
  exact paused.imp_left fun none_ => (congrArg Prod.snd held).trans none_

end

end Sys2Proof.Machine
end

section
/-! The end of a measurement (7.3 to 7.6, O58): its result, its history, its mark. -/

namespace Sys2Proof.Machine

-- One proof after another: the stacks of many waiting threads do not fit the memory of one compile.
set_option Elab.async false

/-! ### Settings through an event -/

/-- The parts that only their own requests write stand, where an operation stays clear of them. -/
theorem Ev.Within.settingsKept {w : List Part} {e e' : Ev} (h : e.Within w e')
    (clear : ∀ q ∈ [Part.inkSettings, .pathSettings, .locked, .portSettings, .roster], q ∉ w := by decide) :
    SettingsKept e.st e'.st where
  ink := h.same .inkSettings (clear _ (by decide))
  path := h.same .pathSettings (clear _ (by decide))
  locked := h.same .locked (clear _ (by decide))
  ports p := congrFun (h.same .portSettings (clear _ (by decide)) : e'.st.portSettings = e.st.portSettings) p
  roster := h.same .roster (clear _ (by decide))

/-- The end of an event keeps the settings of the ports. -/
theorem SettingsKept.finish {s : State} {e : Ev} (h : SettingsKept s e.st) : SettingsKept s e.finish where
  ink := h.ink
  path := h.path
  locked := h.locked
  ports p := by
    refine Eq.trans ?_ (h.ports p)
    show (e.finish.ports.unit p).settings = (e.st.ports.unit p).settings
    rw [finish_unit_kept e p]
    rfl
  roster := h.roster

/-- A command's event, where it loses no engine, and what its end leaves. -/
theorem exec_started {c : Instr} {s : State} {e : Ev} (inEvent : outOfEvents c = false) (run : s.pins.reset = false)
    (does : started c s = e) (quiet : e.lost = false) : exec c s = .next e.finish := by
  subst does
  rw [exec_run inEvent run, eventOf, close_quiet _ quiet]

/-! ### The marks -/

/-- Where the path has reached no mark of the list, none fires (R116). -/
theorem runHead_rest {e : Ev} (rest : ∀ k ∈ e.st.media.marks, reached e.st.media.pos k.pos = false) :
    runHead e = e := by
  unfold runHead runHeadFrom
  split
  · rfl
  · next m ms marks => exact if_pos (by simp [rest m (by rw [marks]; exact List.mem_cons_self)])

/-- A fired head stays the head until it is resolved (R115). -/
theorem runHeadFrom_fired {e : Ev} {k : Mark} {ms : List Mark} (marks : e.st.media.marks = k :: ms)
    (fired : k.fired = true) (n : Nat) : runHeadFrom n e = e := by
  cases n with
  | zero => rfl
  | succ n =>
    unfold runHeadFrom
    rw [marks]
    exact if_pos (by simp [fired])

theorem runHead_fired {e : Ev} {k : Mark} {ms : List Mark} (marks : e.st.media.marks = k :: ms)
    (fired : k.fired = true) : runHead e = e := runHeadFrom_fired marks fired _

/-- The MEASURE mark of an attempt at the head leaves the list, where the attempt owns no other. -/
theorem filter_measure {k : Mark} {ms : List Mark} {r : CopyRef} (measure : k.kind = .measure) (owned : r ∈ k.owners)
    (others : ∀ y ∈ ms, r ∈ y.owners → y.kind = .cut) :
    ((k :: ms).filter fun k => !(k.kind == .measure && k.owners.contains r)) = ms := by
  rw [List.filter_cons_of_neg (by simp [measure, owned]), List.filter_eq_self]
  intro y inn
  by_cases mine : r ∈ y.owners
  · simp [others y inn mine]
  · simp [mine]

/-! ### A service that has ended -/

section
variable {base e : Ev} {r : CopyRef} {k : Mark} {ms : List Mark}

/-- The end of a service takes the head mark, and the next one is not reached. -/
theorem settleMarks_served {e₁ : Ev} (left : e₁.st.media.marks = ms) (pos : e₁.st.media.pos = e.st.media.pos)
    (marks : e.st.media.marks = k :: ms) (rest : e.st.restAhead) : settleMarks e₁ = settle e₁ := by
  unfold settleMarks
  rw [runHead_rest]
  intro y inn
  rw [pos]
  exact rest y (by rw [marks]; exact left ▸ inn)

/-- The end of a service with a result clears the measurement and writes the history (R144, R147). -/
theorem reported_colour (res : MeasureResult) (f : Figures) (marks : e.st.media.marks = k :: ms)
    (measure : k.kind = .measure) (owned : r ∈ k.owners) (others : ∀ y ∈ ms, r ∈ y.owners → y.kind = .cut)
    (rest : e.st.restAhead) : (settleMarks (reportResult r res f e)).st.colour =
      ((e.st.colour.dropStrip r).writeHistory e.st.clock.day e.st.clock.ms r res f).clearService := by
  have left : (reportResult r res f e).st.media.marks = ms := by
    show e.st.media.marks.filter _ = _
    rw [marks]
    exact filter_measure measure owned others
  rw [settleMarks_served (e := e) left rfl marks rest]
  exact (settle_kept _).colour

/-- The end of a service with a result (R144), in an event that has touched the jobs alone. -/
theorem reported_settled (res : MeasureResult) (f : Figures) (within : base.Within [.store] e)
    (before : ∀ j c, base.st.attempt? r = some (j, c) → ∃ j' c', e.st.attempt? r = some (j', c'))
    (marks : base.st.media.marks = k :: ms) (measure : k.kind = .measure) (owned : r ∈ k.owners)
    (others : ∀ y ∈ ms, r ∈ y.owners → y.kind = .cut) (rest : base.st.restAhead) :
    reported base.st (settleMarks (reportResult r res f e)).st r base.st.clock res f := by
  have media : e.st.media.sameButHold base.st.media := within.same .media (by decide)
  have clock : e.st.clock = base.st.clock := within.same .clock (by decide)
  have colour : e.st.colour = base.st.colour := within.same .colour (by decide)
  have marks' : e.st.media.marks = k :: ms := by rw [media]; exact marks
  have left : (reportResult r res f e).st.media.marks = ms := by
    show e.st.media.marks.filter _ = _
    rw [marks']
    exact filter_measure measure owned others
  have pos : (reportResult r res f e).st.media.pos = e.st.media.pos := rfl
  rw [settleMarks_served left pos marks' (by unfold State.restAhead; rw [media]; exact rest)]
  have kept := settle_kept (reportResult r res f e)
  have whole : base.Within (.store :: markParts ++ settleParts) (settle (reportResult r res f e)) :=
    (within.comp (v := .store :: markParts) (reportResult_within e r res f)).comp (settle_within _)
  have result : (settle (reportResult r res f e)).st.colour =
      ((e.st.colour.dropStrip r).writeHistory e.st.clock.day e.st.clock.ms r res f).clearService := kept.colour
  rw [colour, clock] at result
  have follows : (reportResult r res f e).Follows (·.measure) (settle (reportResult r res f e)) :=
    settle_follows _ (fun _ _ => rfl) (.inr fun _ _ => rfl)
  have cut : (settle (reportResult r res f e)).st.media.marks = base.st.media.marks.tail := by
    rw [kept.media, marks]
    exact left
  have measured : ∀ j c j' c', base.st.attempt? r = some (j, c) →
      (settle (reportResult r res f e)).st.attempt? r = some (j', c') → c'.record.measure = res.outcome := by
    intro j c j' c' here later
    obtain ⟨j₁, c₁, mid⟩ := before j c here
    exact (follows.attempt (attempt?_modifyAttempt (fun a => { a with measure := res.outcome }) mid) later).2
  clear follows kept
  generalize settle (reportResult r res f e) = t at *
  refine ⟨(congrArg (·.measurement) result :), (congrArg (·.dryTimer) result :), (congrArg (·.headTimer) result :), cut,
    fun x inn => ?_, (congrArg (·.history) result :), (congrArg (·.histSeq) result :), measured, whole.settingsKept, whole.same .meter (by decide),
    whole.same .scan (by decide), whole.same .sched (by decide), whole.same .bays (by decide),
    whole.same .pos (by decide), whole.same .rolls (by decide), whole.same .clock (by decide),
    Prod.ext whole.pins whole.pending⟩
  rw [result] at inn
  exact bne_iff_ne.1 (List.mem_filter.1 inn).2

end

theorem reported_finish {s : State} {e : Ev} {owner : CopyRef} {now : TimeBase} {res : MeasureResult} {f : Figures}
    (h : reported s e.st owner now res f) : reported s e.finish owner now res f := by
  obtain ⟨service, dry, head, marks, strips, history, seq, attempt, settings, rest⟩ := h
  exact ⟨service, dry, head, marks, strips, history, seq, attempt, settings.finish, rest⟩

/-- What a report says of the state before does not hang on its clock or on its head line. -/
theorem reported_retimed {u t : State} {owner : CopyRef} {now : TimeBase} {res : MeasureResult} {f : Figures}
    (k : TimeBase) (c : ColourUnit) (h : reported u t owner now res f) (refs : c.refs = u.colour.refs)
    (history : c.history = u.colour.history) (seq : c.histSeq = u.colour.histSeq) (size : c.histSize = u.colour.histSize) :
    reported { u with clock := k, colour := c } t owner now res f := by
  obtain ⟨service, dry, head, marks, strips, ring, next, attempt, ⟨ink, path, locked, ports, roster⟩, rest⟩ := h
  refine ⟨service, dry, head, marks, strips, ?_, next.trans (by rw [seq]), attempt, ⟨ink, path, ?_, ports, roster⟩, rest⟩
  · rw [ring, history, seq, size]
  · rw [locked]
    simp only [State.locked, refs]

@[simp] theorem settleMarks_lost (e : Ev) : (settleMarks e).lost = false := settle_lost _

/-! ### The exchanges -/

/-- The judgement of an exchange, its policy and its job at hand (R139, R143). -/
theorem judgeExchange_eq {m : Measurement} {rs : List PatchRecord} {e : Ev} {j : Job} {p : CheckPolicy}
    (open_ : e.st.job? m.owner.handle = some j) (check : j.check = some p) (goes : m.discard = false) :
    ∃ e' : Ev, e.Within [.store] e' ∧
      (∀ i c, e.st.attempt? m.owner = some (i, c) → ∃ i' c', e'.st.attempt? m.owner = some (i', c')) ∧
      judgeExchange m rs e = reportResult m.owner (judge p j.editionMatch (e.st.targetsOf m.owner) rs).1
        (judge p j.editionMatch (e.st.targetsOf m.owner) rs).2 e' := by
  unfold judgeExchange
  rw [if_neg (by simp [goes]), open_]
  dsimp only
  rw [check]
  dsimp only
  split
  · refine ⟨_, modifyRecord_within e m.owner.handle (f := fun k => { k with editionMatch := some (matchOf rs) })
      fun _ => rfl, fun i c here => ⟨_, _, attempt?_modifyJob here rfl⟩, rfl⟩
  · exact ⟨e, .refl _ _, fun i c here => ⟨i, c, here⟩, rfl⟩

/-- A service that ends without a result leaves no record of it but in its attempt (R145). -/
theorem dropped_settled {e : Ev} {r : CopyRef} {k : Mark} {ms : List Mark} (marks : e.st.media.marks = k :: ms)
    (measure : k.kind = .measure) (owned : r ∈ k.owners) (others : ∀ y ∈ ms, r ∈ y.owners → y.kind = .cut)
    (rest : e.st.restAhead) :
    (settleMarks (endDropped r e)).st.colour = (e.st.colour.dropStrip r).clearService ∧
      (settleMarks (endDropped r e)).st.media.marks = ms ∧
      ∀ i c i' c', e.st.attempt? r = some (i, c) → (settleMarks (endDropped r e)).st.attempt? r = some (i', c') →
        c'.record.measure = .none ∧ c'.record.measureDropped = true := by
  have left : (endDropped r e).st.media.marks = ms := by
    show e.st.media.marks.filter _ = _
    rw [marks]
    exact filter_measure measure owned others
  rw [settleMarks_served (e := e) left rfl marks rest]
  have kept := settle_kept (endDropped r e)
  have follows : (endDropped r e).Follows (fun a => (a.measure, a.measureDropped)) (settle (endDropped r e)) :=
    settle_follows _ (fun _ _ => rfl) (.inr fun _ _ => rfl)
  refine ⟨kept.colour, by rw [kept.media]; exact left, fun i c i' c' here later => ?_⟩
  exact Prod.mk.inj (follows.attempt
    (attempt?_modifyAttempt (fun a => { a with measure := .none, measureDropped := true }) here) later).2

section
variable {e : Ev} {m : Measurement} {x : BitVec 8} {rs : List PatchRecord} {g : List Byte}

/-- A malformed message of the exchange in progress (R138). -/
theorem examineMessage_malformed (service : e.st.colour.measurement = some m) (phase : m.phase = .exchanging x rs)
    (number : g.getD 1 0 = x) (bad : malformed (e.st.targetsOf m.owner).length rs.length g = true) :
    examineMessage g e =
      settleMarks (endExchange m (.unmeasured .head) { Figures.none with valid := some rs.length } e) := by
  rw [examineMessage_exchanging service phase, if_neg (not_not.2 number), if_pos bad]

/-- An END after the last PATCH (R138, R139). -/
theorem examineMessage_ends (service : e.st.colour.measurement = some m) (phase : m.phase = .exchanging x rs)
    (length : g.length = 12) (number : g.getD 1 0 = x) (fine : checked g ∧ (g.getD 0 0).toNat = 3 ∧
      (g.getD 2 0).toNat = (e.st.targetsOf m.owner).length ∧ rs.length = (e.st.targetsOf m.owner).length) :
    examineMessage g e = settleMarks (judgeExchange m rs e) := by
  obtain ⟨check, kind, count, full⟩ := fine
  rw [examineMessage_exchanging service phase, if_neg (not_not.2 number), malformed_end length check kind count full,
    if_neg (by simp), if_neg]
  rw [field_one (by omega), kind]
  decide

/-- The head timer expires on an exchange whose figure stands (R138). -/
theorem headExpires_exchanging (service : e.st.colour.measurement = some m) (phase : m.phase = .exchanging x rs)
    (goes : m.discard = false) : headExpires e = settleMarks (reportResult m.owner (.unmeasured .head)
      { Figures.none with valid := some rs.length } (e.mapColour fun u => { u with headTimer := none })) := by
  unfold headExpires
  rw [service]
  dsimp only
  rw [phase]
  exact congrArg settleMarks (if_neg (by simp [goes]))

end

/-- Settles O58: a well-formed END, a malformed message and the timer end an exchange. -/
theorem exchangesEnd : Obligations.ExchangesEnd := by
  intro s k ms m x rs j p run marks measure owners rest others service phase open_ check head
  have owned : m.owner ∈ k.owners := by simp [owners]
  let gathered : Ev := (Ev.begin s).mapColour fun u => { u with gathered := [] }
  refine ⟨?_, fun d timer goes => ?_⟩
  · intro bytes some_ length g good number
    refine ⟨fun goes fine => ?_, fun goes kind => ?_, fun drops fine => ?_⟩
    · let x := judge p j.editionMatch (s.targetsOf m.owner) rs
      obtain ⟨e', within, before, (judged : judgeExchange m rs gathered = reportResult m.owner x.1 x.2 e')⟩ :=
        judgeExchange_eq (e := gathered) (rs := rs) open_ check goes
      have ends : started (.headEnd bytes) s = settleMarks (judgeExchange m rs gathered) :=
        (started_message rfl rfl some_ length).trans
          (examineMessage_ends (e := gathered) service phase length number fine)
      rw [judged] at ends
      have media : e'.st.media.sameButHold s.media := within.same .media (by decide)
      have colour : e'.st.colour = gathered.st.colour := within.same .colour (by decide)
      have clear : (settleMarks (reportResult m.owner x.1 x.2 e')).st.colour.gathered = [] := by
        rw [reported_colour _ _ (by rw [media]; exact marks) measure owned others
          (by unfold State.restAhead; rw [media]; exact rest), colour]
        rfl
      have reports := reported_retimed s.clock s.colour
        (reported_settled (base := gathered) x.1 x.2 within before marks measure owned others rest) rfl rfl rfl rfl
      have ran := exec_started (c := .headEnd bytes) rfl run ends (settleMarks_lost _)
      generalize settleMarks (reportResult m.owner x.1 x.2 e') = e at ran clear reports
      exact ⟨_, ran, clear, reported_finish reports⟩
    · have ends : started (.headOther bytes) s = settleMarks (reportResult m.owner head.1 head.2 gathered) :=
        (started_message rfl rfl some_ length).trans
          ((examineMessage_malformed (e := gathered) (m := m) service phase number (malformed_kind length kind)).trans
            (congrArg settleMarks (if_neg (by simp [goes]))))
      have reports := reported_retimed s.clock s.colour
        (reported_settled (base := gathered) head.1 head.2 (.refl _ _) (fun j c here => ⟨j, c, here⟩) marks measure
          owned others rest) rfl rfl rfl rfl
      exact ⟨_, exec_started (c := .headOther bytes) rfl run ends (settleMarks_lost _), reported_finish reports⟩
    · have ends : started (.headEnd bytes) s = settleMarks (endDropped m.owner gathered) :=
        (started_message rfl rfl some_ length).trans
          ((examineMessage_ends (e := gathered) service phase length number fine).trans
            (congrArg settleMarks (if_pos drops)))
      obtain ⟨colour, left, dropped⟩ := dropped_settled (e := gathered) marks measure owned others rest
      have ran := exec_started (c := .headEnd bytes) rfl run ends (settleMarks_lost _)
      generalize settleMarks (endDropped m.owner gathered) = e at ran colour left dropped
      exact ⟨_, ran, (congrArg (·.measurement) colour :), (congrArg (·.history) colour :), left, dropped⟩
  · let due : Ev := ((Ev.begin s).mapClock (TimeBase.reach d)).mapColour fun u => { u with headTimer := none }
    have ends : started .headTimerExpiry s = settleMarks (reportResult m.owner head.1 head.2 due) := by
      rw [started_expiry (c := .headTimerExpiry) (due := fun s => s.colour.headTimer) rfl rfl timer]
      exact headExpires_exchanging (e := (Ev.begin s).mapClock (TimeBase.reach d)) service phase goes
    have reports := reported_retimed s.clock s.colour
      (reported_settled (base := due) head.1 head.2 (.refl _ _) (fun j c here => ⟨j, c, here⟩) marks measure owned
        others rest) rfl rfl rfl rfl
    exact ⟨_, exec_started (c := .headTimerExpiry) rfl run ends (settleMarks_lost _), reported_finish reports⟩

end Sys2Proof.Machine
end

section
/-! HOLD_TAKEN (6.5, 6.6, 7.3, O39): the hold and the pause at the end of its event, and the service of a MEASURE
mark that it begins. -/

namespace Sys2Proof.Machine

-- One proof after another: the stacks of many waiting threads do not fit the memory of one compile.
set_option Elab.async false

/-! ### A request, its answer and what stands beside it -/

section
variable {s : State} {k : ReqKind} {p : Port} {tag : Byte} {pl : List Byte}

theorem accepted_within (p : Port) (pl : List Byte) (s : State) : (Ev.begin s).Within [.ports] (accepted p pl s) :=
  .after (modifyPort_within _ p rfl) (modifyPort_within _ p rfl)

/-- A request that loses no engine: what it makes of the blocks, its answer, and the ports beside. -/
theorem exec_replies {x : Ev × Reply} (served : s.serves k p pl = true) (taken : k.taken p tag pl s = x)
    (quiet : x.1.lost = false) : ∃ ps : Ports, exec (k.command p tag pl) s = .next { x.1.st with ports := ps } ∧
      State.hasAnswer { x.1.st with ports := ps } p k tag x.2 ∧
      ∀ q, (ps.unit q).settings = (x.1.st.ports.unit q).settings ∧
        (ps.unit q).status = (x.1.st.ports.unit q).status := by
  subst taken
  refine ⟨(respond p (requestHeader k tag pl) (k.taken p tag pl s)).finish.ports, exec_settled served quiet,
    respond_answer k p tag pl (k.taken p tag pl s), fun q => ?_⟩
  rw [finish_unit_kept]
  generalize k.taken p tag pl s = x
  cases p <;> cases q <;> exact ⟨rfl, rfl⟩

theorem SettingsKept.beside {u : State} (h : SettingsKept s u) {ps : Ports}
    (settings : ∀ q, (ps.unit q).settings = (u.ports.unit q).settings) : SettingsKept s { u with ports := ps } where
  ink := h.ink
  path := h.path
  locked := h.locked
  ports q := (settings q).trans (h.ports q)
  roster := h.roster

end

theorem reported_beside {s u : State} {ps : Ports} {owner : CopyRef} {now : TimeBase} {res : MeasureResult}
    {f : Figures} (h : reported s u owner now res f)
    (settings : ∀ q, (ps.unit q).settings = (u.ports.unit q).settings) :
    reported s { u with ports := ps } owner now res f := by
  obtain ⟨service, dry, head, marks, strips, history, seq, attempt, kept, rest⟩ := h
  exact ⟨service, dry, head, marks, strips, history, seq, attempt, kept.beside settings, rest⟩

/-- What a report says of the state before does not hang on the hold, the pause, the head mark's service or
what stands in the ports. -/
theorem reported_rehung {u t : State} {owner : CopyRef} {now : TimeBase} {res : MeasureResult} {f : Figures}
    (m : Media) (ps : Ports) (h : reported u t owner now res f) (marks : m.marks.tail = u.media.marks.tail)
    (rest : m = { u.media with hold := m.hold, pause := m.pause, marks := m.marks })
    (settings : ∀ q, (u.ports.unit q).settings = (ps.unit q).settings) :
    reported { u with media := m, ports := ps } t owner now res f := by
  obtain ⟨service, dry, head, left, strips, ring, next, attempt, ⟨ink, path, locked, ports, roster⟩, meter, scan,
    sched, bays, pos, rolls, clock, outside⟩ := h
  refine ⟨service, dry, head, left.trans marks.symm, strips, ring, next, attempt,
    ⟨ink, path.trans ?_, locked, fun q => (ports q).trans (settings q), roster⟩, meter, scan, sched, bays,
    pos.trans ?_, rolls.trans ?_, clock, outside⟩
  · exact (congrArg (fun x : Media => (u.sched.classMap, u.sched.staged, x.types, x.settings)) rest).symm
  · exact (congrArg (·.pos) rest).symm
  · exact (congrArg (·.rolls) rest).symm

/-! ### The hold and the pause at the end of an event -/

theorem Ev.Within.held {w : List Part} {e e' : Ev} (h : e.Within w e') (out : .hold ∉ w := by decide) :
    e'.st.media.hold = e.st.media.hold ∧ e'.st.media.pause = e.st.media.pause :=
  Prod.mk.inj (h.same .hold out)

theorem syncHold_hold (e : Ev) : (syncHold e).st.media.hold =
    e.st.media.hold.follow e.st.clock.mono e.st.media.settings.ackLimit e.st.holdReasons := rfl

theorem syncHold_pause (e : Ev) : (syncHold e).st.media.pause = e.st.media.pause := rfl

theorem Ev.Within.printing {w : List Part} {e e' : Ev} (h : e.Within w e') (out : .grant ∉ w := by decide) :
    e'.st.printing = e.st.printing :=
  printing_congr (h.same .grant out)

/-- The hold follows the reasons that stand at the end of the event (R117). -/
theorem settle_hold (e : Ev) : (settle e).st.media.hold =
    e.st.media.hold.follow e.st.now e.st.media.settings.ackLimit (settle e).st.holdReasons := by
  have books := settleBooks_within e
  have media : (settleBooks e).st.media.sameButHold e.st.media := books.same .media (by decide)
  have clock : (settleBooks e).st.clock = e.st.clock := books.same .clock (by decide)
  have settings : (settleBooks e).st.media.settings = e.st.media.settings := by rw [media]
  have hold : (settle e).st.media.hold = e.st.media.hold.follow e.st.clock.mono e.st.media.settings.ackLimit
      (settleBooks e).st.holdReasons := by
    rw [settle_eq, syncPause_hold, syncHold_hold, clock, settings, books.held.1]
  have reasons := (settle_inStep e).reasons
  rw [hold, follow_reasons] at reasons
  rw [hold, reasons]
  rfl

/-- A pause that runs goes on where the hold stays TAKEN under a PRINTING copy (R122). -/
theorem settle_pause {e : Ev} {q : PausePeriod} (runs : e.st.media.pause = some q)
    (taken : (settle e).st.media.hold.state = .taken) (printing : (settle e).st.printing.isSome = true) :
    (settle e).st.media.pause = some q := by
  have still := (syncPause_within (syncHold (settleBooks e))).printing
  rw [← settle_eq] at still
  have runs' := syncHold_pause (settleBooks e)
  rw [(settleBooks_within e).held.2, runs] at runs'
  rw [still] at printing
  rw [settle_eq, syncPause_hold] at taken
  rw [settle_eq]
  unfold syncPause
  rw [if_pos (by simp [taken, printing]), if_pos (by rw [runs']; rfl)]
  exact runs'

/-! ### The hold is taken -/

/-- The hold TAKEN at the path position, with this pause. -/
def holding (q : Option PausePeriod) (e : Ev) : Ev :=
  e.mapMedia fun m => { m with hold := m.hold.take m.pos, pause := q }

theorem holding_within (q : Option PausePeriod) (e : Ev) : e.Within [.hold, .grip] (holding q e) :=
  mapHold_within e rfl

/-- The allowance of the printing copy with a pause that begins now is the allowance without one (R123). -/
theorem allowance_begun {e : Ev} (idle : e.st.media.pause = none) (due : Nat) :
    (holding (some { start := e.st.now, due := due }) e).st.allowance = e.st.allowance := by
  have printing : (holding (some { start := e.st.now, due := due }) e).st.printing = e.st.printing := rfl
  have attempt (r : CopyRef) : (holding (some { start := e.st.now, due := due }) e).st.attempt? r =
    e.st.attempt? r := rfl
  have pause : (holding (some { start := e.st.now, due := due }) e).st.media.pause =
    some { start := e.st.now, due := due } := rfl
  have now : (holding (some { start := e.st.now, due := due }) e).st.now = e.st.now := rfl
  unfold State.allowance
  simp only [printing, attempt, pause, now, idle, Nat.sub_self]

/-- HOLD_TAKEN in REQUESTED: the hold, its pause, and what has waited for it (R118, R122). -/
theorem holdTaken_eq (e : Ev) : ∃ q, holdTaken e = settleMarks (serveWaiting e.st.media.pos (holding q e)) ∧
    (e.st.media.pause = none → e.st.printing.isSome = true →
      q = some { start := e.st.now, due := e.st.now + e.st.allowance }) ∧
    (holding q e).st.allowance = e.st.allowance := by
  let e' := e.mapMedia fun m => { m with hold := m.hold.take m.pos }
  have taken : e'.st.media.hold.state = .taken := rfl
  have paused : syncPause e' = if e.st.printing.isSome then (if e.st.media.pause.isSome then e' else beginPause e')
      else if e.st.media.pause.isSome then endPause e' else e' := by
    unfold syncPause
    rw [taken]
    rfl
  unfold holdTaken
  dsimp only
  rw [show syncPause (e.mapMedia fun m => { m with hold := m.hold.take m.pos }) = _ from paused]
  cases current : e.st.printing with
  | none =>
    have idle (q : Option PausePeriod) : (holding q e).st.allowance = e.st.allowance := by
      unfold State.allowance
      rw [show (holding q e).st.printing = none from current, current]
    refine ⟨none, ?_, fun _ printing => by simp at printing, idle none⟩
    cases pause : e.st.media.pause with
    | none =>
      have same : e' = holding none e := by
        show e.mapMedia _ = e.mapMedia _
        simp only [Ev.mapMedia, ← pause]
      simp [same]
    | some q =>
      have ended : endPause e' = holding none e := by
        unfold endPause
        rw [show e'.st.printing = none from current]
        cases e'.st.media.pause <;> rfl
      simp [ended]
  | some r =>
    cases pause : e.st.media.pause with
    | none =>
      refine ⟨_, ?_, fun _ _ => rfl, allowance_begun pause _⟩
      have begun : beginPause e' = holding (some { start := e.st.now, due := e.st.now + e.st.allowance }) e := rfl
      simp [begun]
    | some q =>
      have same : e' = holding (some q) e := by
        show e.mapMedia _ = e.mapMedia _
        simp only [Ev.mapMedia, ← pause]
      refine ⟨some q, by simp [same], fun none_ => by simp at none_, ?_⟩
      rw [← same]
      rfl

theorem taken_holdTaken {s : State} {p : Port} {tag : Byte} (requested : s.media.hold.state = .requested) :
    ReqKind.holdTaken.taken p tag [] s = (holdTaken (accepted p [] s), Reply.ok []) :=
  (taken_none (f := fun q e => if e.st.media.hold.state = .requested then (holdTaken e, Reply.ok [])
    else (recordFault .engine .unexpectedHold (some q.header) e, Reply.refuse .wrongState)) rfl).trans
    (if_pos requested)

@[simp] theorem holdTaken_lost (e : Ev) : (holdTaken e).lost = false := settleMarks_lost _

theorem holdTakenInRequested_holds : holdTakenInRequested := by
  intro s tag served requested
  obtain ⟨ps, ran, answer, settings⟩ := exec_replies (x := (holdTaken (accepted .engine [] s), Reply.ok [])) served
    (taken_holdTaken requested) (holdTaken_lost (accepted .engine [] s))
  have within : (Ev.begin s).Within (.ports :: settleMarkParts) (holdTaken (accepted .engine [] s)) :=
    (accepted_within .engine [] s).comp (holdTaken_within _)
  obtain ⟨q, does, begins, -⟩ := holdTaken_eq (accepted .engine [] s)
  rw [does] at ran answer settings within
  have head : (holding q (accepted .engine [] s)).Within markParts
      (runHead (serveWaiting (accepted .engine [] s).st.media.pos (holding q (accepted .engine [] s)))) :=
    .after (runHead_within _) (serveWaiting_within _ _)
  unfold settleMarks at ran answer settings within
  generalize runHead (serveWaiting (accepted .engine [] s).st.media.pos (holding q (accepted .engine [] s))) = e
    at ran answer settings within head
  obtain ⟨hold, pause⟩ := head.held
  have followed := settle_hold e
  rw [hold] at followed
  have current : (settle e).st.printing = s.printing := within.printing
  have goes : s.media.pause = none → (settle e).st.media.hold.state = .taken → s.printing.isSome = true →
      (settle e).st.media.pause = some { start := s.now, due := s.now + s.allowance } := fun idle taken printing =>
    settle_pause (pause.trans (begins idle printing)) taken (by rw [current]; exact printing)
  clear head hold pause does begins
  generalize settle e = t at *
  refine ⟨_, ran, answer, fun any => ?_, fun any => ?_, goes, within.settingsKept.beside fun q => (settings q).1,
    within.same .sched (by decide), within.same .scan (by decide), within.same .meter (by decide),
    within.same .bays (by decide), within.same .pos (by decide), within.same .rolls (by decide),
    within.same .clock (by decide), Prod.ext within.pins within.pending⟩
  · exact followed.trans (if_pos any)
  · exact followed.trans (if_neg (by rw [show t.st.holdReasons.any = false from any]; simp))

/-! ### The service of a MEASURE mark begins -/

section
variable {s : State} {k : Mark} {ms : List Mark} {r : CopyRef} {j : Job} {p : CheckPolicy}

/-- The event in which the hold is taken and the head mark's service has begun. -/
def serving (q : Option PausePeriod) (s : State) : Ev :=
  (holding q (accepted .engine [] s)).mapMedia fun x => { x with marks := modifyHead (Mark.serve s.media.pos) x.marks }

theorem serving_st (q : Option PausePeriod) (s : State) : (serving q s).st =
    { s with ports := (accepted .engine [] s).st.ports, media := (serving q s).st.media } := by
  simp only [serving, holding, Ev.mapMedia]
  rfl

theorem serving_blocks (q : Option PausePeriod) (s : State) :
    ({ (serving q s).st with media := s.media, ports := s.ports } : State) = s := by rw [serving_st]

/-- A fired MEASURE mark at the head, whose service has waited for the hold (R118, R134). -/
theorem serveWaiting_measure (q : Option PausePeriod) (marks : s.media.marks = k :: ms) (measure : k.kind = .measure)
    (owners : k.owners = [r]) (fired : k.fired = true) (waits : k.service = .notBegun) :
    serveWaiting (accepted .engine [] s).st.media.pos (holding q (accepted .engine [] s)) =
      beginMeasure r k.pos s.media.pos (serving q s) := by
  unfold serveWaiting
  rw [show (holding q (accepted .engine [] s)).st.media.marks = k :: ms from marks]
  dsimp only
  rw [if_pos (by simp [fired, waits])]
  unfold beginService
  rw [measure]
  dsimp only
  rw [owners]
  rfl

/-- The measurement that a served mark begins (R134). -/
def begunAt (r : CopyRef) (k : Mark) (s : State) : Measurement :=
  { owner := r, markPos := k.pos, captured := s.media.pos, overshoot := (s.media.pos - k.pos).toInt, phase := .drying,
    discard := false }

/-- What becomes of a served strip (R134 to R137). -/
theorem beginMeasure_eq {q : Option PausePeriod} (open_ : s.job? r.handle = some j) (check : j.check = some p)
    (allowance : (holding q (accepted .engine [] s)).st.allowance = s.allowance) :
    beginMeasure r k.pos s.media.pos (serving q s) =
      if (s.media.pos - k.pos).toInt < 0 ∨ (p.stripLength : Int) < (s.media.pos - k.pos).toInt + 60 then
        reportResult r (.unmeasured .missed) Figures.none (serving q s)
      else if h : (s.dryClock r).isSome then
        let left := dryRemaining s.now ((s.dryClock r).get h)
        if left = 0 then beginExchange (begunAt r k s) (serving q s)
        else if s.printing.isNone || left ≤ s.allowance then waitForDry (begunAt r k s) left (serving q s)
        else reportResult r (.unmeasured .wet) Figures.none (serving q s)
      else if (s.media.types[j.mediaType]).dryBase = 0 then beginExchange (begunAt r k s) (serving q s)
      else reportResult r (.unmeasured .wet) Figures.none (serving q s) := by
  have limit : (serving q s).st.overshootLimit r = (p.stripLength : Int) - 60 := by
    unfold State.overshootLimit State.policyOf
    rw [show (serving q s).st.job? r.handle = some j from open_]
    dsimp only
    rw [check]
  have base : (serving q s).st.dryBase r = (s.media.types[j.mediaType]).dryBase := by
    unfold State.dryBase
    rw [show (serving q s).st.job? r.handle = some j from open_]
    rfl
  have covers : (serving q s).st.allowance = s.allowance := allowance
  have clock : (serving q s).st.dryClock r = s.dryClock r := rfl
  unfold beginMeasure
  dsimp only
  rw [limit, base, covers, clock]
  refine if_congr ?_ rfl ?_
  · show (s.media.pos - k.pos).toInt < 0 ∨ (p.stripLength : Int) - 60 < (s.media.pos - k.pos).toInt ↔ _
    omega
  · cases s.dryClock r <;> rfl

variable {q : Option PausePeriod} {tag : Byte} {ps : Ports}

/-- The mark in service at the head. -/
def servedMarks (s : State) (k : Mark) (ms : List Mark) : List Mark :=
  { k with service := .inService, captured := some s.media.pos } :: ms

theorem serving_marks (q : Option PausePeriod) (marks : s.media.marks = k :: ms) :
    (serving q s).st.media.marks = servedMarks s k ms := by
  show modifyHead _ s.media.marks = _
  rw [marks]
  rfl

/-- A service that has begun leaves its mark at the head (R115, R136, R137). -/
theorem settled_serving {e : Ev} (marks : s.media.marks = k :: ms) (fired : k.fired = true)
    (same : e.st.media.marks = (serving q s).st.media.marks) :
    (settleMarks e).st.media.marks = servedMarks s k ms ∧ (settleMarks e).st.colour = e.st.colour := by
  have left := same.trans (serving_marks q marks)
  have kept := settle_kept e
  rw [show settleMarks e = settle e from congrArg settle (runHead_fired left fired)]
  exact ⟨by rw [kept.media]; exact left, kept.colour⟩

/-- A service that ends as it begins, its strip missed or wet (R135, R136). -/
theorem reported_serving (res : MeasureResult) (marks : s.media.marks = k :: ms) (measure : k.kind = .measure)
    (owners : k.owners = [r]) (rest : s.restAhead) (others : ∀ y ∈ ms, r ∈ y.owners → y.kind = .cut) :
    reported s (settleMarks (reportResult r res Figures.none (serving q s))).st r s.clock res Figures.none := by
  have ports : (accepted .engine [] s).st.portSettings = s.portSettings :=
    (accepted_within .engine [] s).same .portSettings (by decide)
  have tail : (serving q s).st.media.marks.tail = s.media.marks.tail := by rw [serving_marks q marks, marks]; rfl
  have rest' : (serving q s).st.restAhead := by
    intro y inn
    rw [tail] at inn
    exact rest y inn
  have reports := reported_settled (base := serving q s) res Figures.none (.refl _ _) (fun j c here => ⟨j, c, here⟩)
    (serving_marks q marks) measure (by simp [owners]) others rest'
  generalize settleMarks (reportResult r res Figures.none (serving q s)) = e at reports ⊢
  have moved := reported_rehung (u := (serving q s).st) s.media s.ports reports tail.symm rfl fun p =>
    (congrFun ports p : (accepted .engine [] s).st.portSettings p = s.portSettings p)
  rwa [serving_blocks, serving_st] at moved

end

theorem measureBegins_holds : measureBegins := by
  intro s tag k ms r j p served requested marks measure owners fired waits open_ check
  obtain ⟨ps, ran, -, settings⟩ := exec_replies (x := (holdTaken (accepted .engine [] s), Reply.ok [])) served
    (taken_holdTaken requested) (holdTaken_lost (accepted .engine [] s))
  obtain ⟨q, does, -, allowance⟩ := holdTaken_eq (accepted .engine [] s)
  rw [serveWaiting_measure q marks measure owners fired waits] at does
  have becomes := beginMeasure_eq (k := k) (q := q) open_ check allowance
  rw [does] at ran settings
  intro overshoot begun served number inRange dryBase gone exchanged waits
  have ends {res : MeasureResult} (is : beginMeasure r k.pos s.media.pos (serving q s) =
      reportResult r res Figures.none (serving q s)) : gone res := by
    intro rest others
    rw [is] at ran settings
    have reports := reported_serving (q := q) res marks measure owners rest others
    generalize settleMarks (reportResult r res Figures.none (serving q s)) = e at ran settings reports
    exact ⟨_, ran, reported_beside reports fun p => (settings p).1⟩
  have exchanges (is : beginMeasure r k.pos s.media.pos (serving q s) = beginExchange (begunAt r k s) (serving q s)) :
      exchanged := by
    rw [is] at ran
    obtain ⟨left, colour⟩ := settled_serving (e := beginExchange (begunAt r k s) (serving q s)) marks fired rfl
    generalize settleMarks (beginExchange (begunAt r k s) (serving q s)) = e at ran left colour
    exact ⟨_, ran, left, colour⟩
  have delays {left : Nat} (is : beginMeasure r k.pos s.media.pos (serving q s) =
      waitForDry (begunAt r k s) left (serving q s)) : waits left := by
    rw [is] at ran
    obtain ⟨head, colour⟩ := settled_serving (e := waitForDry (begunAt r k s) left (serving q s)) marks fired rfl
    generalize settleMarks (waitForDry (begunAt r k s) left (serving q s)) = e at ran head colour
    exact ⟨_, ran, head, colour⟩
  have within (ok : inRange) : ¬ ((s.media.pos - k.pos).toInt < 0 ∨ (p.stripLength : Int) <
      (s.media.pos - k.pos).toInt + 60) := by
    obtain ⟨low, high⟩ := ok
    exact not_or.2 ⟨not_lt.2 low, not_lt.2 high⟩
  refine ⟨fun out => ends (becomes.trans (if_pos out)), fun ok clock base => exchanges ?_,
    fun ok clock base => ends ?_, fun d ok clock => ⟨fun zero => exchanges ?_, fun some_ covered => delays ?_,
      fun printing beyond => ends ?_⟩⟩
  all_goals rw [becomes, if_neg (within ok)]
  · simp only [clock, Option.isSome_none, Bool.false_eq_true, dite_false]
    exact if_pos base
  · simp only [clock, Option.isSome_none, Bool.false_eq_true, dite_false]
    exact if_neg (Nat.ne_of_gt base)
  · simp only [clock, Option.isSome_some, dite_true, Option.get_some]
    exact if_pos zero
  · simp only [clock, Option.isSome_some, dite_true, Option.get_some]
    refine (if_neg (Nat.ne_of_gt some_)).trans (if_pos ?_)
    rw [Bool.or_eq_true, Option.isNone_iff_eq_none, decide_eq_true_iff]
    exact covered
  · simp only [clock, Option.isSome_some, dite_true, Option.get_some]
    refine (if_neg fun zero => ?_).trans (if_neg ?_)
    · rw [show d.required - (s.now - d.start) = 0 from zero] at beyond
      exact Nat.not_lt_zero _ beyond
    · rw [Bool.or_eq_true, Option.isNone_iff_eq_none, decide_eq_true_iff]
      rintro (none_ | covered)
      · rw [none_] at printing
        cases printing
      · exact absurd covered (Nat.not_le.2 beyond)

/-- Settles O39: the hold is taken, and the service of the mark that waited for it begins. -/
theorem holdTakenInRequested : Obligations.HoldTakenInRequested := ⟨holdTakenInRequested_holds, measureBegins_holds⟩

end Sys2Proof.Machine
end

section
/-! The end of printing and the loss of the engine (5.5 to 5.7, 6.5, 6.6, O40): what they write, and what the
marks that follow leave of it. -/

namespace Sys2Proof.Machine

-- One proof after another: the stacks of many waiting threads do not fit the memory of one compile.
set_option Elab.async false

/-! ### The examination of the head mark, step by step -/

/-- A relation of events that the firing of the head mark, and each thing its service may do, keeps. -/
structure HeadWalk (R : Ev → Ev → Prop) : Prop where
  refl : ∀ e, R e e
  trans : ∀ {e f k}, R e f → R f k → R e k
  report : ∀ e r res f, R e (reportResult r res f e)
  begins : ∀ e m, R e (beginExchange m e)
  waits : ∀ e m left, R e (waitForDry m left e)
  fires : ∀ e, R e (fireHead e)
  serves : ∀ (e : Ev) q, R e (e.mapMedia fun x => { x with marks := modifyHead (Mark.serve q) x.marks })
  starts : ∀ e q, R e (startCut q e)
  cuts : ∀ e o m, R e (resolveCut o m e)

namespace HeadWalk

variable {R : Ev → Ev → Prop} (W : HeadWalk R) (e : Ev)

include W

theorem beginMeasure (owner : CopyRef) (mark captured : Pos) : R e (beginMeasure owner mark captured e) := by
  unfold Machine.beginMeasure
  dsimp only
  split
  · exact W.report e _ _ _
  · split
    · split
      · exact W.begins e _
      · exact W.report e _ _ _
    · split
      · exact W.begins e _
      · split
        · exact W.waits e _ _
        · exact W.report e _ _ _

theorem beginService (m : Mark) (q : Pos) : R e (beginService m q e) := by
  unfold Machine.beginService
  split
  · split
    · exact W.cuts e _ _
    · exact W.starts e q
    · exact W.refl e
  · split
    · exact W.refl e
    · exact W.trans (W.serves e q) (W.beginMeasure _ _ _ _)

theorem runHeadFrom (n : Nat) : R e (runHeadFrom n e) := by
  induction n generalizing e with
  | zero => exact W.refl e
  | succ n ih =>
    unfold Machine.runHeadFrom
    split
    · exact W.refl e
    · split_ifs
      · exact W.refl e
      · exact W.trans (W.trans (W.fires e) (W.beginService _ _ _)) (ih _)
      · exact W.fires e

theorem runHead : R e (runHead e) := W.runHeadFrom e _

end HeadWalk

/-! ### Views that the marks do not touch -/

/-- A view of an attempt that shows neither its measure nor its cuts. -/
structure MarkBlind {α : Type} (g : Attempt → α) : Prop where
  measured : ∀ (a : Attempt) (m : MeasureOutcome) (d : Bool), g { a with measure := m, measureDropped := d } = g a
  cut : ∀ (o : CutOutcome) (x t : Int) (b : Bool) (a : Attempt), g (a.cutResolved o x t b) = g a
  moved : ∀ (a : Attempt) (n : Nat), g { a with outstandingCuts := n } = g a

/-- How an attempt's printing ended (R12). -/
def Attempt.ending (a : Attempt) : Option EndCause × Option Stamp := (a.endCause, a.ended)

/-- How an attempt's printing ended, and how long it paused (R12, R122). -/
def Attempt.pausedEnding (a : Attempt) : (Option EndCause × Option Stamp) × Nat := (a.ending, a.accruedPause)

theorem markBlind_pausedEnding : MarkBlind Attempt.pausedEnding where
  measured _ _ _ := rfl
  cut o _ _ _ _ := by cases o <;> rfl
  moved _ _ := rfl

theorem markBlind_ending : MarkBlind Attempt.ending where
  measured _ _ _ := rfl
  cut o _ _ _ _ := by cases o <;> rfl
  moved _ _ := rfl

section
variable {α : Type} {g : Attempt → α} (blind : MarkBlind g) (e : Ev)

include blind

theorem reportResult_follows (r : CopyRef) (res : MeasureResult) (f : Figures) : e.Follows g (reportResult r res f e) :=
  .then_within (mayClose_within _ _) <| .then_within (dropMeasureMark_within _ r) <|
    .then_within (raise_within _ _ _ _) <| .then_within (mapColour_within _ rfl rfl fun _ => by
      simp [ColourUnit.clearService, ColourUnit.writeHistory, ColourUnit.dropStrip]) <|
    .modifyAttempt e r _ fun a => blind.measured a _ a.measureDropped

theorem resolveCut_follows (o : CutOutcome) (m : Mark) : e.Follows g (resolveCut o m e) := by
  unfold resolveCut
  exact .then_within (mayClose_within _ _) <| .then_within (mapMarks_within _ rfl) <|
    .foldl _ _ _ fun e r => .modifyAttempt e r _ fun a => blind.cut _ _ _ _ a

theorem follows_walk : HeadWalk (Ev.Follows g) where
  refl := .refl
  trans := .trans
  report e r res f := reportResult_follows blind e r res f
  begins e m := by
    unfold beginExchange
    exact .of_within (mapColour_within e rfl rfl id)
  waits e m left := by
    unfold waitForDry
    exact .of_within (mapColour_within e rfl rfl id)
  fires e := .of_within (mapMarks_within e rfl)
  serves e q := .of_within (mapMarks_within e rfl)
  starts e q := .of_within (mapMarks_within e rfl)
  cuts e o m := resolveCut_follows blind e o m

theorem runHead_follows : e.Follows g (runHead e) := (follows_walk blind).runHead e

theorem endMarks_follows (r : CopyRef) : e.Follows g (endMarks r e) := by
  have withdraws : e.Follows g (withdrawMeasure r e) := by
    unfold withdrawMeasure
    split
    · exact .then_within (dropMeasureMark_within _ r) <| .then_within (mapColour_within _ rfl rfl id) <|
        .modifyAttempt e r _ fun a => blind.measured a _ a.measureDropped
    · exact .refl e
  have moves (e : Ev) (j : Job) : e.Follows g (moveTrailingCut r j e) := by
    unfold moveTrailingCut
    split
    · exact .refl e
    · split_ifs
      · exact .refl e
      · dsimp only
        split
        · exact (Ev.Follows.of_within (mapMarks_within e rfl)).trans (.modifyAttempt _ r _ fun a => blind.moved a _)
        · exact .of_within (mapMarks_within e rfl)
  unfold endMarks
  split
  · exact .refl e
  · exact withdraws.trans (moves _ _)

end

/-! ### The end of printing -/

section
variable {e : Ev} {r : CopyRef} {cause : EndCause} {j : Job} {c : CopyRecord}

theorem attempt?_modifyCopy {f : CopyRecord → CopyRecord} (here : e.st.attempt? r = some (j, c))
    (number : (f c).attempt = c.attempt) : ∃ j', (e.modifyCopy r f).st.attempt? r = some (j', f c) := by
  obtain ⟨open_, copy, at_⟩ := attempt?_eq_some.1 here
  refine ⟨_, attempt?_eq_some.2 ⟨?_, copy?_modifyCopies f copy at_, number.trans at_⟩⟩
  rw [Ev.modifyCopy, job?_modifyJob_same, open_]
  rfl

/-- The pause ends, and the attempt of the current grant ends printing (R12, R95, R122). -/
def endedAt (cause : EndCause) (r : CopyRef) (e : Ev) : Ev :=
  ((endPause e).modifyCopy r (CopyRecord.endPrinting cause e.st.now e.st.media.pos)).mapSched
    (Schedule.endPrinting cause r)

theorem endPrinting_some (current : e.st.printing = some r) : endPrinting cause e =
    (if cause = .done then startDryClock r (endedAt cause r e) else endMarks r (endedAt cause r e)).mayClose [r] := by
  unfold endPrinting
  rw [current]
  rfl

theorem endPrinting_none (idle : e.st.printing = none) : endPrinting cause e = e := by
  unfold endPrinting
  rw [idle]

/-- The copy whose printing ends (R12). -/
theorem endedAt_attempt (cause : EndCause) (current : e.st.printing = some r) (here : e.st.attempt? r = some (j, c)) :
    ∃ j' n, (endedAt cause r e).st.attempt? r = some (j', CopyRecord.endPrinting cause e.st.now e.st.media.pos
      { c with record := { c.record with accruedPause := n } }) ∧ (e.st.media.pause = none → n = c.record.accruedPause) := by
  have paused : ∃ j' n, (endPause e).st.attempt? r = some (j', { c with record := { c.record with accruedPause := n } }) ∧
      (e.st.media.pause = none → n = c.record.accruedPause) := by
    unfold endPause
    split
    · next q r' pause current' =>
      cases current.symm.trans current'
      exact ⟨_, _, attempt?_modifyAttempt (fun a => { a with accruedPause := a.accruedPause + (e.st.now - q.start) }) here,
        fun none_ => by rw [none_] at pause; cases pause⟩
    · exact ⟨j, c.record.accruedPause, here, fun _ => rfl⟩
  obtain ⟨j', n, mid, same⟩ := paused
  obtain ⟨j'', ended⟩ := attempt?_modifyCopy (f := CopyRecord.endPrinting cause e.st.now e.st.media.pos) mid rfl
  exact ⟨j'', n, ended, same⟩

/-- The marks that an end of printing withdraws and moves leave how the attempt ended. -/
theorem endedAt_follows {α : Type} {g : Attempt → α} (blind : MarkBlind g) (current : e.st.printing = some r) :
    (endedAt cause r e).Follows g (endPrinting cause e) := by
  rw [endPrinting_some current]
  refine .then_within (mayClose_within _ _) ?_
  split
  · exact .of_within (startDryClock_within _ r)
  · exact endMarks_follows blind _ r

theorem endedAt_sched : (endedAt cause r e).st.sched = Schedule.endPrinting cause r e.st.sched := by
  show Schedule.endPrinting cause r (endPause e).st.sched = _
  rw [(endPause_within e).same .sched (by decide)]

/-- The schedule at an end of printing (R85, R95, R101). -/
theorem endPrinting_sched (current : e.st.printing = some r) :
    (endPrinting cause e).st.sched = Schedule.endPrinting cause r e.st.sched := by
  rw [endPrinting_some current, mayClose_st, ← endedAt_sched]
  split
  · exact (startDryClock_within _ r).same .sched (by decide)
  · exact (endMarks_within _ r).same .sched (by decide)

theorem printing_of_grant {s : State} {g : Grant} (grant : s.sched.grant = some g) (prints : g.printing = true) :
    s.printing = some g.ref := by
  unfold State.printing
  rw [grant]
  exact if_pos prints

/-- Nothing is PRINTING once a printing has ended (R95). -/
theorem endPrinting_printing_none (cause : EndCause) (e : Ev) : (endPrinting cause e).st.printing = none := by
  cases current : e.st.printing with
  | none => rw [endPrinting_none current, current]
  | some r =>
    unfold State.printing
    rw [endPrinting_sched current]
    simp only [Schedule.endPrinting]
    cases e.st.sched.grant <;> rfl

end

/-! ### The loss of the engine -/

/-- The grant, once nothing prints (R95). -/
def Schedule.idleGrant (u : Schedule) : Option Grant := u.grant.map fun g => { g with printing := false }

theorem idleGrant_of_idle {s : State} (idle : s.printing = none) : s.sched.idleGrant = s.sched.grant := by
  unfold Schedule.idleGrant
  cases grant : s.sched.grant with
  | none => rfl
  | some g =>
    cases prints : g.printing with
    | true => rw [printing_of_grant grant prints] at idle; cases idle
    | false =>
      show some { g with printing := false } = some g
      rw [← prints]

/-- What the loss of the engine makes of the blocks it writes, before the consequences (R27, R50, R68, R101, R102,
R120). -/
structure Ev.Loses (s : State) (e : Ev) : Prop where
  sched : e.st.sched = { s.sched with
    grant := s.sched.idleGrant
    abort := none
    power := if s.printing.isSome && s.sched.pendingCap then .capped else s.sched.power
    pendingCap := s.printing.isNone && s.sched.pendingCap }
  drops : e.st.meter = { s.meter with confirmed := false }
  bays : e.st.ink.bays = mapTable Bay.distrust s.ink.bays
  scan : e.st.scan = if s.scan.running.isNone then
      { s.scan with
        running := some
          { kind := .desk, first := s.scan.config.first, last := s.scan.config.last, start := s.now,
            qualifying := true, next := s.scan.config.first.val } }
    else { s.scan with overlap := true }
  hold : e.st.media.hold.state ≠ .taken

theorem holdFallback_state (e : Ev) : (holdFallback e).st.media.hold.state ≠ .taken := by
  unfold holdFallback
  split
  · next free => simp [free]
  · simp

/-- The scan unit after a trigger (R69, R71). -/
theorem triggerScan_scan (k : TriggerKind) (e : Ev) : (triggerScan k e).st.scan =
    if e.st.scan.running.isNone then e.st.scanStarted k else { e.st.scan with overlap := true } := by
  unfold triggerScan
  split
  · rfl
  · unfold dropTrigger
    dsimp only
    split <;> rfl

theorem endPrinting_loses (e : Ev) : ((endPrinting .engineLost e).mapSched fun u => { u with abort := none }).st.sched =
    { e.st.sched with
      grant := e.st.sched.idleGrant
      abort := none
      power := if e.st.printing.isSome && e.st.sched.pendingCap then .capped else e.st.sched.power
      pendingCap := e.st.printing.isNone && e.st.sched.pendingCap } := by
  rw [mapSched_sched]
  cases current : e.st.printing with
  | none =>
    rw [endPrinting_none current, idleGrant_of_idle current]
    simp
  | some r =>
    rw [endPrinting_sched current]
    simp [Schedule.endPrinting, Schedule.idleGrant]

/-- The blocks as the loss of the engine leaves them, before the scan and the marks (R27, R50, R101, R102). -/
def abandoned (e : Ev) : Ev :=
  (((endPrinting .engineLost e).mapSched fun u => { u with abort := none }).mapMeter fun m =>
    { m with confirmed := false }).mapInk fun i => { i with bays := mapTable Bay.distrust i.bays }

theorem engineLost_eq (e : Ev) :
    engineLost e = { holdFallback (runHead (triggerScan .desk (abandoned e))) with lost := true } := rfl

theorem abandoned_scan (e : Ev) : (triggerScan .desk (abandoned e)).st.scan =
    if e.st.scan.running.isNone then
      { e.st.scan with
        running := some
          { kind := .desk, first := e.st.scan.config.first, last := e.st.scan.config.last, start := e.st.now,
            qualifying := true, next := e.st.scan.config.first.val } }
    else { e.st.scan with overlap := true } := by
  have ended := endPrinting_within e .engineLost
  have scan : (abandoned e).st.scan = e.st.scan := ended.same .scan (by decide)
  have clock : (abandoned e).st.clock = e.st.clock := ended.same .clock (by decide)
  have idle : (abandoned e).st.printing = none :=
    (printing_congr rfl).trans (endPrinting_printing_none .engineLost e)
  rw [triggerScan_scan, scan]
  simp only [State.scanStarted, scan, State.now, clock, idle, Option.isNone_none]

theorem engineLost_loses (e : Ev) : (engineLost e).Loses e.st := by
  have ended := endPrinting_within e .engineLost
  have bays : (endPrinting .engineLost e).st.ink.bays = e.st.ink.bays := ended.same .bays (by decide)
  have meter : (endPrinting .engineLost e).st.meter = e.st.meter := ended.same .meter (by decide)
  have marks : (triggerScan .desk (abandoned e)).Within (.hold :: .grip :: markParts)
      (holdFallback (runHead (triggerScan .desk (abandoned e)))) :=
    .after (holdFallback_within _) (.after (runHead_within _) (.refl _ _))
  have rest : (abandoned e).Within (.scan :: .hold :: .grip :: markParts)
      (holdFallback (runHead (triggerScan .desk (abandoned e)))) :=
    .after marks (.after (triggerScan_within _ .desk) (.refl _ _))
  rw [engineLost_eq]
  have untaken := holdFallback_state (runHead (triggerScan .desk (abandoned e)))
  generalize holdFallback (runHead (triggerScan .desk (abandoned e))) = f at marks rest untaken
  have sched : f.st.sched = (abandoned e).st.sched := rest.same .sched (by decide)
  have drops : f.st.meter = (abandoned e).st.meter := rest.same .meter (by decide)
  have seats : f.st.ink.bays = (abandoned e).st.ink.bays := rest.same .bays (by decide)
  have scan : f.st.scan = (triggerScan .desk (abandoned e)).st.scan := marks.same .scan (by decide)
  refine ⟨sched.trans (endPrinting_loses e), drops.trans ?_, seats.trans ?_, scan.trans (abandoned_scan e), untaken⟩
  · show { (endPrinting .engineLost e).st.meter with confirmed := false } = _
    rw [meter]
  · show mapTable Bay.distrust (endPrinting .engineLost e).st.ink.bays = _
    rw [bays]

/-- The consequences keep the hold from TAKEN, if no HOLD_TAKEN has made it so (R117). -/
theorem settle_untaken {e : Ev} (untaken : e.st.media.hold.state ≠ .taken) :
    (settle e).st.media.hold.state ≠ .taken := by
  rw [settle_hold]
  unfold Hold.follow
  split
  · split
    · simp
    · exact untaken
  · simp

/-- The loss of the engine at the end of its event (R102). -/
theorem Ev.Loses.settled {s : State} {e : Ev} (h : e.Loses s) : EngineLost s (settle e).st := by
  have kept := settle_kept e
  have sched := kept.sched.trans h.sched
  refine ⟨?_, by rw [sched], by rw [sched]; rfl, kept.meter.trans h.drops, fun b => ?_, settle_untaken h.hold, ?_⟩
  · unfold State.printing
    rw [sched]
    simp only [Schedule.idleGrant]
    cases s.sched.grant <;> rfl
  · rw [kept.bays, h.bays, mapTable_get]
  · rw [kept.scan, h.scan]
    split
    · rfl
    · next runs => simpa [Option.isSome_iff_ne_none] using runs

end Sys2Proof.Machine
end

section
/-! The hold's faults and the two timers of the hold and of the pause (6.5, 6.6, O40). -/

namespace Sys2Proof.Machine

-- One proof after another: the stacks of many waiting threads do not fit the memory of one compile.
set_option Elab.async false

/-! ### A fault that stops a port -/

theorem EngineLost.congr {s u t : State} (h : EngineLost u t) (sched : u.sched = s.sched) (meter : u.meter = s.meter)
    (bays : u.ink.bays = s.ink.bays) : EngineLost s t where
  printing := h.printing
  abort := h.abort
  grant := sched ▸ h.grant
  drops := meter ▸ h.drops
  uncertain := bays ▸ h.uncertain
  hold := h.hold
  scan := h.scan

/-- The ports once one of them has stopped by a fault (R175, R177). -/
def Ports.stopped (p : Port) (k : FaultKind) (now : Nat) (ps : Ports) : Ports :=
  (ps.modifyUnit p fun u => { u with state := .faulted }).summarise p k now

/-- The event of a fault that stops a port, before the engine is lost (R175, R177). -/
def faulting (p : Port) (k : FaultKind) (e : Ev) : Ev :=
  (e.mapPorts (Ports.stopped p k e.st.now)).raise .portFault (.port p) k.index.val

theorem enterFaulted_eq (p : Port) (k : FaultKind) (e : Ev) :
    enterFaulted p k e = if p = .engine then engineLost (faulting p k e) else faulting p k e := rfl

theorem enterFaulted_ports (p : Port) (k : FaultKind) (e : Ev) :
    (enterFaulted p k e).st.ports = e.st.ports.stopped p k e.st.now := by
  rw [enterFaulted_eq]
  split
  · exact (engineLost_within _).same .ports (by decide)
  · rfl

theorem stopped_unit (p q : Port) (k : FaultKind) (now : Nat) (ps : Ports) : (ps.stopped p k now).unit q =
    if q = p then { ps.unit q with state := .faulted } else ps.unit q := by
  unfold Ports.stopped Ports.summarise
  split <;> cases p <;> cases q <;> rfl

/-- A fault that stops the Engine port loses the engine, at the end of its event (R102, R175). -/
theorem faulted_engine {e : Ev} {k : FaultKind} :
    EngineLost e.st (enterFaulted .engine k e).close.st ∧ SettingsKept e.st (enterFaulted .engine k e).close.st ∧
      (enterFaulted .engine k e).close.st.ports = e.st.ports.stopped .engine k e.st.now ∧
      (enterFaulted .engine k e).close.st.clock = e.st.clock := by
  have within : e.Within (faultParts ++ settleParts) (enterFaulted .engine k e).close :=
    (enterFaulted_within e .engine k).comp (close_within _)
  have ports := enterFaulted_ports .engine k e
  rw [enterFaulted_eq, if_pos rfl] at within ports ⊢
  have lost := engineLost_loses (faulting .engine k e)
  rw [close_lost _ rfl] at within ⊢
  have kept := (settle_kept (engineLost (faulting .engine k e))).ports
  exact ⟨lost.settled.congr rfl rfl rfl, within.settingsKept, kept.trans ports, within.same .clock (by decide)⟩

theorem EngineLost.finish {s : State} {e : Ev} (h : EngineLost s e.st) : EngineLost s e.finish :=
  ⟨h.printing, h.abort, h.grant, h.drops, h.uncertain, h.hold, h.scan⟩

/-! ### The acknowledge timer -/

/-- The event in which the acknowledge timer has run out (R119, log 3). -/
def ackDue (d : Nat) (s : State) : Ev :=
  ((Ev.begin s).mapClock (TimeBase.reach d)).mapMedia fun m => { m with hold := { m.hold with ackTimer := none } }

theorem started_ack {s : State} {d : Nat} (timer : s.media.hold.ackTimer = some d) :
    started .holdAckExpiry s = recordFault .engine .holdIgnored none (ackDue d s) :=
  started_expiry (c := .holdAckExpiry) (due := fun s => s.media.hold.ackTimer) rfl rfl timer

theorem ackDue_orders (d : Nat) (s : State) (ps : Ports) : ordersDiffer s { (ackDue d s).st with ports := ps } = false := by
  simp [ordersDiffer, State.holdOrder, State.feedTo, State.capOrder, State.printing, ackDue]

theorem holdFaults_holds : holdFaults := by
  refine ⟨fun s tag served other stops => ?_, fun s d run held timer => ⟨fun stops => ?_, fun stops => ?_⟩⟩
  · refine exec_noted served stops ((taken_none (f := fun q e => if e.st.media.hold.state = .requested then
      (holdTaken e, Reply.ok []) else (recordFault .engine .unexpectedHold (some q.header) e, Reply.refuse .wrongState))
      rfl).trans (if_neg other))
  · exact exec_silent (c := .holdAckExpiry) rfl run ((started_ack timer).trans
      (recordFault_quiet .engine .holdIgnored none (ackDue d s) held stops)) rfl (ackDue_orders d s _) rfl
  · have stopped := (started_ack timer).trans (recordFault_stops .engine .holdIgnored none (ackDue d s) held stops)
    have settings : SettingsKept s (eventOf .holdAckExpiry s) := (eventOf_within .holdAckExpiry s).settingsKept
    have ran := exec_run (c := .holdAckExpiry) rfl run
    obtain ⟨lost, -, ports, clock⟩ := faulted_engine (k := .holdIgnored)
      (e := (ackDue d s).modifyPort .engine (PortUnit.note .holdIgnored none (ackDue d s).st.now))
    have ends : eventOf .holdAckExpiry s = (enterFaulted .engine .holdIgnored
        ((ackDue d s).modifyPort .engine (PortUnit.note .holdIgnored none (ackDue d s).st.now))).close.finish := by
      rw [← stopped]
      rfl
    generalize (enterFaulted _ _ _).close = e at ends lost ports clock
    have unit := finish_unit_kept e .engine
    rw [ports, stopped_unit, if_pos rfl, modifyPort_ports, unit_modifyUnit_self, note_kept] at unit
    rw [ends] at ran settings
    refine ⟨_, ran, (congrArg (·.state) unit :), clock, ?_, lost.finish.congr rfl rfl rfl, settings⟩
    exact (congrArg (·.status[FaultKind.index .holdIgnored]) unit).trans (modifyAt_self _ _ _)

/-! ### The pause timer -/

section
variable {α : Type} {g : Attempt → α} {x f : Ev} {r : CopyRef} {cause : EndCause}

/-- An attempt whose printing has ended in the event, at its end (R12). -/
theorem ended_settled (blind : MarkBlind g) (unbooked : ∀ (a : Attempt) (b : Option Booking), g { a with booked := b } = g a)
    (paused : f.st.media.pause = none ∨ ∀ (a : Attempt) (p : Nat), g { a with accruedPause := p } = g a)
    (current : x.st.printing = some r) (after : (endPrinting cause x).Follows g f) {j j' : Job} {c c' : CopyRecord}
    (here : x.st.attempt? r = some (j, c)) (later : (settle f).st.attempt? r = some (j', c')) :
    c'.state ≠ .printing ∧ ∃ n, (x.st.media.pause = none → n = c.record.accruedPause) ∧
      g c'.record = g { c.record with
        accruedPause := n, ended := some { time := x.st.now, pos := x.st.media.pos }, endCause := some cause } := by
  obtain ⟨j₁, n, mid, same⟩ := endedAt_attempt cause current here
  have follows := ((endedAt_follows blind (cause := cause) current).trans after).trans (settle_follows f unbooked paused)
  obtain ⟨state, view⟩ := follows.attempt mid later
  exact ⟨fun prints => by simpa [CopyRecord.endPrinting] using state.1 prints, n, same, view⟩

/-- The same, of how it ended. -/
theorem ending_settled (current : x.st.printing = some r) (after : (endPrinting cause x).Follows Attempt.ending f)
    {j j' : Job} {c c' : CopyRecord} (here : x.st.attempt? r = some (j, c))
    (later : (settle f).st.attempt? r = some (j', c')) :
    c'.state ≠ .printing ∧ c'.record.endCause = some cause ∧
      c'.record.ended = some { time := x.st.now, pos := x.st.media.pos } := by
  obtain ⟨state, n, -, view⟩ := ended_settled markBlind_ending (fun _ _ => rfl) (.inr fun _ _ => rfl) current after
    here later
  exact ⟨state, Prod.mk.inj view⟩

end

theorem endPause_pause (e : Ev) : (endPause e).st.media.pause = none := by
  unfold endPause
  split <;> rfl

theorem endPrinting_pause {e : Ev} {r : CopyRef} (cause : EndCause) (current : e.st.printing = some r) :
    (endPrinting cause e).st.media.pause = none := by
  have ended : (endedAt cause r e).st.media.pause = none := endPause_pause e
  rw [endPrinting_some current, mayClose_st]
  split
  · exact ended
  · exact (endMarks_within _ r).held.2.trans ended

/-- The schedule once the printing of the grant has ended (R85, R95, R101). -/
theorem endPrinting_endedSchedule {s : State} {g : Grant} (grant : s.sched.grant = some g) (cause : EndCause)
    (r : CopyRef) : Schedule.endPrinting cause r s.sched =
      { endedSchedule s g with abort := if cause.ordersAbort then some r else s.sched.abort } := by
  simp [Schedule.endPrinting, endedSchedule, grant]

/-- The printing attempt at the limit of its pause, which is over (R123, log 29). -/
theorem exhaustPause_some {e : Ev} {r : CopyRef} (current : e.st.printing = some r) : exhaustPause e =
    (e.mapMedia fun m => { m with pause := none }).modifyAttempt r fun a => { a with accruedPause := a.pauseLimit } := by
  unfold exhaustPause
  rw [current]

/-- The end of a printing by its pause, at the end of the event (R12, R85, R101, R123). -/
theorem pauseExpires_ends {e : Ev} {g : Grant} (grant : e.st.sched.grant = some g) (prints : g.printing = true) :
    (pauseExpires e).st.sched = { endedSchedule e.st g with abort := some g.ref } ∧
      (pauseExpires e).st.media.pause = none ∧
      ∀ j c j' c', e.st.attempt? g.ref = some (j, c) → (pauseExpires e).st.attempt? g.ref = some (j', c') →
        c'.state ≠ .printing ∧ c'.record.accruedPause = c.record.pauseLimit ∧
        c'.record.endCause = some .pauseExpired ∧
        c'.record.ended = some { time := e.st.now, pos := e.st.media.pos } := by
  have current : e.st.printing = some g.ref := printing_of_grant grant prints
  let spent : Ev := (e.mapMedia fun m => { m with pause := none }).modifyAttempt g.ref fun a =>
    { a with accruedPause := a.pauseLimit }
  have is : pauseExpires e = settle (runHead (endPrinting .pauseExpired spent)) := by
    show settleMarks (endPrinting .pauseExpired (exhaustPause e)) = _
    rw [exhaustPause_some current]
    rfl
  have head := runHead_within (endPrinting .pauseExpired spent)
  have idle : (runHead (endPrinting .pauseExpired spent)).st.media.pause = none :=
    head.held.2.trans (endPrinting_pause .pauseExpired (e := spent) current)
  have marked : (runHead (endPrinting .pauseExpired spent)).st.sched = (endPrinting .pauseExpired spent).st.sched :=
    head.same .sched (by decide)
  have sched : (runHead (endPrinting .pauseExpired spent)).st.sched =
      { endedSchedule e.st g with abort := some g.ref } := by
    rw [marked, endPrinting_sched (e := spent) current]
    exact endPrinting_endedSchedule (s := e.st) grant .pauseExpired g.ref
  have still : (runHead (endPrinting .pauseExpired spent)).st.printing = none :=
    head.printing.trans (endPrinting_printing_none _ _)
  have after := runHead_follows markBlind_pausedEnding (endPrinting .pauseExpired spent)
  rw [is]
  refine ⟨(settle_kept _).sched.trans sched, ?_, fun j c j' c' here later => ?_⟩
  · have pause := (settle_inStep (runHead (endPrinting .pauseExpired spent))).pause
    rw [show (settle (runHead (endPrinting .pauseExpired spent))).st.printing = none from
      (settle_within _).printing.trans still] at pause
    simpa [Option.isSome_iff_ne_none] using pause
  · obtain ⟨state, n, same, view⟩ := ended_settled markBlind_pausedEnding (fun _ _ => rfl) (.inl idle) (x := spent)
      current after (attempt?_modifyAttempt (e := e.mapMedia fun m => { m with pause := none }) _ here) later
    obtain ⟨ending, paused⟩ := Prod.mk.inj view
    exact ⟨state, paused.trans (same rfl), Prod.mk.inj ending⟩

/-- Settles O40: the hold's faults are recorded, and the pause's expiry ends the printing. -/
theorem holdAndPauseTimers : Obligations.HoldAndPauseTimers := by
  refine ⟨holdFaults_holds, fun s q g run runs grant prints => ?_⟩
  have does : started .pauseExpiry s = pauseExpires ((Ev.begin s).mapClock (TimeBase.reach q.due)) :=
    started_expiry (c := .pauseExpiry) (due := fun s => s.media.pause.map (·.due)) rfl rfl (by rw [runs]; rfl)
  have expired := pauseExpires_within ((Ev.begin s).mapClock (TimeBase.reach q.due))
  have within : (Ev.begin s).Within (.clock :: .mono :: ([.sched, .grant] ++ settleMarkParts))
      (pauseExpires ((Ev.begin s).mapClock (TimeBase.reach q.due))) := (reach_within _ _).comp expired
  have quiet : (pauseExpires ((Ev.begin s).mapClock (TimeBase.reach q.due))).lost = false := settleMarks_lost _
  have clock : (pauseExpires ((Ev.begin s).mapClock (TimeBase.reach q.due))).st.clock =
      s.clock.advance (q.due - s.clock.mono) := expired.same .clock (by decide)
  obtain ⟨sched, pause, ends⟩ := pauseExpires_ends (e := (Ev.begin s).mapClock (TimeBase.reach q.due)) grant prints
  have ran := exec_started (c := .pauseExpiry) rfl run does quiet
  generalize pauseExpires ((Ev.begin s).mapClock (TimeBase.reach q.due)) = e at ran sched pause ends within clock
  refine ⟨_, ran, clock, sched, pause, fun j c j' c' here later => ?_, within.settingsKept.finish,
    within.same .scan (by decide), within.same .meter (by decide), within.same .bays (by decide),
    within.same .pos (by decide), within.same .rolls (by decide), Prod.ext within.pins within.pending⟩
  obtain ⟨state, accrued, cause, ended⟩ := ends j c j' c' here later
  exact ⟨state, accrued, cause, ended.trans
    (congrArg (fun k : TimeBase => some ({ time := k.mono, pos := s.media.pos } : Stamp)) clock.symm)⟩

end Sys2Proof.Machine
end

section
/-! The resets of the three ports, and a held port (9.7, O20). -/

namespace Sys2Proof.Machine

-- One proof after another: the stacks of many waiting threads do not fit the memory of one compile.
set_option Elab.async false

/-! ### A held port -/

/-- What a port keeps while it is held: its queue, its fault record and its state (R179). -/
def PortUnit.record (u : PortUnit) :
    (List Entry × Bool) × (Vector FaultStatus 11 × Option Capture × Bool) × PortState :=
  ((u.queue, u.wrapped), (u.status, u.capture, u.multiple), u.state)

/-- A port is held, and its record is this unit's. -/
def Keeping (p : Port) (u : PortUnit) (e : Ev) : Prop :=
  e.st.portHeld p = true ∧ (e.st.ports.unit p).record = u.record

namespace Keeping

variable {p q : Port} {u : PortUnit} {e e' : Ev}

theorem within {w : List Part} (h : e.Within w e') (out : .ports ∉ w) (sound : Keeping p u e) : Keeping p u e' :=
  ⟨(congrArg (Pins.portReset · p) h.pins :).trans sound.1,
    (congrArg (fun ps : Ports => (ps.unit p).record) (h.same .ports out :) :).trans sound.2⟩

theorem mapPorts {f : Ports → Ports} (same : (f e.st.ports).unit p = e.st.ports.unit p) (sound : Keeping p u e) :
    Keeping p u (e.mapPorts f) := by
  refine ⟨sound.1, ?_⟩
  rw [mapPorts_ports, same]
  exact sound.2

/-- A change of one unit, another one or without effect on the record. -/
theorem modifyPort {f : PortUnit → PortUnit} (same : q = p → (f (e.st.ports.unit p)).record = (e.st.ports.unit p).record)
    (sound : Keeping p u e) : Keeping p u (e.modifyPort q f) := by
  refine ⟨sound.1, ?_⟩
  rw [modifyPort_ports, unit_modifyUnit]
  split
  · next here => exact (same here.symm).trans sound.2
  · exact sound.2

theorem other (sound : Keeping p u e) (free : e.st.portHeld q = false) : q ≠ p := fun here => by
  rw [here, sound.1] at free
  cases free

theorem fault (k : FaultKind) (h : Option Header) (sound : Keeping p u e) : Keeping p u (recordFault q k h e) := by
  cases free : e.st.portHeld q with
  | true =>
    rw [recordFault_held _ _ _ _ free]
    exact sound
  | false =>
    have other := sound.other free
    have noted : Keeping p u (e.modifyPort q (PortUnit.note k h e.st.now)) :=
      sound.modifyPort fun here => absurd here other
    unfold recordFault
    rw [if_neg (by simp [free])]
    dsimp only
    split
    · have pins := (enterFaulted_within (e.modifyPort q (PortUnit.note k h e.st.now)) q k).pins
      refine ⟨(congrArg (Pins.portReset · p) pins :).trans sound.1, ?_⟩
      rw [enterFaulted_ports, stopped_unit, if_neg (Ne.symm other)]
      exact noted.2
    · exact noted

end Keeping

theorem keeping_ported (p : Port) (u : PortUnit) : Ported (Keeping p u) where
  within := Keeping.within
  fault _ _ k h sound := sound.fault k h

theorem keeping_tour (p : Port) (u : PortUnit) : Tour (Keeping p u) where
  transfer e q f moved sound := sound.modifyPort fun here => by
    subst here
    rw [moved.rest]
    rfl
  read e q count sound := by
    unfold readFrom
    split
    · exact sound
    · refine Keeping.mapPorts ?_ (sound.modifyPort fun _ => rfl)
      split
      · cases p <;> rfl
      · rfl
  fault _ _ k h sound := sound.fault k h
  take e k q sound _ free := by
    have other := sound.other free
    refine (keeping_ported p u).take sound k q (fun _ => ?_) (fun _ => ?_) (fun _ => ?_) fun _ => ?_
    · exact withRead_keeps sound fun x _ => sound.modifyPort fun _ => rfl
    · exact withNone_keeps sound (sound.modifyPort fun here => absurd here other)
    · exact withRead_keeps sound fun x _ => sound.modifyPort fun _ => rfl
    · refine withNone_keeps sound (Keeping.mapPorts ?_ (sound.modifyPort fun here => absurd here other))
      exact Ports.clearSummary_unit _ _ _

theorem resetPort_keeping {p q : Port} {u : PortUnit} {e : Ev} (other : q ≠ p) (sound : Keeping p u e) :
    Keeping p u (resetPort q e) := by
  have reset : Keeping p u (e.modifyPort q (PortUnit.portReset q)) := sound.modifyPort fun here => absurd here other
  unfold resetPort
  dsimp only
  split
  · exact Keeping.mapPorts (by cases p <;> rfl) (reset.within (engineLost_within _) (by decide))
  · exact reset

/-- A command moves no line of a port but by its reset or release. -/
theorem lineMoved_held {c : Instr} {p : Port} {pins : Pins} (held : pins.portReset p = true)
    (release : c ≠ .portResetRelease p) : (lineMoved c pins).portReset p = true := by
  cases c
  case portReset q => cases p <;> cases q <;> first | rfl | exact held
  case portResetRelease q => cases p <;> cases q <;> first | exact absurd rfl release | exact held
  all_goals exact held

/-- The release of a port's reset moves its line. -/
theorem exec_portResetRelease (s : State) (p : Port) :
    exec (.portResetRelease p) s = .next { s with pins := s.pins.setPortReset p false } := by
  cases reset : s.pins.reset with
  | true => exact exec_held rfl reset
  | false =>
    exact exec_silent (c := .portResetRelease p) (e := Ev.moved (Pins.setPortReset p false) s) rfl reset rfl rfl
      (ordersDiffer_same _ _ rfl rfl) rfl

/-- No command but its own reset reaches the record of a held port (R179). -/
theorem exec_keeping {c : Instr} {s t : State} {p : Port} (held : s.portHeld p = true) (ran : exec c s = .next t)
    (reset : c ≠ .portReset p) (release : c ≠ .resetRelease) :
    (t.ports.unit p).record = (s.ports.unit p).record := by
  by_cases let_ : c = .portResetRelease p
  · subst let_
    rw [exec_portResetRelease] at ran
    cases ran
    rfl
  · refine exec_cases (P := fun t => (t.ports.unit p).record = (s.ports.unit p).record) ran ?_ ?_ ?_ ?_ ?_
    · intro _ _
      have begun : Keeping p (s.ports.unit p) (Ev.moved (lineMoved c) s) := ⟨lineMoved_held held let_, rfl⟩
      have went : Keeping p (s.ports.unit p) (started c s) :=
        (keeping_tour p _).effect c _ (fun own sound => (keeping_ported p _).effect sound c own fun q is =>
          resetPort_keeping (fun here => reset (is.trans (congrArg Instr.portReset here))) sound) begun rfl
      obtain ⟨held, same⟩ := went.within (close_within _) (by decide)
      rw [eventOf, finish_unit, held]
      exact same
    · exact fun _ _ => rfl
    · intro _
      cases p <;> rfl
    · exact fun is => absurd is release
    · exact fun _ => rfl

/-- An event that changes nothing. -/
theorem exec_idle {c : Instr} {s : State} (inEvent : outOfEvents c = false) (line : lineMoved c s.pins = s.pins)
    (does : s.pins.reset = false → started c s = Ev.begin s) : exec c s = .next s := by
  cases reset : s.pins.reset with
  | true =>
    rw [exec_held inEvent reset, line]
  | false =>
    exact exec_silent inEvent reset (does reset) rfl (ordersDiffer_self s) rfl

/-- A held port takes no transfer (R179). -/
theorem requestTransfer_held {s : State} {p : Port} {bytes : List Byte} {h : Header} {n : Nat} {discard : Bool}
    {go : Ev → Ev} (held : s.portHeld p = true) :
    requestTransfer p bytes (arrive p h n discard go) (Ev.begin s) = Ev.begin s := by
  unfold requestTransfer
  split
  · exact arrive_held _ _ _ _ _ _ held
  · unfold readFrom
    rw [if_pos (by rw [Bool.or_eq_true_iff]; exact .inl held)]

theorem heldPort_holds : heldPort := by
  intro s p held
  refine ⟨fun k tag pl => ?_, fun bytes => ⟨exec_idle rfl rfl fun _ => requestTransfer_held held,
    exec_idle rfl rfl fun _ => requestTransfer_held held⟩, fun count => exec_idle rfl rfl fun _ => ?_,
    fun c t ran reset release => ?_, ?_⟩
  · rw [exec_command]
    refine congrArg Host.Outcome.next ?_
    cases reset : s.pins.reset with
    | true => exact event_reset _ _ reset
    | false =>
      rw [request, event_run _ _ reset, arrive_held _ _ _ _ _ _ held]
      exact finish_quiet _ rfl (ordersDiffer_self s)
  · show readFrom p count (Ev.begin s) = _
    unfold readFrom
    rw [if_pos (by rw [Bool.or_eq_true_iff]; exact .inl held)]
  · have kept := exec_keeping held ran reset release
    simp only [PortUnit.record, Prod.mk.injEq, and_assoc] at kept
    exact kept
  · simp [State.attn, held]

/-! ### The reset of a port -/

theorem moved_orders (s : State) (line : Pins → Pins) (ps : Ports) :
    ordersDiffer s { (Ev.moved line s).st with ports := ps } = false := ordersDiffer_same _ _ rfl rfl

theorem jobAndDeskReset_holds : jobAndDeskReset := by
  refine ⟨fun s p run other => ?_, fun s p => exec_portResetRelease s p⟩
  have does : started (.portReset p) s = (Ev.moved (Pins.setPortReset p true) s).modifyPort p (PortUnit.portReset p) :=
    if_neg other
  exact exec_silent rfl run does rfl (moved_orders s _ _) rfl

/-- The event of the Engine port's reset, before the consequences (R102, R179). -/
def engineDown (s : State) : Ev :=
  (engineLost ((Ev.moved (Pins.setPortReset .engine true) s).modifyPort .engine (PortUnit.portReset .engine))).mapPorts
    fun ps => { ps with orderChange := true }

theorem engineDown_within (s : State) : (Ev.moved (Pins.setPortReset .engine true) s).Within
    (.portSettings :: faultParts) (engineDown s) := resetPort_within _ .engine

theorem engineDown_loses (s : State) : (engineDown s).Loses s := by
  obtain ⟨sched, drops, bays, scan, hold⟩ := engineLost_loses
    ((Ev.moved (Pins.setPortReset .engine true) s).modifyPort .engine (PortUnit.portReset .engine))
  exact ⟨sched, drops, bays, scan, hold⟩

theorem engineDown_ports (s : State) : (engineDown s).st.ports =
    { s.ports.modifyUnit .engine (PortUnit.portReset .engine) with orderChange := true } := by
  have ports := (engineLost_within ((Ev.moved (Pins.setPortReset .engine true) s).modifyPort .engine
    (PortUnit.portReset .engine))).same .ports (by decide)
  exact congrArg (fun ps : Ports => { ps with orderChange := true }) ports

/-- Past the end of its printing, the loss of the engine leaves how an attempt ended (R102). -/
theorem abandoned_follows {α : Type} {g : Attempt → α} (blind : MarkBlind g) (e : Ev) :
    (endPrinting .engineLost e).Follows g (engineLost e) := by
  rw [engineLost_eq]
  refine .then_within (setLost_within _ true) <| .then_within (holdFallback_within _) <|
    .trans ?_ (runHead_follows blind _)
  exact .then_within (triggerScan_within _ .desk) (.of_sameFiled fun n => job?_congr rfl n)

theorem engineReset_holds : engineReset := by
  intro s run
  have ran := exec_run (c := .portReset .engine) rfl run
  have ends : eventOf (.portReset .engine) s = (settle (engineDown s)).finish := by
    rw [← close_lost (engineDown s) rfl]
    rfl
  have within : (Ev.moved (Pins.setPortReset .engine true) s).Within (.portSettings :: faultParts ++ settleParts)
      (settle (engineDown s)) := (engineDown_within s).comp (settle_within _)
  have lost := (engineDown_loses s).settled
  have kept := settle_kept (engineDown s)
  have sched := kept.sched.trans (engineDown_loses s).sched
  have scan := kept.scan.trans (engineDown_loses s).scan
  have ports := kept.ports.trans (engineDown_ports s)
  have after : (endPrinting .engineLost ((Ev.moved (Pins.setPortReset .engine true) s).modifyPort .engine
      (PortUnit.portReset .engine))).Follows Attempt.ending (engineDown s) :=
    .then_within (setPorts_within _ _) (abandoned_follows markBlind_ending _)
  have ended := fun r (current : s.printing = some r) j c j' c' (here : s.attempt? r = some (j, c)) =>
    ending_settled (j' := j') (c' := c') (x := (Ev.moved (Pins.setPortReset .engine true) s).modifyPort .engine
      (PortUnit.portReset .engine)) current after here
  rw [ends] at ran
  generalize settle (engineDown s) = e at ran within lost sched scan ports ended
  have unit := finish_unit e .engine
  have held : e.st.portHeld .engine = true := congrArg Pins.engineReset within.pins
  rw [held, ports] at unit
  refine ⟨_, ran, lost.finish, ?_, unit, ?_, fun r current => ⟨?_, ?_, fun j c j' c' here later => ?_⟩,
    fun idle => ⟨?_, ?_⟩, fun idle => ?_, within.pins, within.same .clock (by decide), within.pending,
    within.same .inkSettings (by decide), within.same .pathSettings (by decide), within.same .locked (by decide),
    within.same .roster (by decide), within.same .pos (by decide), within.same .rolls (by decide)⟩
  · rw [finish_orderChange, ports]
    rfl
  · rw [finish_sched, sched]
  · rw [finish_sched, sched, current]
    rfl
  · rw [finish_sched, sched, current]
    rfl
  · obtain ⟨-, cause, at_⟩ := ended r current j c j' c' here later
    exact ⟨cause, at_⟩
  · rw [finish_sched, sched, idle]
    rfl
  · rw [finish_sched, sched, idle]
    rfl
  · rw [finish_scan, scan, idle]
    rfl

/-- Settles O20: a port's reset empties its unit, and what is held waits. -/
theorem portResets : Obligations.PortResets := ⟨jobAndDeskReset_holds, engineReset_holds, heldPort_holds⟩

end Sys2Proof.Machine
end

section
/-! A step of the feed (6.1, 6.3 to 6.5, O52 and O53). -/

namespace Sys2Proof.Machine

-- One proof after another: the stacks of many waiting threads do not fit the memory of one compile.
set_option Elab.async false

/-! ### An end of event without bookings -/

theorem settleAccounts_none {e : Ev} (stands : ∀ i, e.accountStands i) : settleAccounts e = e :=
  foldl_keeps (fun x => x = e) _ _ e (fun _ i is => by rw [is]; exact evalOverrun_stands (stands i)) rfl

/-- Where no attempt waits to be examined and no account has changed, none changes at the end. -/
theorem settle_within_unbooked {e : Ev} (due : e.due = []) (cost : e.st.cost = e.start.cost) :
    e.Within ([.hold, .grip, .lost] ++ roundParts) (settle e) := by
  have ink := settleInk_within { e with lost := false }
  have same : (settleInk { e with lost := false }).st.cost = e.st.cost := ink.same .cost (by decide)
  have start : (settleInk { e with lost := false }).start = e.start := ink.start
  have books : settleBooks e = settleInk { e with lost := false } := by
    unfold settleBooks
    rw [settleCloses_none (e := { e with lost := false }) due]
    refine settleAccounts_none fun i => ?_
    unfold Ev.accountStands
    rw [same, start, cost]
    exact ⟨rfl, rfl, rfl⟩
  rw [settle_eq, books]
  exact .after (syncPause_within _) <| .after (syncHold_within _) <| .after ink <|
    .after (setLost_within e false) (.refl _ _)

/-! ### The count of a step -/

/-- The rolls after a step (R111, R112). -/
def Media.rollsStepped (d : Direction) (m : Media) : Vector Roll 2 :=
  match m.feeding with
  | none => m.rolls
  | some (n, f) => m.rolls.set n.val (match d with | .forward => f.stepped | .reverse => .mounted f.reverse) n.isLt

/-- The position after a step (R111). -/
def Media.posStepped (d : Direction) (m : Media) : Pos :=
  match d with
  | .forward => m.pos + 1
  | .reverse => m.pos - 1

theorem countStep_st (d : Direction) (e : Ev) : (countStep d e).st =
    { e.st with media := { e.st.media with pos := e.st.media.posStepped d, rolls := e.st.media.rollsStepped d } } := by
  unfold countStep Media.posStepped Media.rollsStepped
  cases d
  · cases e.st.media.feeding with
    | none => rfl
    | some x =>
      dsimp only
      split_ifs <;> rfl
  · cases e.st.media.feeding <;> rfl

theorem rollsStepped_none {d : Direction} {m : Media} (none_ : m.feeding = none) : m.rollsStepped d = m.rolls := by
  unfold Media.rollsStepped
  rw [none_]

theorem rollsStepped_forward {m : Media} {n : Fin 2} {f : RollFigures} (feeds : m.feeding = some (n, f)) :
    m.rollsStepped .forward = m.rolls.set n.val f.stepped n.isLt := by
  unfold Media.rollsStepped
  rw [feeds]

theorem rollsStepped_reverse {m : Media} {n : Fin 2} {f : RollFigures} (feeds : m.feeding = some (n, f)) :
    m.rollsStepped .reverse = m.rolls.set n.val (.mounted f.reverse) n.isLt := by
  unfold Media.rollsStepped
  rw [feeds]

/-- The roll that a forward step does not exhaust (R111, R112). -/
theorem stepped_mounted {f : RollFigures} (more : 1 < f.remaining) : f.stepped = .mounted
    { f with
      remaining := f.remaining - 1
      netFed := f.netFed + 1
      lowNoticed := f.lowNoticed || (20000 ≤ f.remaining && f.remaining - 1 < 20000) } := by
  have rest : f.remaining - 1 ≠ 0 := by omega
  unfold RollFigures.stepped RollFigures.forward RollFigures.crossesLow
  dsimp only
  rw [if_neg rest]
  cases f.lowNoticed <;> simp

/-! ### The head mark, while the hold is not TAKEN -/

/-- The head of the list fires where the path has reached it (R116). -/
def firedAt (q : Pos) : List Mark → List Mark := modifyHead fun m => { m with fired := m.fired || reached q m.pos }

theorem runHead_untaken {e : Ev} (untaken : e.st.media.hold.state ≠ .taken) :
    runHead e = e.mapMedia fun x => { x with marks := firedAt e.st.media.pos x.marks } := by
  have same (marks : firedAt e.st.media.pos e.st.media.marks = e.st.media.marks) :
      e = e.mapMedia fun x => { x with marks := firedAt e.st.media.pos x.marks } :=
    congrArg (fun l => e.mapMedia fun x => { x with marks := l }) marks.symm
  unfold runHead runHeadFrom
  split
  · next empty => exact same (by rw [empty]; rfl)
  · next m ms marks =>
    split_ifs with stays
    · refine same ?_
      rw [marks]
      refine congrArg (· :: ms) ?_
      show { m with fired := _ } = m
      rcases Bool.or_eq_true_iff.1 stays with fired | unreached
      · rw [fired, Bool.true_or, ← fired]
      · rw [show reached e.st.media.pos m.pos = false by simpa using unreached, Bool.or_false]
    · have fires : (m.fired || reached e.st.media.pos m.pos) = true := by
        cases fired : m.fired <;> simp_all
      have head : modifyHead (fun m => { m with fired := true }) e.st.media.marks = firedAt e.st.media.pos e.st.media.marks := by
        rw [marks, firedAt, modifyHead, modifyHead, fires]
      exact congrArg (fun l => e.mapMedia fun x => { x with marks := l }) head

/-! ### The step -/

section
variable {s : State} {d : Direction}

/-- The event of a step, its paper counted and its roll examined. -/
def pacing (d : Direction) (e : Ev) : Ev :=
  if e.st.media.exhausts d then endPrinting .mediaOut (countStep d e) else countStep d e

theorem feed_forward (e : Ev) : feed .forward e = settle (feedFault e.st.held (runHead (pacing .forward e))) := rfl

theorem feed_reverse (e : Ev) : feed .reverse e = feedFault e.st.held (countStep .reverse e) := rfl

theorem feedFault_untaken {s : State} {f : Ev} (untaken : s.media.hold.state ≠ .taken) : feedFault s.held f = f := by
  have unheld : s.held = false := by simp [State.held, untaken]
  rw [feedFault, unheld]
  rfl

end

theorem exhausts_false {m : Media} (more : ∀ n f, m.feeding = some (n, f) → 1 < f.remaining) :
    m.exhausts .forward = false := by
  unfold Media.exhausts
  cases feeds : m.feeding with
  | none => rfl
  | some x =>
    have left := more x.1 x.2 feeds
    simp only [beq_eq_false_iff_ne]
    omega

/-- The event of a forward step that leaves the hold untaken and paper on the roll, before its consequences. -/
def striding (s : State) : Ev :=
  (countStep .forward (Ev.begin s)).mapMedia fun x => { x with marks := firedAt (s.media.pos + 1) x.marks }

theorem striding_within (s : State) : (Ev.begin s).Within [.media, .marks, .pos, .rolls, .raised] (striding s) :=
  .after (mapMarks_within _ rfl) <| .after (countStep_within _ .forward) (.refl _ _)

theorem striding_media (s : State) : (striding s).st.media =
    { s.media with
      pos := s.media.pos + 1
      rolls := s.media.rollsStepped .forward
      marks := firedAt (s.media.pos + 1) s.media.marks } := by
  have media := congrArg State.media (countStep_st .forward (Ev.begin s))
  exact congrArg (fun m : Media => { m with marks := firedAt (s.media.pos + 1) m.marks }) media

theorem started_forward {s : State} (untaken : s.media.hold.state ≠ .taken) (stays : s.media.exhausts .forward = false) :
    started (.feedStep .forward) s = settle (striding s) := by
  have paced : pacing .forward (Ev.begin s) = countStep .forward (Ev.begin s) := if_neg (by simp [stays])
  have media : (countStep .forward (Ev.begin s)).st.media =
      { s.media with pos := s.media.pos + 1, rolls := s.media.rollsStepped .forward } := by
    rw [countStep_st]
    rfl
  show feed .forward (Ev.begin s) = _
  rw [feed_forward, feedFault_untaken (s := (Ev.begin s).st) untaken, paced, runHead_untaken (by rw [media]; exact untaken), media]
  rfl

theorem striding_settled {s t : State} {f : Ev} (within : (striding s).Within ([.hold, .grip, .lost] ++ roundParts) f)
    (hold : f.st.media.hold = (striding s).st.media.hold.follow (striding s).st.now
      (striding s).st.media.settings.ackLimit f.st.holdReasons) (is : t = f.finish) :
    t.media.pos = s.media.pos + 1 ∧ t.media.rolls = s.media.rollsStepped .forward ∧
      t.media.marks = firedAt (s.media.pos + 1) s.media.marks ∧
      t.media.hold = s.media.hold.follow s.now s.media.settings.ackLimit t.holdReasons ∧
      t.media = { s.media with
                  pos := t.media.pos, rolls := t.media.rolls, marks := t.media.marks,
                  hold := t.media.hold, pause := t.media.pause } ∧
      SettingsKept s t ∧ t.ink.bays = s.ink.bays ∧ t.meter = s.meter ∧ t.scan = s.scan ∧
      t.sched = s.sched ∧ t.cost = s.cost ∧ t.colour = s.colour ∧ t.clock = s.clock ∧
      t.outside = s.outside := by
  subst is
  have whole := (striding_within s).comp (v := [.media, .marks, .pos, .rolls, .hold, .grip, .lost] ++ roundParts) within
  have media : f.st.media.sameButHold (striding s).st.media := within.same .media (by decide)
  have clock : (striding s).st.clock = s.clock := (striding_within s).same .clock (by decide)
  unfold Media.sameButHold at media
  rw [striding_media] at media hold
  refine ⟨by rw [finish_media, media], by rw [finish_media, media], by rw [finish_media, media], ?_, ?_,
    whole.settingsKept.finish, whole.same .bays (by decide), whole.same .meter (by decide),
    whole.same .scan (by decide), whole.same .sched (by decide), whole.same .cost (by decide),
    whole.same .colour (by decide), whole.same .clock (by decide), Prod.ext whole.pins whole.pending⟩
  · exact hold.trans (congrArg (fun k : TimeBase => s.media.hold.follow k.mono s.media.settings.ackLimit f.st.holdReasons)
      clock)
  · rw [finish_media, media]

/-- Settles O52: a step of the feed outside a TAKEN hold. -/
theorem feedSteps : Obligations.FeedSteps := by
  intro s run untaken
  refine ⟨?_, fun more => ?_⟩
  · have does : started (.feedStep .reverse) s = countStep .reverse (Ev.begin s) := by
      show feed .reverse (Ev.begin s) = _
      rw [feed_reverse, feedFault_untaken (s := (Ev.begin s).st) untaken]
    have within := countStep_within (Ev.begin s) .reverse
    have after := countStep_st .reverse (Ev.begin s)
    have ran := exec_silent rfl run does (within.same .lost (by decide))
      (by rw [after]; exact ordersDiffer_media rfl rfl rfl) ?_
    · rw [after] at ran
      refine ⟨_, ran, rfl, fun none_ => rollsStepped_none (d := .reverse) none_, fun n f feeds => (rollsStepped_reverse feeds).trans ?_⟩
      unfold RollFigures.reverse
      rfl
    · unfold countStep
      dsimp only
      split <;> rfl
  · have ran := exec_started rfl run (started_forward untaken (exhausts_false more)) (settle_lost _)
    have cost : (striding s).st.cost = s.cost := (striding_within s).same .cost (by decide)
    have start : (striding s).start = s := (striding_within s).start
    have within := settle_within_unbooked (e := striding s) ((striding_within s).same .due (by decide))
      (cost.trans (congrArg State.cost start.symm))
    have hold := settle_hold (striding s)
    generalize settle (striding s) = f at ran within hold
    obtain ⟨pos, rolls, marks, held, rest⟩ := striding_settled within hold rfl
    refine ⟨_, ran, pos, fun none_ => rolls.trans (rollsStepped_none none_), fun n f feeds => ?_,
      fun m ms here => marks.trans (by rw [here]; rfl), fun none_ => marks.trans (by rw [none_]; rfl), held, rest⟩
    rw [rolls, rollsStepped_forward feeds, stepped_mounted (more n f feeds)]

/-! ### The end of the roll -/

theorem countStep_attempt? (d : Direction) (e : Ev) (r : CopyRef) : (countStep d e).st.attempt? r = e.st.attempt? r := by
  rw [countStep_st]
  rfl

theorem countStep_printing (d : Direction) (e : Ev) : (countStep d e).st.printing = e.st.printing := by
  rw [countStep_st]
  rfl

/-- The roll that a forward step exhausts (R111, R112). -/
theorem stepped_exhausted {f : RollFigures} (last : f.remaining = 1) : ∃ f', f.stepped = .exhausted f' ∧
    f'.remaining = 0 ∧ f'.netFed = f.netFed + 1 ∧ f'.declared = f.declared := by
  unfold RollFigures.stepped RollFigures.forward
  simp [last]

theorem exhausts_true {m : Media} {n : Fin 2} {f : RollFigures} (feeds : m.feeding = some (n, f)) (last : f.remaining = 1) :
    m.exhausts .forward = true := by
  unfold Media.exhausts
  rw [feeds]
  simp [last]

/-- The event of the step that exhausts the roll, before its consequences. -/
def runOut (s : State) : Ev := runHead (endPrinting .mediaOut (countStep .forward (Ev.begin s)))

theorem runOut_within (s : State) : (Ev.begin s).Within (.pos :: .rolls :: endParts) (runOut s) :=
  .after (runHead_within _) <| .after (endPrinting_within _ _) <| .after (countStep_within _ .forward) (.refl _ _)

/-- What leaves the path alone leaves its position and its rolls. -/
theorem Ev.Within.path {w : List Part} {e e' : Ev} (h : e.Within w e') (pos : .pos ∉ w := by decide)
    (rolls : .rolls ∉ w := by decide) :
    e'.st.media.pos = e.st.media.pos ∧ e'.st.media.rolls = e.st.media.rolls := ⟨h.same .pos pos, h.same .rolls rolls⟩

theorem countStep_path (d : Direction) (e : Ev) : (countStep d e).st.media.pos = e.st.media.posStepped d ∧
    (countStep d e).st.media.rolls = e.st.media.rollsStepped d := by
  rw [countStep_st]
  exact ⟨rfl, rfl⟩

theorem runOut_path (s : State) :
    (runOut s).st.media.pos = s.media.pos + 1 ∧ (runOut s).st.media.rolls = s.media.rollsStepped .forward := by
  have after : (countStep .forward (Ev.begin s)).Within endParts (runOut s) :=
    .after (runHead_within _) (endPrinting_within _ _)
  obtain ⟨pos, rolls⟩ := countStep_path .forward (Ev.begin s)
  exact ⟨after.path.1.trans pos, after.path.2.trans rolls⟩

theorem started_runOut {s : State} (untaken : s.media.hold.state ≠ .taken) (last : s.media.exhausts .forward = true) :
    started (.feedStep .forward) s = settle (runOut s) := by
  have paced : pacing .forward (Ev.begin s) = endPrinting .mediaOut (countStep .forward (Ev.begin s)) := if_pos last
  show feed .forward (Ev.begin s) = _
  rw [feed_forward, feedFault_untaken (s := (Ev.begin s).st) untaken, paced]
  rfl

/-- The schedule once the roll is out (R85, R101). -/
theorem runOut_sched (s : State) : (s.printing = none → (runOut s).st.sched = s.sched) ∧
    ∀ g, s.sched.grant = some g → g.printing = true →
      (runOut s).st.sched = { endedSchedule s g with abort := some g.ref } := by
  have marked : (runOut s).st.sched = (endPrinting .mediaOut (countStep .forward (Ev.begin s))).st.sched :=
    (runHead_within _).same .sched (by decide)
  have counted : (countStep .forward (Ev.begin s)).st.sched = s.sched := (countStep_within _ _).same .sched (by decide)
  refine ⟨fun idle => ?_, fun g grant prints => ?_⟩
  · rw [marked, endPrinting_none ((countStep_printing _ _).trans idle), counted]
  · rw [marked, endPrinting_sched ((countStep_printing _ _).trans (printing_of_grant grant prints)), counted]
    exact endPrinting_endedSchedule grant .mediaOut g.ref

theorem runOut_ends {s : State} {r : CopyRef} (current : s.printing = some r) {j j' : Job} {c c' : CopyRecord}
    (here : s.attempt? r = some (j, c)) (later : (settle (runOut s)).st.attempt? r = some (j', c')) :
    c'.state ≠ .printing ∧ c'.record.endCause = some .mediaOut ∧
      c'.record.ended = some { time := s.now, pos := s.media.pos + 1 } := by
  obtain ⟨state, cause, ended⟩ := ending_settled (x := countStep .forward (Ev.begin s))
    ((countStep_printing _ _).trans current) (runHead_follows markBlind_ending _)
    ((countStep_attempt? _ _ _).trans here) later
  refine ⟨state, cause, ended.trans ?_⟩
  rw [countStep_st]
  rfl

theorem exhaustingStep {s : State} {n : Fin 2} {f : RollFigures} (run : s.pins.reset = false)
    (feeds : s.media.feeding = some (n, f)) (last : f.remaining = 1) (untaken : s.media.hold.state ≠ .taken) :
    ∃ t : State, exec (.feedStep .forward) s = .next t ∧ t.media.pos = s.media.pos + 1 ∧
      (∃ f', t.media.rolls = s.media.rolls.set n.val (.exhausted f') n.isLt ∧ f'.remaining = 0 ∧
        f'.netFed = f.netFed + 1 ∧ f'.declared = f.declared) ∧
      (s.printing = none → t.sched = s.sched) ∧
      (∀ g, s.sched.grant = some g → g.printing = true →
        t.sched = { endedSchedule s g with abort := some g.ref } ∧
        ∀ j c j' c', s.attempt? g.ref = some (j, c) → t.attempt? g.ref = some (j', c') →
          c'.state ≠ .printing ∧ c'.record.endCause = some .mediaOut ∧
          c'.record.ended = some { time := s.now, pos := s.media.pos + 1 }) ∧
      SettingsKept s t ∧ t.ink.bays = s.ink.bays ∧ t.meter = s.meter ∧ t.scan = s.scan ∧
      t.clock = s.clock ∧ t.outside = s.outside := by
  have ran := exec_started rfl run (started_runOut untaken (exhausts_true feeds last)) (settle_lost _)
  have settled := settle_within (runOut s)
  have whole : (Ev.begin s).Within (.pos :: .rolls :: .lost :: .cost :: .waitList :: .dues :: .channels :: .reserved ::
      .short :: .dry :: .freed :: endParts) (settle (runOut s)) := (runOut_within s).comp settled
  obtain ⟨pos, rolls⟩ := runOut_path s
  obtain ⟨idle, ends⟩ := runOut_sched s
  have attempt := fun g grant prints j c j' c' => runOut_ends (printing_of_grant (s := s) (g := g) grant prints)
    (j := j) (c := c) (j' := j') (c' := c')
  have sched : (settle (runOut s)).st.sched = (runOut s).st.sched := settled.same .sched (by decide)
  obtain ⟨pos', rolls'⟩ := settled.path
  generalize settle (runOut s) = e at ran whole attempt sched pos' rolls'
  obtain ⟨f', out, figures⟩ := stepped_exhausted last
  refine ⟨_, ran, pos'.trans pos, ⟨f', ?_, figures⟩, fun none_ => sched.trans (idle none_), fun g grant prints =>
    ⟨sched.trans (ends g grant prints), fun j c j' c' here later => attempt g grant prints j c j' c' here later⟩,
    whole.settingsKept.finish, whole.same .bays (by decide), whole.same .meter (by decide),
    whole.same .scan (by decide), whole.same .clock (by decide), Prod.ext whole.pins whole.pending⟩
  rw [finish_media, rolls', rolls, rollsStepped_forward feeds, out]

/-! ### A step while the hold is TAKEN -/

/-- The fault of a step under a TAKEN hold, where it stops no port (R121). -/
theorem feedFault_noted {s : State} {y : Ev} {w : List Part} (free : s.portHeld .engine = false)
    (stops : s.stops .engine .feedWhileHeld = false) (walked : (Ev.begin s).Within w y) (out : .ports ∉ w := by decide) :
    feedFault true y = y.modifyPort .engine (PortUnit.note .feedWhileHeld none y.st.now) := by
  refine recordFault_quiet _ _ _ _ ((congrArg (Pins.portReset · .engine) walked.pins :).trans free) ?_
  unfold State.stops
  rw [show y.st.ports = s.ports from walked.same .ports out]
  exact stops

/-- A step that has stopped no port, noted as a fault of the Engine port (R121). -/
theorem heldStep {s : State} {d : Direction} {y z : Ev} (run : s.pins.reset = false)
    (free : s.portHeld .engine = false) (stops : s.stops .engine .feedWhileHeld = false)
    (walked : (Ev.begin s).Within (.pos :: .rolls :: endParts) y) (pos : y.st.media.pos = s.media.posStepped d)
    (ends : (feedFault true y).Within settleParts z) (quiet : (feedFault true y).lost = false → z.lost = false)
    (does : started (.feedStep d) s = z) :
    ∃ t : State, exec (.feedStep d) s = .next t ∧ t.media.pos = s.media.posStepped d ∧
      t.ports.engine.status[FaultKind.index .feedWhileHeld] =
        (s.ports.engine.status[FaultKind.index .feedWhileHeld]).note ∧
      SettingsKept s t ∧ t.ink.bays = s.ink.bays ∧ t.meter = s.meter ∧ t.scan = s.scan ∧
      t.clock = s.clock ∧ t.outside = s.outside := by
  have ports : y.st.ports = s.ports := walked.same .ports (by decide)
  have noted := feedFault_noted free stops walked
  have still : y.lost = false := walked.same .lost (by decide)
  rw [noted] at ends quiet
  have whole : (Ev.begin s).Within (.pos :: .rolls :: .ports :: .lost :: .cost :: .waitList :: .dues :: .channels ::
      .reserved :: .short :: .dry :: .freed :: endParts) z :=
    .after ends <| .after (modifyPort_within y .engine (PortUnit.note_settings _ _ _ _)) (walked.mono (by decide))
  have after : z.st.ports = y.st.ports.modifyUnit .engine (PortUnit.note .feedWhileHeld none y.st.now) :=
    ends.same .ports (by decide)
  have unit := finish_unit_kept z .engine
  rw [after, ports, unit_modifyUnit_self, note_kept] at unit
  refine ⟨_, exec_started rfl run does (quiet still), ends.path.1.trans pos, ?_, whole.settingsKept.finish, whole.same .bays (by decide),
    whole.same .meter (by decide), whole.same .scan (by decide), whole.same .clock (by decide),
    Prod.ext whole.pins whole.pending⟩
  exact (congrArg (·.status[FaultKind.index .feedWhileHeld]) unit).trans (modifyAt_self _ _ _)

theorem pacing_within (d : Direction) (e : Ev) : e.Within (.pos :: .rolls :: endParts) (pacing d e) := by
  have counted : e.Within (.pos :: .rolls :: endParts) (countStep d e) := .after (countStep_within e d) (.refl _ _)
  exact .ite (.after (endPrinting_within _ _) counted) counted

theorem pacing_pos (d : Direction) (e : Ev) : (pacing d e).st.media.pos = e.st.media.posStepped d := by
  unfold pacing
  split
  · exact (endPrinting_within _ _).path.1.trans (countStep_path d e).1
  · exact (countStep_path d e).1

/-- Settles O53: the roll's end ends the printing, and a step under a TAKEN hold is a fault. -/
theorem rollEndsAndHeldFeed : Obligations.RollEndsAndHeldFeed := by
  refine ⟨fun s n f run feeds last untaken => exhaustingStep run feeds last untaken, fun s d run taken free stops => ?_⟩
  have held : s.held = true := by simp [State.held, taken]
  cases d
  case forward =>
    have head := runHead_within (pacing .forward (Ev.begin s))
    refine heldStep run free stops (y := runHead (pacing .forward (Ev.begin s))) (.after head (pacing_within _ _))
      (head.path.1.trans (pacing_pos _ _)) (settle_within _) (fun _ => settle_lost _) ?_
    show feed .forward (Ev.begin s) = _
    rw [feed_forward, show (Ev.begin s).st.held = true from held]
  case reverse =>
    have within := countStep_within (Ev.begin s) .reverse
    refine heldStep run free stops (y := countStep .reverse (Ev.begin s)) (z := feedFault true (countStep .reverse (Ev.begin s)))
      (within.mono (by decide)) (countStep_path _ _).1 (.refl _ _) id ?_
    show feed .reverse (Ev.begin s) = _
    rw [feed_reverse, show (Ev.begin s).st.held = true from held]

end Sys2Proof.Machine
end

section
/-! The cutter: the edges of its home, its strokes and their ends (6.8, O51 and O54). -/

namespace Sys2Proof.Machine

-- One proof after another: the stacks of many waiting threads do not fit the memory of one compile.
set_option Elab.async false

/-! ### The resolution of a cut -/

/-- A change of another attempt leaves this one (R1). -/
theorem attempt?_modifyAttempt_other {e : Ev} {r x : CopyRef} {j : Job} {c : CopyRecord} (f : Attempt → Attempt)
    (other : r ≠ x) (here : e.st.attempt? r = some (j, c)) :
    ∃ j', (e.modifyAttempt x f).st.attempt? r = some (j', c) := by
  obtain ⟨open_, copy, number⟩ := attempt?_eq_some.1 here
  unfold Ev.modifyAttempt Ev.modifyCopy
  by_cases same : r.handle = x.handle
  · have apart : ¬ (r.copy = x.copy ∧ c.attempt = x.attempt) := by
      rw [number]
      rintro ⟨copies, numbers⟩
      cases r
      cases x
      cases same
      cases copies
      cases numbers
      exact other rfl
    have copy' := copy?_modifyCopies_other (fun c => { c with record := f c.record }) copy apart
    refine ⟨_, attempt?_eq_some.2 ⟨?_, copy', number⟩⟩
    rw [job?_modifyJob, if_pos same, open_]
    rfl
  · exact ⟨j, attempt?_eq_some.2 ⟨by rw [job?_modifyJob, if_neg same, open_], copy, number⟩⟩

/-- Each of some attempts changed once (R14). -/
theorem foldl_modifyAttempt {F : CopyRef → Attempt → Attempt} {r : CopyRef} (l : List CopyRef) (nodup : l.Nodup) (e : Ev)
    {j : Job} {c : CopyRecord} (here : e.st.attempt? r = some (j, c)) :
    ∃ j', (l.foldl (fun e x => e.modifyAttempt x (F x)) e).st.attempt? r =
      some (j', if r ∈ l then { c with record := F r c.record } else c) := by
  induction l generalizing e j c with
  | nil => exact ⟨j, by simpa using here⟩
  | cons x l ih =>
    obtain ⟨fresh, rest⟩ := List.nodup_cons.1 nodup
    rw [List.foldl_cons]
    by_cases same : r = x
    · subst same
      obtain ⟨j', later⟩ := ih rest _ (attempt?_modifyAttempt (F r) here)
      rw [if_neg fresh] at later
      exact ⟨j', by rw [if_pos List.mem_cons_self]; exact later⟩
    · obtain ⟨j', mid⟩ := attempt?_modifyAttempt_other (F x) same here
      obtain ⟨j'', later⟩ := ih rest _ mid
      exact ⟨j'', by simpa [same] using later⟩

/-- The owners' attempts, once their CUT is resolved (R14, R126, R127). -/
def cutWritten (o : CutOutcome) (m : Mark) (e : Ev) : Ev :=
  m.owners.foldl (fun e r => e.modifyAttempt r
    (Attempt.cutResolved o m.overshoot e.st.media.settings.cutTolerance (m.owners.head? == some r))) e

theorem resolveCut_eq (o : CutOutcome) (m : Mark) (e : Ev) : resolveCut o m e =
    ((cutWritten o m e).mapMedia fun x => { x with marks := x.marks.tail }).mayClose m.owners := rfl

theorem cutWritten_within (o : CutOutcome) (m : Mark) (e : Ev) : e.Within [.store] (cutWritten o m e) :=
  .foldl _ _ _ fun e r => modifyAttempt_within e r _

/-- The tolerance stands while the owners' attempts are written. -/
theorem cutWritten_eq (o : CutOutcome) (m : Mark) (e : Ev) : cutWritten o m e =
    m.owners.foldl (fun x r => x.modifyAttempt r
      (Attempt.cutResolved o m.overshoot e.st.media.settings.cutTolerance (m.owners.head? == some r))) e := by
  have steps (l : List CopyRef) (x : Ev) (media : x.st.media = e.st.media) :
      l.foldl (fun y r => y.modifyAttempt r
        (Attempt.cutResolved o m.overshoot y.st.media.settings.cutTolerance (m.owners.head? == some r))) x =
      l.foldl (fun y r => y.modifyAttempt r
        (Attempt.cutResolved o m.overshoot e.st.media.settings.cutTolerance (m.owners.head? == some r))) x := by
    induction l generalizing x with
    | nil => rw [List.foldl_nil, List.foldl_nil]
    | cons r l ih =>
      rw [List.foldl_cons, List.foldl_cons, media]
      exact ih _ (by rw [modifyAttempt_media, media])
  exact steps m.owners e rfl

/-- What a cut writes into an attempt is seen so at the end of the event. -/
def Attempt.cuts (a : Attempt) : Nat × Nat × Bool × Bool := (a.outstandingCuts, a.cutsCharged, a.offset, a.uncut)

/-- A CUT at the head, resolved where no other mark has been reached, at the end of its event (R14, R115). -/
theorem resolvedCut_settled {o : CutOutcome} {m : Mark} {ms : List Mark} {e : Ev} (marks : e.st.media.marks = m :: ms)
    (nodup : m.owners.Nodup) (rest : e.st.restAhead) :
    settleMarks (resolveCut o m e) = settle (resolveCut o m e) ∧
      (settle (resolveCut o m e)).st.media.sameButHold { e.st.media with marks := ms } ∧
      e.Within (.store :: .media :: .marks :: .due :: settleParts) (settle (resolveCut o m e)) ∧
      ∀ r ∈ m.owners, ∀ j c j' c', e.st.attempt? r = some (j, c) →
        (settle (resolveCut o m e)).st.attempt? r = some (j', c') →
        c'.record.cuts = (Attempt.cutResolved o m.overshoot e.st.media.settings.cutTolerance
          (m.owners.head? == some r) c.record).cuts := by
  have media : (cutWritten o m e).st.media = e.st.media := by
    have same : (cutWritten o m e).st.media.sameButHold e.st.media :=
      (cutWritten_within o m e).same .media (by decide)
    obtain ⟨hold, pause⟩ := (cutWritten_within o m e).held
    rw [same, hold, pause]
  have after : (resolveCut o m e).st.media = { e.st.media with marks := ms } := by
    have tail : (resolveCut o m e).st.media =
        { (cutWritten o m e).st.media with marks := (cutWritten o m e).st.media.marks.tail } := rfl
    rw [tail, media, marks]
    rfl
  have within : e.Within [.store, .media, .marks, .due] (resolveCut o m e) :=
    .after (mayClose_within _ _) <| .after (mapMarks_within _ rfl) <| (cutWritten_within o m e).mono (by decide)
  refine ⟨settleMarks_served (e := e) (congrArg Media.marks after) (congrArg Media.pos after :) marks rest, ?_,
    within.comp (settle_within _), fun r owns j c j' c' here later => ?_⟩
  · have kept := (settle_kept (resolveCut o m e)).media
    rwa [after] at kept
  · obtain ⟨j₁, mid⟩ := foldl_modifyAttempt (F := fun r => Attempt.cutResolved o m.overshoot
      e.st.media.settings.cutTolerance (m.owners.head? == some r)) m.owners nodup e here
    rw [if_pos owns, ← cutWritten_eq] at mid
    have follows : (resolveCut o m e).Follows Attempt.cuts (settle (resolveCut o m e)) :=
      settle_follows _ (fun _ _ => rfl) (.inr fun _ _ => rfl)
    exact (follows.attempt (show (resolveCut o m e).st.attempt? r = _ from mid) later).2

/-! ### The end of a stroke -/

theorem resolveHead_cut {o : CutOutcome} {m : Mark} {ms : List Mark} {e : Ev} (marks : e.st.media.marks = m :: ms)
    (cut : m.kind = .cut) (serving : m.service = .inService) : resolveHead o e = resolveCut o m e := by
  unfold resolveHead
  rw [marks]
  exact if_pos ⟨cut, serving⟩

theorem cutHomeEdges_holds : cutHomeEdges := by
  intro s run
  have falls : started .cutHomeFall s = homeFalls (Ev.moved (Pins.setHome false) s) := rfl
  have rises : started .cutHomeRise s = homeRises (Ev.moved (Pins.setHome true) s) := rfl
  refine ⟨?_, fun other => ?_⟩
  · unfold homeFalls at falls
    rw [show (Ev.moved (Pins.setHome false) s).st.media.cutter = s.media.cutter from rfl] at falls
    cases cutter : s.media.cutter <;> rw [cutter] at falls
    case starting => exact exec_silent rfl run falls rfl (ordersDiffer_media rfl rfl rfl) rfl
    case ready => exact exec_event rfl run falls rfl (ordersDiffer_media rfl rfl rfl)
    all_goals exact exec_silent rfl run falls rfl (ordersDiffer_same _ _ rfl rfl) rfl
  · unfold homeRises at rises
    rw [show (Ev.moved (Pins.setHome true) s).st.media.cutter = s.media.cutter from rfl] at rises
    cases cutter : s.media.cutter <;> rw [cutter] at rises
    case returning => exact absurd cutter other
    all_goals exact exec_silent rfl run rises rfl (ordersDiffer_same _ _ rfl rfl) rfl

/-- A stroke has ended, and its CUT is resolved (R125 to R127). -/
theorem strokeEnds {s : State} {c : Instr} {o : CutOutcome} {m : Mark} {ms : List Mark} {e : Ev}
    (inEvent : outOfEvents c = false) (run : s.pins.reset = false) (does : started c s = settleMarks (resolveHead o e))
    (begun : (Ev.moved (lineMoved c) s).Within [.media, .clock, .mono, .raised] e)
    (media : e.st.media = { s.media with cutter := e.st.media.cutter, cutterTimer := none })
    (marks : s.media.marks = m :: ms) (cut : m.kind = .cut) (serving : m.service = .inService) (nodup : m.owners.Nodup)
    (rest : s.restAhead) :
    ∃ t : State, exec c s = .next t ∧ t.media.cutter = e.st.media.cutter ∧
      (t.media.marks = ms ∧ t.media.cutterTimer = none ∧ SettingsKept s t ∧ t.meter = s.meter ∧
        t.scan = s.scan ∧ t.sched = s.sched ∧ t.ink.bays = s.ink.bays ∧ t.colour = s.colour ∧
        t.media.pos = s.media.pos ∧ t.media.rolls = s.media.rolls ∧ t.pending = s.pending) ∧
      t.clock = e.st.clock ∧ t.pins = e.st.pins ∧
      ∀ r ∈ m.owners, ∀ j c j' c', s.attempt? r = some (j, c) → t.attempt? r = some (j', c') →
        c'.record.cuts = (Attempt.cutResolved o m.overshoot s.media.settings.cutTolerance
          (m.owners.head? == some r) c.record).cuts := by
  have marks' : e.st.media.marks = m :: ms := by rw [media]; exact marks
  obtain ⟨served, after, within, owners⟩ := resolvedCut_settled (o := o) marks' nodup
    (by unfold State.restAhead; rw [media]; exact rest)
  rw [resolveHead_cut marks' cut serving, served] at does
  have ran := exec_started inEvent run does (settle_lost _)
  have settings : e.st.media.settings = s.media.settings := by rw [media]
  have attempts (r : CopyRef) : e.st.attempt? r = s.attempt? r := by
    have store : e.st.store = s.store := begun.same .store (by decide)
    unfold State.attempt? State.job?
    rw [store]
  generalize settle (resolveCut o m e) = f at ran after within owners
  unfold Media.sameButHold at after
  rw [media] at after
  have whole : (Ev.moved (lineMoved c) s).Within
      (.clock :: .mono :: .store :: .media :: .marks :: .due :: settleParts) f := begun.comp within
  have kept : SettingsKept s f.st := ⟨whole.settingsKept.ink, whole.settingsKept.path, whole.settingsKept.locked,
    whole.settingsKept.ports, whole.settingsKept.roster⟩
  refine ⟨_, ran, by rw [finish_media, after], ⟨by rw [finish_media, after], by rw [finish_media, after],
    kept.finish, whole.same .meter (by decide), whole.same .scan (by decide), whole.same .sched (by decide),
    whole.same .bays (by decide), whole.same .colour (by decide), by rw [finish_media, after],
    by rw [finish_media, after], whole.pending⟩, within.same .clock (by decide), within.pins,
    fun r owns j c j' c' here later => ?_⟩
  have cuts := owners r owns j c j' c' ((attempts r).trans here) later
  rwa [settings] at cuts

theorem strokesEnd_holds : strokesEnd := by
  intro s m ms run marks cut serving nodup rest
  refine ⟨fun returning => ?_, fun d due stroke => ?_⟩
  · have does : started .cutHomeRise s = settleMarks (resolveHead .done ((Ev.moved (Pins.setHome true) s).mapMedia fun m =>
        { m with cutter := .ready, cutterTimer := none })) := by
      show homeRises (Ev.moved (Pins.setHome true) s) = _
      unfold homeRises
      rw [show (Ev.moved (Pins.setHome true) s).st.media.cutter = .returning from returning]
    obtain ⟨t, ran, cutter, frame, clock, pins, owners⟩ := strokeEnds rfl run does (.after (mapMedia_within _ rfl) (.refl _ _)) rfl marks cut serving nodup rest
    refine ⟨t, ran, cutter, frame, clock, pins, fun r owns j c j' c' here later => ?_⟩
    have cuts := owners r owns j c j' c' here later
    simp only [Attempt.cuts, Attempt.cutResolved, Prod.mk.injEq, beq_iff_eq] at cuts
    exact cuts
  · have does : started .cutterTimerExpiry s = settleMarks (resolveHead .failed
        ((((Ev.begin s).mapClock (TimeBase.reach d)).mapMedia fun m =>
          { m with cutterTimer := none, cutter := .fault }).raise .cutterFault .none 1)) := by
      refine (started_expiry (c := .cutterTimerExpiry) (due := fun s => s.media.cutterTimer) rfl rfl due).trans ?_
      unfold cutterExpires
      dsimp only
      rcases stroke with starting | returning
      · rw [show ((Ev.begin s).mapClock (TimeBase.reach d)).st.media.cutter = .starting from starting]
        rfl
      · rw [show ((Ev.begin s).mapClock (TimeBase.reach d)).st.media.cutter = .returning from returning]
        rfl
    obtain ⟨t, ran, cutter, frame, clock, pins, owners⟩ := strokeEnds rfl run does (.after (raise_within _ _ _ _) <|
      .after (mapMedia_within _ rfl) <| .after (reach_within _ _) (.refl _ _)) rfl marks cut serving nodup rest
    refine ⟨t, ran, cutter, frame, clock, pins, fun r owns j c j' c' here later => ?_⟩
    have cuts := owners r owns j c j' c' here later
    simp only [Attempt.cuts, Attempt.cutResolved, Prod.mk.injEq] at cuts
    exact cuts

/-- Settles O54: the edges of CUT_HOME, and how a stroke ends. -/
theorem cutter : Obligations.Cutter := ⟨cutHomeEdges_holds, strokesEnd_holds⟩

/-! ### A cut is served -/

section
variable {s : State} {m : Mark} {ms : List Mark}

/-- A CUT whose service begins with a READY cutter (R126). -/
theorem beginService_ready {e : Ev} {k : Mark} (cut : k.kind = .cut) (ready : e.st.media.cutter = .ready) (q : Pos) :
    beginService k q e = startCut q e := by
  unfold beginService
  rw [cut]
  dsimp only
  rw [ready]

/-- A CUT reached under a TAKEN hold is served at once (R116, R126). -/
theorem runHead_cut {e : Ev} (taken : e.st.media.hold.state = .taken) (marks : e.st.media.marks = m :: ms)
    (cut : m.kind = .cut) (ready : e.st.media.cutter = .ready) (unfired : m.fired = false)
    (at_ : reached e.st.media.pos m.pos = true) : runHead e = startCut e.st.media.pos (fireHead e) := by
  have first : runHead e = runHeadFrom e.st.media.marks.length
      (beginService { m with fired := true } e.st.media.pos (fireHead e)) := by
    unfold runHead
    rw [runHeadFrom]
    split
    · next empty =>
      rw [marks] at empty
      cases empty
    · next k _ here =>
      rw [marks] at here
      cases here
      rw [if_neg (by simp [unfired, at_]), if_pos taken]
  rw [first, beginService_ready (e := fireHead e) (k := { m with fired := true }) cut ready]
  refine runHeadFrom_fired (k := Mark.serve e.st.media.pos { m with fired := true }) (ms := ms) ?_ rfl _
  show modifyHead _ (modifyHead _ e.st.media.marks) = _
  rw [marks]
  rfl

/-- What a stroke that has been ordered is seen by (R125, R126). -/
theorem cut_started {q : Pos} {e f : Ev} {t : State} (run : s.pins.reset = false) (pins : f.st.pins = s.pins)
    (head : modifyHead (Mark.serve q) e.st.media.marks =
      { m with fired := true, service := .inService, captured := some q } :: ms)
    (clock : e.st.now = s.now) (timeout : e.st.media.settings.cutterTimeout = s.media.settings.cutterTimeout)
    (after : f.st.media.sameButHold (startCut q e).st.media) (media : t.media = f.st.media) (same : t.pins = f.st.pins) :
    t.media.cutter = .starting ∧ t.cutGo = true ∧
      t.media.cutterTimer = some (s.now + s.media.settings.cutterTimeout) ∧
      t.media.marks = { m with fired := true, service := .inService, captured := some q } :: ms := by
  have cutter : f.st.media.cutter = .starting := by rw [after]; rfl
  refine ⟨media ▸ cutter, ?_, ?_, ?_⟩
  · simp [State.cutGo, same, pins, run, media, cutter]
  · rw [media, after]
    show some (e.st.now + e.st.media.settings.cutterTimeout) = _
    rw [clock, timeout]
  · rw [media, after]
    exact head

/-- The fault of a step leaves the media path and the lines, where it stops no port or the port is held (R121, R179). -/
theorem feedFault_rest {y : Ev} {w : List Part} (stops : s.stops .engine .feedWhileHeld = false)
    (walked : (Ev.begin s).Within w y) (out : .ports ∉ w := by decide) :
    ∃ ps, (feedFault true y).st = { y.st with ports := ps } := by
  cases free : s.portHeld .engine with
  | false =>
    refine ⟨y.st.ports.modifyUnit .engine (PortUnit.note .feedWhileHeld none y.st.now), ?_⟩
    rw [feedFault_noted free stops walked out]
    rfl
  | true =>
    refine ⟨y.st.ports, congrArg Ev.st (recordFault_held .engine .feedWhileHeld none y ?_)⟩
    exact (congrArg (Pins.portReset · .engine) walked.pins :).trans free

theorem cut_fed (run : s.pins.reset = false) (marks : s.media.marks = m :: ms) (cut : m.kind = .cut)
    (ready : s.media.cutter = .ready) (taken : s.media.hold.state = .taken) (unfired : m.fired = false)
    (bare : s.media.feeding = none) (at_ : 0 ≤ (s.media.pos + 1 - m.pos).toInt)
    (stops : s.stops .engine .feedWhileHeld = false) :
    ∃ t : State, exec (.feedStep .forward) s = .next t ∧ t.media.cutter = .starting ∧ t.cutGo = true ∧
      t.media.cutterTimer = some (s.now + s.media.settings.cutterTimeout) ∧
      t.media.marks = { m with fired := true, service := .inService, captured := some (s.media.pos + 1) } :: ms := by
  have held : s.held = true := by simp [State.held, taken]
  have paced : pacing .forward (Ev.begin s) = countStep .forward (Ev.begin s) :=
    if_neg (by simp [exhausts_false (m := s.media) fun n f feeds => by rw [bare] at feeds; cases feeds])
  have counted : (countStep .forward (Ev.begin s)).st.media =
      { s.media with pos := s.media.pos + 1, rolls := s.media.rollsStepped .forward } := by
    rw [countStep_st]
    rfl
  have within := countStep_within (Ev.begin s) .forward
  have serves := runHead_cut (e := countStep .forward (Ev.begin s)) (by rw [counted]; exact taken)
    (by rw [counted]; exact marks) cut (by rw [counted]; exact ready) unfired
    (by rw [counted]; exact decide_eq_true at_)
  rw [show (countStep .forward (Ev.begin s)).st.media.pos = s.media.pos + 1 by rw [counted]] at serves
  have does : started (.feedStep .forward) s =
      settle (feedFault true (startCut (s.media.pos + 1) (fireHead (countStep .forward (Ev.begin s))))) := by
    rw [← serves, ← paced]
    show feed .forward (Ev.begin s) = _
    rw [feed_forward, show (Ev.begin s).st.held = true from held]
  have walked : (Ev.begin s).Within (.pos :: .rolls :: markParts)
      (startCut (s.media.pos + 1) (fireHead (countStep .forward (Ev.begin s)))) :=
    .after (startCut_within _ _) <| .after (mapMarks_within _ rfl) <| .after within (.refl _ _)
  obtain ⟨ps, noted⟩ := feedFault_rest stops walked
  have kept := settle_kept (feedFault true (startCut (s.media.pos + 1) (fireHead (countStep .forward (Ev.begin s)))))
  have media := kept.media
  rw [noted] at media
  have pins := kept.pins.trans ((congrArg State.pins noted).trans walked.pins)
  have ran := exec_started rfl run does (settle_lost _)
  generalize settle (feedFault true (startCut (s.media.pos + 1) (fireHead (countStep .forward (Ev.begin s))))) = f
    at ran media pins
  refine ⟨_, ran, cut_started (e := fireHead (countStep .forward (Ev.begin s))) run pins ?_ ?_ ?_ media rfl rfl⟩
  · show modifyHead _ (modifyHead _ (countStep .forward (Ev.begin s)).st.media.marks) = _
    rw [counted, show (s.media.marks = m :: ms) from marks]
    rfl
  · exact congrArg TimeBase.mono (within.same .clock (by decide) :)
  · show (countStep .forward (Ev.begin s)).st.media.settings.cutterTimeout = _
    rw [counted]

theorem cut_taken {tag : Byte} (run : s.pins.reset = false) (marks : s.media.marks = m :: ms) (cut : m.kind = .cut)
    (ready : s.media.cutter = .ready) (requested : s.media.hold.state = .requested) (fired : m.fired = true)
    (waits : m.service = .notBegun) (served : s.serves .holdTaken .engine [] = true) :
    ∃ t : State, exec (.holdTaken .engine tag []) s = .next t ∧ t.media.cutter = .starting ∧ t.cutGo = true ∧
      t.media.cutterTimer = some (s.now + s.media.settings.cutterTimeout) ∧
      t.media.marks = { m with fired := true, service := .inService, captured := some s.media.pos } :: ms := by
  obtain ⟨ps, ran, -, -⟩ := exec_replies (tag := tag) (x := (holdTaken (accepted .engine [] s), Reply.ok [])) served
    (taken_holdTaken requested) (holdTaken_lost (accepted .engine [] s))
  obtain ⟨q, does, -, -⟩ := holdTaken_eq (accepted .engine [] s)
  have begins : serveWaiting (accepted .engine [] s).st.media.pos (holding q (accepted .engine [] s)) =
      startCut s.media.pos (holding q (accepted .engine [] s)) := by
    unfold serveWaiting
    rw [show (holding q (accepted .engine [] s)).st.media.marks = m :: ms from marks]
    dsimp only
    rw [if_pos (by simp [fired, waits])]
    exact beginService_ready (e := holding q (accepted .engine [] s)) cut ready _
  have head : modifyHead (Mark.serve s.media.pos) (holding q (accepted .engine [] s)).st.media.marks =
      { m with fired := true, service := .inService, captured := some s.media.pos } :: ms := by
    rw [show (holding q (accepted .engine [] s)).st.media.marks = m :: ms from marks, ← fired]
    rfl
  have first : settleMarks (startCut s.media.pos (holding q (accepted .engine [] s))) =
      settle (startCut s.media.pos (holding q (accepted .engine [] s))) :=
    congrArg settle (runHead_fired (k := { m with fired := true, service := .inService, captured := some s.media.pos })
      (ms := ms) head rfl)
  rw [does, begins, first] at ran
  have kept := settle_kept (startCut s.media.pos (holding q (accepted .engine [] s)))
  have pins := kept.pins
  have media := kept.media
  clear kept
  generalize settle (startCut s.media.pos (holding q (accepted .engine [] s))) = f at ran pins media
  exact ⟨_, ran, cut_started (e := holding q (accepted .engine [] s)) run pins head rfl rfl media rfl rfl⟩

end

/-! ### The clearing of a cutter -/

/-- The answer of CLEAR_CUTTER where the cutter stays as it is (R128). -/
def clearRefused (s : State) : Reply := { code := .wrongState, payload := mediaReport s }

theorem taken_clearCutter {s : State} {p : Port} {tag : Byte} (c : CutterState) :
    s.media.cutter = c → ReqKind.clearCutter.taken p tag [] s =
    match c with
    | .ready => (accepted p [] s, Reply.ok (mediaReport s))
    | .fault =>
      if s.pins.cutHome then
        ((accepted p [] s).mapMedia fun m => { m with cutter := .ready },
          Reply.ok (mediaReport { s with media := { s.media with cutter := .ready } }))
      else (accepted p [] s, clearRefused s)
    | _ => (accepted p [] s, clearRefused s) := by
  intro cutter
  have report := mediaReport_accepted (p := p) (pl := []) (s := s)
  have cleared := mediaReport_mapMedia (p := p) (pl := []) (s := s) fun m => { m with cutter := .ready }
  have takes := taken_none (k := .clearCutter) (p := p) (tag := tag) (s := s) (f := fun _ e =>
    match e.st.media.cutter with
    | .ready => (e, Reply.ok (mediaReport e.st))
    | .fault =>
      if e.st.pins.cutHome then
        (e.mapMedia fun m => { m with cutter := .ready },
          Reply.ok (mediaReport (e.mapMedia fun m => { m with cutter := .ready }).st))
      else (e, { code := .wrongState, payload := mediaReport e.st })
    | _ => (e, { code := .wrongState, payload := mediaReport e.st })) rfl
  rw [takes]
  dsimp only
  rw [show (accepted p [] s).st.media.cutter = c from cutter, report, cleared]
  cases c <;> rfl

theorem clearCutter_served {s : State} {tag : Byte} (served : s.serves .clearCutter .desk [] = true) :
    let t : State := { s with media := { s.media with cutter := .ready } }
    exec (.clearCutter .desk tag []) s = .next
      (match s.media.cutter with
        | .ready => s.answered .desk .clearCutter tag [] (Reply.ok (mediaReport s))
        | .fault =>
          if s.pins.cutHome then t.answered .desk .clearCutter tag [] (Reply.ok (mediaReport t))
          else s.answered .desk .clearCutter tag [] { code := .wrongState, payload := mediaReport s }
        | _ => s.answered .desk .clearCutter tag [] { code := .wrongState, payload := mediaReport s }) := by
  intro t
  have taken := taken_clearCutter (s := s) (p := .desk) (tag := tag) _ rfl
  cases cutter : s.media.cutter <;> rw [cutter] at taken
  case fault =>
    dsimp only at taken ⊢
    split_ifs at taken ⊢
    · exact exec_media served taken rfl rfl rfl
    · exact exec_answered served taken
  all_goals exact exec_answered served taken

/-- Settles O51: CLEAR_CUTTER, and the CUT that a READY cutter serves. -/
theorem clearCutter : Obligations.ClearCutter := by
  refine ⟨fun s tag served => clearCutter_served served, fun s p tag pl fits run held idle normal =>
    ⟨fun other => ?_, fun desk some_ => ?_⟩, fun s tag m ms run marks cut ready =>
      ⟨fun taken unfired bare at_ stops => cut_fed run marks cut ready taken unfired bare at_ stops,
        fun requested fired waits served => cut_taken run marks cut ready requested fired waits served⟩⟩
  · refine exec_portRefusal (k := .clearCutter) run held idle fits ?_
    cases p <;> first | rfl | exact absurd rfl other
  · subst desk
    refine exec_operands (k := .clearCutter) ((serves_iff _ _ _ _).2 ⟨run, held, idle, fits, ?_⟩) rfl some_
    simp [portRefusal, ReqKind.servedOn, normal]

end Sys2Proof.Machine
end

section
/-! The notices of an event: those it raises late in their order, and what a port's queue keeps of them (9.5). -/

namespace Sys2Proof.Machine

-- One proof after another: the stacks of many waiting threads do not fit the memory of one compile.
set_option Elab.async false

/-! ### What a queue keeps -/

theorem offer_levels (now : Nat) (n : Notice) (u : PortUnit) : (u.offer now n).levels = u.levels := by
  rw [offer_other]

/-- A notice that a port takes stands last in its queue (R171, R172). -/
theorem offer_last {u : PortUnit} {n : Notice} (now : Nat) (takes : 0 < u.levels[n.kind.index]) :
    ∃ x l, (u.offer now n).queue = l ++ [x] ∧ x.notice = n := by
  unfold PortUnit.offer
  dsimp only
  rw [if_neg (by omega)]
  split <;> exact ⟨_, _, rfl, rfl⟩

/-- A notice offered is passed over, or enters a queue with room, or pushes the oldest entry out (R172). -/
theorem offer_queue (now : Nat) (n : Notice) (u : PortUnit) : (u.offer now n).queue = u.queue ∨ ∃ y,
    (u.offer now n).queue = u.queue ++ [y] ∨ 32 ≤ u.queue.length ∧ (u.offer now n).queue = u.queue.tail ++ [y] := by
  unfold PortUnit.offer
  dsimp only
  split
  · exact .inl rfl
  · split
    · exact .inr ⟨_, .inl rfl⟩
    · next full => exact .inr ⟨_, .inr ⟨Nat.not_lt.1 full, rfl⟩⟩

/-- An entry with few entries behind it stays while few more enter (R172). -/
theorem offered_stays {x : Entry} {now : Nat} (ns : List Notice) (u : PortUnit) {a b : List Entry}
    (here : u.queue = a ++ x :: b) (few : b.length + ns.length < 32) :
    x ∈ (ns.foldl (fun u n => u.offer now n) u).queue := by
  induction ns generalizing u a b with
  | nil => simp [here]
  | cons n ns ih =>
    rw [List.length_cons] at few
    rw [List.foldl_cons]
    rcases offer_queue now n u with same | ⟨y, room | ⟨full, pushed⟩⟩
    · exact ih _ (same.trans here) (by omega)
    · exact ih _ (a := a) (b := b ++ [y]) (by simp [room, here]) (by simp; omega)
    · cases a with
      | nil =>
        rw [here, List.nil_append, List.length_cons] at full
        omega
      | cons z a => exact ih _ (a := a) (b := b ++ [y]) (by simp [pushed, here]) (by simp; omega)

/-- The notices of a list that enter a queue with this kind or after it. -/
def lateNotices (k : NoticeKind) (l : List Notice) : Nat := (l.filter fun y => k.index ≤ y.kind.index).length

/-- A notice is found in the queue at the end of its event, if few of its event come after it (R171, R172). -/
theorem offerAll_keeps {n : Notice} {l : List Notice} {u : PortUnit} (now : Nat) (raised : n ∈ l)
    (few : lateNotices n.kind l < 32) (takes : 0 < u.levels[n.kind.index]) :
    ∃ x ∈ (offerAll now (orderNotices l) false u).queue, x.notice = n := by
  obtain ⟨perm, sorted⟩ := foldl_insertNotice l [] .nil
  rw [List.append_nil] at perm
  change (orderNotices l).Perm l at perm
  change (orderNotices l).Pairwise Notice.upTo at sorted
  obtain ⟨pre, post, order⟩ := List.append_of_mem (perm.mem_iff.2 raised)
  have after : ∀ y ∈ post, n.kind.index ≤ y.kind.index := fun y inn => by
    rw [order] at sorted
    have first := (List.pairwise_cons.1 (List.pairwise_append.1 sorted).2.1).1 y inn
    rcases first with lt | ⟨eq, -⟩
    · exact le_of_lt lt
    · exact le_of_eq eq
  have bound : post.length ≤ lateNotices n.kind l := by
    have some_ : lateNotices n.kind (orderNotices l) = lateNotices n.kind l := (perm.filter _).length_eq
    rw [← some_, order]
    have stays : (post.filter fun y => n.kind.index ≤ y.kind.index) = post :=
      List.filter_eq_self.2 fun y inn => decide_eq_true (after y inn)
    unfold lateNotices
    rw [List.filter_append, List.filter_cons_of_pos (by simp), stays]
    simp
    omega
  have levels (u : PortUnit) (ns : List Notice) : (ns.foldl (fun u n => u.offer now n) u).levels = u.levels :=
    foldl_keeps (fun v => v.levels = u.levels) _ ns u (fun v y same => (offer_levels now y v).trans same) rfl
  rw [order]
  unfold offerAll
  rw [if_neg (by decide), List.foldl_append, List.foldl_cons]
  obtain ⟨x, a, last, is⟩ := offer_last (u := pre.foldl (fun u n => u.offer now n) u) now (by rw [levels]; exact takes)
  exact ⟨x, offered_stays post _ (b := []) last (by simp; omega), is⟩

/-! ### What an event raises -/

/-- From `e` to `e'` nothing raised is withdrawn, and at most `n` notices are raised that come with COPY_DONE or
after it (R171). -/
structure Ev.Raises (n : Nat) (e e' : Ev) : Prop where
  all : ∀ y ∈ e.raised, y ∈ e'.raised
  few : lateNotices .copyDone e'.raised ≤ lateNotices .copyDone e.raised + n

namespace Ev.Raises

theorem of_same {e e' : Ev} (same : e'.raised = e.raised) : e.Raises 0 e' :=
  ⟨fun y inn => same ▸ inn, by rw [same, Nat.add_zero]⟩

theorem refl (e : Ev) : e.Raises 0 e := of_same rfl

theorem of_within {w : List Part} {e e' : Ev} (h : e.Within w e') (out : .raised ∉ w := by decide) : e.Raises 0 e' :=
  of_same (h.same .raised out)

theorem trans {m n : Nat} {e f g : Ev} (h : e.Raises m f) (k : f.Raises n g) : e.Raises (m + n) g :=
  ⟨fun y inn => k.all y (h.all y inn), by have := h.few; have := k.few; omega⟩

theorem mono {m n : Nat} {e f : Ev} (h : e.Raises m f) (le : m ≤ n := by decide) : e.Raises n f :=
  ⟨h.all, h.few.trans (Nat.add_le_add_left le _)⟩

/-- One operation after another; the last raises nothing. -/
theorem then_within {n : Nat} {w : List Part} {e f g : Ev} (k : f.Within w g) (h : e.Raises n f)
    (out : .raised ∉ w := by decide) : e.Raises n g := h.trans (of_within k out)

theorem raise (e : Ev) (k : NoticeKind) (x : Subject) (d : Nat) :
    e.Raises (if NoticeKind.copyDone.index ≤ k.index then 1 else 0) (e.raise k x d) := by
  refine ⟨fun y inn => List.mem_append_left _ inn, ?_⟩
  show lateNotices .copyDone (e.raised ++ [_]) ≤ _
  unfold lateNotices
  rw [List.filter_append, List.length_append]
  split
  · next late => rw [List.filter_cons_of_pos (by simpa using late)]; simp
  · next early => rw [List.filter_cons_of_neg (by simpa using early)]; simp

/-- A notice of a job's waiting comes before COPY_DONE. -/
theorem early (e : Ev) (k : NoticeKind) (x : Subject) (d : Nat) (lt : k.index < NoticeKind.copyDone.index := by decide) :
    e.Raises 0 (e.raise k x d) := by
  have h := raise e k x d
  rwa [if_neg (not_le.2 lt)] at h

theorem late (e : Ev) (k : NoticeKind) (x : Subject) (d : Nat) : e.Raises 1 (e.raise k x d) :=
  (raise e k x d).mono (by split <;> decide)

theorem foldl {β : Type} (f : Ev → β → Ev) (l : List β) (e : Ev) (step : ∀ (e : Ev) (b : β), e.Raises 0 (f e b)) :
    e.Raises 0 (l.foldl f e) :=
  foldl_keeps (fun e' => e.Raises 0 e') f l e (fun a b h => h.trans (step a b)) (refl e)

end Ev.Raises

section
variable (e : Ev)

theorem walkOne_raises (h : Fin 32) : e.Raises 0 (walkOne h e) := by
  unfold walkOne
  split
  · exact .refl e
  · split
    · exact .trans (.then_within (leaveWaitList_within _ _) (.of_within (takeReservation_within e _ _))) (.early _ _ _ _)
    · exact .refl e

theorem walk_raises : e.Raises 0 (walk e) := .foldl _ _ _ fun e h => walkOne_raises e h

theorem trimJob_raises (h : Fin 32) : e.Raises 0 (trimJob h e) := by
  have released : e.Raises 0 (releaseReservation h.val e) := .of_within (releaseReservation_within e h.val)
  unfold trimJob
  dsimp only
  split
  · exact released
  · split
    · exact .trans (.then_within (joinWaitList_within _ _) released) (.early _ _ _ _)
    · exact released

theorem trim_raises (n : Nat) (any : Bool) : e.Raises 0 (trim n any e).2 := by
  induction n generalizing any e with
  | zero => exact .refl e
  | succ n ih =>
    unfold trim
    split
    · exact .refl e
    · exact (trimJob_raises e _).trans (ih _ _)

theorem rejoin_raises (h : Nat) : e.Raises 0 (rejoin h e) := by
  unfold rejoin
  split
  · split
    · exact .refl e
    · split_ifs
      · exact .refl e
      · exact .of_within (modifyJob_within e h fun _ => ⟨rfl, rfl⟩)
      · exact .trans (.of_within (takeReservation_within e h _)) (.early _ _ _ _)
      · exact .trans (.of_within (joinWaitList_within e _)) (.early _ _ _ _)
  · exact .refl e

theorem closeJobIfDone_raises (h : Nat) : e.Raises 1 (closeJobIfDone h e) := by
  unfold closeJobIfDone
  split
  · exact (Ev.Raises.refl e).mono
  · split
    · unfold closeJob
      split
      · exact (Ev.Raises.refl e).mono
      · refine Ev.Raises.trans (m := 0) (n := 1) ?_ (.late _ _ _ _)
        refine .then_within (modifyJob_within _ h fun _ => ⟨rfl, rfl⟩) ?_
        exact .then_within (modifyAccount_within _ _ fun _ => rfl) <| .then_within (leaveWaitList_within _ h)
          (.of_within (releaseReservation_within e h))
    · exact (Ev.Raises.refl e).mono

end

/-! ### The ink, where its volumes stand and nothing prints -/

section
variable {e : Ev}

theorem evalFlags_quiet (usable : e.st.ink.usable = e.start.ink.usable)
    (low : ∀ c : Fin 12, (e.st.ink.channels[c]).lowThreshold = (e.start.ink.channels[c]).lowThreshold) : evalFlags e = e := by
  refine foldl_keeps (fun x => x = e) _ _ e (fun x c is => ?_) rfl
  subst is
  have dry : evalDry c x = x := if_pos (congrFun usable c).symm
  rw [dry]
  exact if_pos ⟨(congrFun usable c).symm, (low c).symm⟩

theorem markShort_idle (idle : e.st.printing = none) (c : Fin 12) : markShort c e = e := by
  unfold markShort
  rw [if_neg (by simp [idle])]

theorem settleShort_raises (idle : e.st.printing = none) : e.Raises 0 (settleShort e) := by
  refine (foldl_keeps (fun x => x.st.printing = none ∧ e.Raises 0 x) _ _ e (fun x c kept => ?_) ⟨idle, .refl e⟩).2
  rw [markShort_idle kept.1]
  exact ⟨(clearShort_within x c).printing.trans kept.1, .then_within (clearShort_within x c) kept.2⟩

theorem settleInk_raises (idle : e.st.printing = none) (usable : e.st.ink.usable = e.start.ink.usable)
    (low : ∀ c : Fin 12, (e.st.ink.channels[c]).lowThreshold = (e.start.ink.channels[c]).lowThreshold) :
    e.Raises 0 (settleInk e) := by
  have trimmed := trim_raises e 32 false
  have short := trimmed.trans (settleShort_raises ((trim_within e 32 false).printing.trans idle))
  rw [settleInk_eq, evalFlags_quiet usable low]
  split
  · exact short.trans (walk_raises _)
  · exact short

theorem evalOverrun_raises (i : Fin 32) : e.Raises 1 (evalOverrun i e) := by
  unfold evalOverrun
  dsimp only
  have flagged (f : Account → Account) (terms : ∀ a, (f a).terms = a.terms) : e.Raises 0 (e.modifyAccount i f) :=
    .of_within (modifyAccount_within e i terms)
  split
  · exact (Ev.Raises.refl e).mono
  · split
    · refine Ev.Raises.trans (m := 0) (n := 1) ?_ (.late _ _ _ _)
      exact flagged _ fun _ => rfl
    · refine Ev.Raises.mono (m := 0) ?_
      exact flagged _ fun _ => rfl

/-- The evaluation of the accounts raises at most one notice for each that has changed (R161). -/
theorem foldl_evalOverrun_raises {l : List (Fin 32)} (is : List (Fin 32)) (nodup : is.Nodup) (e : Ev)
    (stands : ∀ i ∈ is, i ∉ l → e.accountStands i) :
    e.Raises (is.filter (· ∈ l)).length (is.foldl (fun e i => evalOverrun i e) e) := by
  induction is generalizing e with
  | nil => exact .refl e
  | cons i is ih =>
    obtain ⟨fresh, rest⟩ := List.nodup_cons.1 nodup
    rw [List.foldl_cons]
    by_cases changed : i ∈ l
    · rw [List.filter_cons_of_pos (by simpa using changed), List.length_cons, Nat.add_comm]
      refine (evalOverrun_raises i).trans (ih rest _ fun j inn out => ?_)
      exact evalOverrun_others (fun here => fresh (here ▸ inn)) (stands j (List.mem_cons_of_mem _ inn) out)
    · rw [List.filter_cons_of_neg (by simpa using changed), evalOverrun_stands (stands i List.mem_cons_self changed)]
      exact ih rest e fun j inn out => stands j (List.mem_cons_of_mem _ inn) out

theorem settleAccounts_raises {l : List (Fin 32)} (stands : ∀ i, i ∉ l → e.accountStands i) :
    e.Raises l.length (settleAccounts e) := by
  have few := foldl_evalOverrun_raises (l := l) (List.finRange 32) (List.nodup_finRange 32) e fun i _ out => stands i out
  refine few.mono (List.Subperm.length_le (List.subperm_of_subset ((List.nodup_finRange 32).filter _) fun i inn => ?_))
  simpa using (List.mem_filter.1 inn).2

end

end Sys2Proof.Machine
end

section
/-! The close of an attempt: its booking in the job and in the accounts, and its notice (1.5, 8.5, 8.6). -/

namespace Sys2Proof.Machine

-- One proof after another: the stacks of many waiting threads do not fit the memory of one compile.
set_option Elab.async false

/-! ### What an account has been charged -/

section
variable {e : Ev}

theorem evalOverrun_charged (i k : Fin 32) :
    ((evalOverrun i e).st.cost.accounts[k]).charged = (e.st.cost.accounts[k]).charged := by
  have flagged (v : Bool) : ((e.modifyAccount i fun x => { x with overrun := v }).st.cost.accounts[k]).charged =
      (e.st.cost.accounts[k]).charged := by
    rw [modifyAccount_account]
    split <;> rfl
  unfold evalOverrun
  dsimp only
  split
  · rfl
  · split <;> exact flagged _

theorem settleAccounts_charged (k : Fin 32) :
    ((settleAccounts e).st.cost.accounts[k]).charged = (e.st.cost.accounts[k]).charged :=
  foldl_keeps (fun x => (x.st.cost.accounts[k]).charged = (e.st.cost.accounts[k]).charged) _ _ e
    (fun _ i same => (evalOverrun_charged i k).trans same) rfl

/-- The close of a job gives its commitment back, and charges nothing (R156). -/
theorem closeJobIfDone_accounts {h : Nat} {j : Job} (here : e.st.job? h = some j) (i : Fin 32) :
    ((closeJobIfDone h e).st.cost.accounts[i]).charged = (e.st.cost.accounts[i]).charged ∧
      (i ≠ j.account → (closeJobIfDone h e).st.cost.accounts[i] = e.st.cost.accounts[i]) := by
  unfold closeJobIfDone
  rw [here]
  dsimp only
  split
  · unfold closeJob
    rw [here]
    have before : (releaseReservation h e |> leaveWaitList h).st.cost = e.st.cost :=
      (releaseReservation_within e h).same .cost (by decide)
    have accounts : ((((releaseReservation h e |> leaveWaitList h).modifyAccount j.account fun a =>
        { a with committed := a.committed - j.commitment }).modifyJob h fun k => { k with state := .closed }).raise
          .jobClosed (.job h) j.acceptedCount).st.cost.accounts[i] =
        if i = j.account then { e.st.cost.accounts[i] with committed := (e.st.cost.accounts[i]).committed - j.commitment }
        else e.st.cost.accounts[i] := by
      rw [← before]
      exact modifyAccount_account _ _ _ _
    rw [accounts]
    exact ⟨by split <;> rfl, fun other => if_neg other⟩
  · exact ⟨rfl, fun _ => rfl⟩

end

/-! ### The close -/

section
variable {e : Ev} {r : CopyRef} {j : Job} {c : CopyRecord}

/-- What a closing attempt costs (R158). -/
def Ev.total (e : Ev) (j : Job) (c : CopyRecord) : Nat :=
  attemptTotal e.st.cost.prices[j.priceSet] j.mediaType c.record

/-- What of it the client bears (R159). -/
def Ev.client (e : Ev) (j : Job) (c : CopyRecord) : Nat := clientPart (classOf j c.record) j.waste (e.total j c)

/-- The job of a closing attempt, once it is booked (R159). -/
def Ev.billed (e : Ev) (r : CopyRef) (j : Job) (c : CopyRecord) : Job :=
  Job.bill (e.client j c) (e.total j c - e.client j c)
    { j with copies := modifyCopies r (fun x => { x with
      record := Attempt.bill (e.total j c) (e.client j c) (e.total j c - e.client j c) x.record }) j.copies }

/-- The copy of a closing attempt, once it is booked (R159). -/
def Ev.billedCopy (e : Ev) (j : Job) (c : CopyRecord) : CopyRecord :=
  { c with record := Attempt.bill (e.total j c) (e.client j c) (e.total j c - e.client j c) c.record }

/-- The next state of a closing attempt's copy (R16). -/
def copyNext (j : Job) (c : CopyRecord) : CopyState := nextCopyState j c.attempt (classOf j c.record)

/-- The notice of an attempt that closes (R16). -/
def doneNotice (r : CopyRef) (j : Job) (c : CopyRecord) : Notice :=
  { kind := .copyDone, subject := .attempt r, detail := (classOf j c.record).code + 256 * (copyNext j c).code }

/-- The event in which an attempt has been booked and its copy moved on (R15, R16). -/
def advanced (e : Ev) (r : CopyRef) (j : Job) (c : CopyRecord) : Ev :=
  (((bookAttempt r (classOf j c.record) e).modifyCopy r (CopyRecord.advance (copyNext j c))).modifyJob r.handle
    (Job.countTerminal (copyNext j c))).raise .copyDone (.attempt r)
      ((classOf j c.record).code + 256 * (copyNext j c).code)

theorem closeAttempt_eq : closeAttempt r j c e =
    if copyNext j c = .pending then rejoin r.handle (advanced e r j c)
    else closeJobIfDone r.handle (advanced e r j c) := by
  unfold closeAttempt advanced copyNext
  dsimp only
  cases nextCopyState j c.attempt (classOf j c.record) <;> rfl

theorem booked_attempt (here : e.st.attempt? r = some (j, c)) :
    (bookAttempt r (classOf j c.record) e).st.attempt? r = some (e.billed r j c, e.billedCopy j c) := by
  rw [bookAttempt_here here]
  exact attempt?_modifyJob (f := Job.bill (e.client j c) (e.total j c - e.client j c))
    (attempt?_modifyAttempt (Attempt.bill (e.total j c) (e.client j c) (e.total j c - e.client j c)) here) rfl

theorem advanced_job (here : e.st.attempt? r = some (j, c)) :
    (advanced e r j c).st.job? r.handle = some ((e.billed r j c).advanced r (copyNext j c)) :=
  job?_advance (attempt?_eq_some.1 (booked_attempt here)).1 _

/-- The job and the copy after the close of an attempt, but for the job's state and reservation (R15, R16). -/
theorem closeAttempt_job (here : e.st.attempt? r = some (j, c)) :
    ∃ j', (closeAttempt r j c e).st.job? r.handle = some j' ∧
      j'.filed = ((e.billed r j c).advanced r (copyNext j c)).filed := by
  have filed : (advanced e r j c).SameFiled (closeAttempt r j c e) := by
    rw [closeAttempt_eq]
    split
    · exact rejoin_sameFiled _ _
    · exact closeJobIfDone_sameFiled _ _
  have same := filed r.handle
  rw [advanced_job here] at same
  exact Option.map_eq_some_iff.1 same

theorem advanced_copy (here : e.st.attempt? r = some (j, c)) :
    ((e.billed r j c).advanced r (copyNext j c)).copy? r.copy =
      some (CopyRecord.advance (copyNext j c) (e.billedCopy j c)) := by
  obtain ⟨-, copy, number⟩ := attempt?_eq_some.1 (booked_attempt here)
  have moved := copy?_modifyCopies (CopyRecord.advance (copyNext j c)) copy number
  refine (copy?_congr ?_ _).trans moved
  unfold Job.advanced
  cases copyNext j c <;> rfl

/-- The accounts after the booking of an attempt (R151, R159). -/
theorem advanced_accounts (here : e.st.attempt? r = some (j, c)) (i : Fin 32) :
    ((advanced e r j c).st.cost.accounts[i]).charged =
      (let x := if i = j.account then add64 (e.st.cost.accounts[i]).charged (e.client j c)
        else (e.st.cost.accounts[i]).charged
      if i = 0 then add64 x (e.total j c - e.client j c) else x) ∧
    (i ≠ j.account → i ≠ 0 → (advanced e r j c).st.cost.accounts[i] = e.st.cost.accounts[i]) := by
  have accounts : (advanced e r j c).st.cost.accounts[i] = (bookAttempt r (classOf j c.record) e).st.cost.accounts[i] := rfl
  rw [accounts, bookAttempt_here here, modifyAccount_account, modifyAccount_account]
  have before : (((e.modifyAttempt r (Attempt.bill (e.total j c) (e.client j c) (e.total j c - e.client j c))).modifyJob
      r.handle (Job.bill (e.client j c) (e.total j c - e.client j c))).st.cost.accounts[i]) = e.st.cost.accounts[i] := rfl
  refine ⟨?_, fun other house => ?_⟩
  · split <;> split <;> rfl
  · rw [if_neg house, if_neg other]
    rfl

theorem closeAttempt_accounts (here : e.st.attempt? r = some (j, c)) (i : Fin 32) :
    ((closeAttempt r j c e).st.cost.accounts[i]).charged =
      (let x := if i = j.account then add64 (e.st.cost.accounts[i]).charged (e.client j c)
        else (e.st.cost.accounts[i]).charged
      if i = 0 then add64 x (e.total j c - e.client j c) else x) ∧
    (i ≠ j.account → i ≠ 0 → (closeAttempt r j c e).st.cost.accounts[i] = e.st.cost.accounts[i]) := by
  obtain ⟨charged, others⟩ := advanced_accounts here i
  rw [closeAttempt_eq]
  split
  · have cost : (rejoin r.handle (advanced e r j c)).st.cost = (advanced e r j c).st.cost :=
      (rejoin_within _ _).same .cost (by decide)
    have account : (rejoin r.handle (advanced e r j c)).st.cost.accounts[i] = (advanced e r j c).st.cost.accounts[i] := by
      rw [cost]
    exact ⟨(congrArg Account.charged account).trans charged, fun other house => account.trans (others other house)⟩
  · obtain ⟨same, rest⟩ := closeJobIfDone_accounts (advanced_job here) i
    have account : ((e.billed r j c).advanced r (copyNext j c)).account = j.account := by
      unfold Job.advanced
      cases copyNext j c <;> rfl
    rw [account] at rest
    exact ⟨same.trans charged, fun other house => (rest other).trans (others other house)⟩

/-- COPY_DONE is raised, and at most the close of the job with it or after it (R15). -/
theorem closeAttempt_raises :
    e.Raises 2 (closeAttempt r j c e) ∧ doneNotice r j c ∈ (closeAttempt r j c e).raised := by
  have booked : e.Raises 1 (advanced e r j c) := by
    refine Ev.Raises.trans (m := 0) (n := 1) ?_ (.late _ _ _ _)
    refine .then_within (modifyJob_within _ _ (Job.steady_countTerminal _)) ?_
    refine .then_within (modifyCopy_within _ r _) ?_
    exact .of_within (bookAttempt_within e r _)
  have closes : (advanced e r j c).Raises 1 (closeAttempt r j c e) := by
    rw [closeAttempt_eq]
    split
    · exact (rejoin_raises _ _).mono
    · exact closeJobIfDone_raises _ _
  exact ⟨booked.trans closes, closes.all _ (List.mem_append_right _ (List.mem_singleton_self _))⟩

end

/-! ### The end of an event in which nothing prints -/

theorem syncPause_idle {e : Ev} (idle : e.st.printing = none) : e.Within [.hold, .grip] (syncPause e) := by
  unfold syncPause
  rw [if_neg (by simp [idle])]
  split
  · unfold endPause
    split
    · next current =>
      rw [idle] at current
      cases current
    · exact mapHold_within e rfl
  · exact .refl _ _

theorem settleBooks_eq (e : Ev) :
    settleBooks e = settleAccounts (settleInk (settleCloses { e with lost := false })) := rfl

theorem closes_within (e : Ev) : e.Within (.lost :: closeParts) (settleCloses { e with lost := false }) :=
  .after (settleCloses_within _) <| .after (setLost_within e false) (.refl _ _)

/-- Past the bookings nothing writes the jobs or the accounts where nothing prints. -/
theorem settle_books {e : Ev} (idle : e.st.printing = none) : (settleBooks e).Within [.hold, .grip] (settle e) := by
  have held := syncHold_within (settleBooks e)
  have still : (settleBooks e).st.printing = e.st.printing := (settleBooks_within e).printing
  rw [settle_eq]
  exact .after (syncPause_idle (held.printing.trans (still.trans idle))) held

/-! ### The event in which an attempt closes -/

/-- The printing of an attempt has ended in the event, and nothing keeps the attempt open (R15). -/
structure Ev.Closing (r : CopyRef) (j : Job) (c : CopyRecord) (x : Ev) : Prop where
  due : x.due = [r]
  here : x.st.attempt? r = some (j, c)
  ready : readyToClose c = true
  idle : x.st.printing = none
  cost : x.st.cost = x.start.cost
  usable : x.st.ink.usable = x.start.ink.usable
  settings : x.st.inkSettings = x.start.inkSettings

namespace Ev.Closing

variable {x : Ev} {r : CopyRef} {j : Job} {c : CopyRecord} (h : x.Closing r j c)

include h

theorem closes : settleCloses { x with lost := false } = closeAttempt r j c { x with lost := false, due := [] } := by
  unfold settleCloses
  dsimp only
  rw [h.due, List.foldl_cons, List.foldl_nil]
  unfold closeIfReady
  rw [show ({ x with lost := false, due := [] } : Ev).st.attempt? r = some (j, c) from h.here]
  exact if_pos h.ready

/-- The job and the copy at the end of the event. -/
theorem job : ∃ j', (settle x).st.job? r.handle = some j' ∧
    j'.filed = ((x.billed r j c).advanced r (copyNext j c)).filed := by
  have still : (settle x).st.store = (settleInk (settleCloses { x with lost := false })).st.store := by
    have paused : (settle x).st.store = (settleBooks x).st.store := (settle_books h.idle).same .store (by decide)
    rw [paused, settleBooks_eq]
    exact (settleAccounts_within _).same .store (by decide)
  obtain ⟨j', open_, filed⟩ := closeAttempt_job (e := { x with lost := false, due := [] }) h.here
  rw [← h.closes] at open_
  have ink := settleInk_sameFiled (settleCloses { x with lost := false }) r.handle
  rw [open_] at ink
  obtain ⟨j'', open', filed'⟩ := Option.map_eq_some_iff.1 ink
  refine ⟨j'', ?_, filed'.trans filed⟩
  unfold State.job? at open' ⊢
  rw [still]
  exact open'

/-- What the accounts have been charged at the end of the event (R151, R159). -/
theorem charged (i : Fin 32) : ((settle x).st.cost.accounts[i]).charged =
    (let y := if i = j.account then add64 (x.st.cost.accounts[i]).charged (x.client j c)
      else (x.st.cost.accounts[i]).charged
    if i = 0 then add64 y (x.total j c - x.client j c) else y) := by
  have cost : (settle x).st.cost = (settleBooks x).st.cost := (settle_books h.idle).same .cost (by decide)
  have ink : (settleInk (settleCloses { x with lost := false })).st.cost = (settleCloses { x with lost := false }).st.cost :=
    (settleInk_within _).same .cost (by decide)
  have booked := (closeAttempt_accounts (e := { x with lost := false, due := [] }) h.here i).1
  rw [← h.closes] at booked
  refine Eq.trans ?_ booked
  rw [← ink, cost, settleBooks_eq]
  exact settleAccounts_charged i

/-- COPY_DONE is raised in the event, and few notices come with it or after it (R15, R161). -/
theorem notices : x.Raises 4 (settle x) ∧ doneNotice r j c ∈ (settle x).raised := by
  obtain ⟨few, raised⟩ := closeAttempt_raises (e := { x with lost := false, due := [] }) (r := r) (j := j) (c := c)
  rw [← h.closes] at few raised
  have closed : x.Raises 2 (settleCloses { x with lost := false }) := ⟨few.all, few.few⟩
  have within := closes_within x
  have start : (settleCloses { x with lost := false }).start = x.start := within.start
  have usable : (settleCloses { x with lost := false }).st.ink.usable = x.st.ink.usable := within.same .usable (by decide)
  have settings : (settleCloses { x with lost := false }).st.inkSettings = x.st.inkSettings :=
    within.same .inkSettings (by decide)
  have low (k : Fin 12) : ((settleCloses { x with lost := false }).st.ink.channels[k]).lowThreshold =
      ((settleCloses { x with lost := false }).start.ink.channels[k]).lowThreshold := by
    have same := congrArg (fun v => v.1[k]) (settings.trans h.settings)
    simp only [State.inkSettings, mapTable_get] at same
    rw [start]
    exact congrArg (·.2.2.2) same
  have ink := settleInk_raises (within.printing.trans h.idle) (by rw [usable, start]; exact h.usable) low
  have stands : ∀ i, i ∉ [0, j.account] → (settleInk (settleCloses { x with lost := false })).accountStands i := by
    intro i other
    simp only [List.mem_cons, List.not_mem_nil, or_false, not_or] at other
    have cost : (settleInk (settleCloses { x with lost := false })).st.cost = (settleCloses { x with lost := false }).st.cost :=
      (settleInk_within _).same .cost (by decide)
    have account := (closeAttempt_accounts (e := { x with lost := false, due := [] }) h.here i).2 other.2 other.1
    rw [← h.closes] at account
    unfold Ev.accountStands
    rw [cost, account, (settleInk_within _).start, start]
    show _ = ((x.start.cost.accounts[i]).charged) ∧ _
    rw [← h.cost]
    exact ⟨rfl, rfl, rfl⟩
  have books : (settleCloses { x with lost := false }).Raises 2 (settleBooks x) := by
    rw [settleBooks_eq]
    exact ink.trans (settleAccounts_raises stands)
  have ends : (settleBooks x).Raises 0 (settle x) := .of_within (settle_books h.idle)
  have rest : (settleCloses { x with lost := false }).Raises 2 (settle x) := books.trans ends
  exact ⟨closed.trans rest, rest.all _ raised⟩

end Ev.Closing

end Sys2Proof.Machine
end

section
/-! The end of a printing by the engine (5.5, 7.3, 4.5, O34), and the close of the attempt with it (1.5, 8.6). -/

namespace Sys2Proof.Machine

-- One proof after another: the stacks of many waiting threads do not fit the memory of one compile.
set_option Elab.async false

/-! ### What an end of printing writes -/

section
variable {e : Ev} {r : CopyRef} {cause : EndCause} {g : Grant}

theorem endedAt_within (cause : EndCause) (r : CopyRef) (e : Ev) :
    e.Within [.store, .books, .hold, .grip, .sched, .grant] (endedAt cause r e) :=
  .after (mapGrant_within _ rfl rfl) <| .after (modifyCopy_within _ r _) <| .after (endPause_within e) (.refl _ _)

/-- The strips that wait for the head: none is added. -/
def Ev.FewerStrips (e e' : Ev) : Prop := ∀ x ∈ e'.st.colour.strips, x ∈ e.st.colour.strips

theorem fewerStrips_of_within {w : List Part} {e e' : Ev} (h : e.Within w e') (out : .colour ∉ w := by decide) :
    e.FewerStrips e' := fun x inn => by
  have colour : e'.st.colour = e.st.colour := h.same .colour out
  exact colour ▸ inn

theorem fewerStrips_walk : HeadWalk Ev.FewerStrips where
  refl _ _ inn := inn
  trans h k x inn := h x (k x inn)
  report _ _ _ _ _ inn := (List.mem_filter.1 inn).1
  begins _ _ _ inn := inn
  waits _ _ _ _ inn := inn
  fires _ _ inn := inn
  serves _ _ _ inn := inn
  starts _ _ _ inn := inn
  cuts e o m := by
    refine fewerStrips_of_within (w := [.due, .media, .marks, .store]) ?_
    exact .after (mayClose_within _ _) <| .after (mapMarks_within _ rfl) <|
      Ev.Within.foldl _ _ _ fun e r => .after (modifyAttempt_within e r _) (.refl _ _)

/-- The clock of the strip of a copy that is done (R81, R132). -/
theorem done_strips (current : e.st.printing = some r) : ∀ x ∈ (endPrinting .done e).st.colour.strips, x.ref = r →
    x.clock = some
      { start := e.st.now, factor := dryFactor e.st.now e.st.scan.samples[(24 : Fin 25)],
        required := ((e.st.media.types[x.mediaType]).dryBase * 1000 *
          dryFactor e.st.now e.st.scan.samples[(24 : Fin 25)] + 99) / 100 } := by
  have within := endedAt_within .done r e
  have clock : (endedAt .done r e).st.clock = e.st.clock := within.same .clock (by decide)
  have scan : (endedAt .done r e).st.scan = e.st.scan := within.same .scan (by decide)
  have media : (endedAt .done r e).st.media.sameButHold e.st.media := within.same .media (by decide)
  intro x inn mine
  rw [endPrinting_some current, if_pos rfl, mayClose_st] at inn
  unfold startDryClock at inn
  simp only [State.now, clock, scan] at inn ⊢
  rw [media] at inn
  obtain ⟨y, -, rfl⟩ := List.mem_map.1 inn
  split at mine
  · next same => rw [if_pos same]
  · next other => exact absurd mine other

end

/-! ### PANEL_DONE -/

theorem doneEnds_holds : doneEnds := by
  intro s tag pl g served length grant prints ref factor
  let x : Ev := accepted .engine pl s
  have current : x.st.printing = some g.ref := printing_of_grant grant prints
  have taken : ReqKind.taken .panelDone .engine tag pl s =
      (settleMarks (copyEndTrigger (endPrinting .done x)), Reply.ok []) :=
    (taken_panelDone (readRef_bytes length)).trans (by rw [← ref, matchEnding_printing grant prints])
  obtain ⟨ps, ran, answer, settings⟩ := exec_replies (x := (settleMarks (copyEndTrigger (endPrinting .done x)), Reply.ok [])) served taken
    (settleMarks_lost (copyEndTrigger (endPrinting .done x)))
  have begun : (Ev.begin s).Within [.ports] x := accepted_within .engine pl s
  have ended : x.Within endParts (endPrinting .done x) := endPrinting_within x .done
  have triggered := copyEndTrigger_within (endPrinting .done x)
  have head := runHead_within (copyEndTrigger (endPrinting .done x))
  have after : (endPrinting .done x).Follows Attempt.ending (runHead (copyEndTrigger (endPrinting .done x))) :=
    (Ev.Follows.of_within triggered).trans (runHead_follows markBlind_ending _)
  have fewer : (endPrinting .done x).FewerStrips (runHead (copyEndTrigger (endPrinting .done x))) := fun y inn =>
    fewerStrips_of_within triggered (by decide) y (fewerStrips_walk.runHead _ y inn)
  have path := triggered.comp (v := .scan :: markParts) head
  unfold settleMarks at ran answer settings
  generalize runHead (copyEndTrigger (endPrinting .done x)) = f at *
  have whole : (Ev.begin s).Within (.ports :: .scan :: endParts ++ settleParts) (settle f) :=
    ((begun.comp (v := .ports :: endParts) ended).comp (v := .ports :: .scan :: endParts) path).comp (settle_within _)
  have kept := settle_kept f
  have sched : (settle f).st.sched = endedSchedule s g := by
    have marked : f.st.sched = (endPrinting .done x).st.sched := path.same .sched (by decide)
    rw [kept.sched, marked, endPrinting_sched current]
    exact endPrinting_endedSchedule (s := s) grant .done g.ref
  have scan : (settle f).st.scan = (copyEndTrigger (endPrinting .done x)).st.scan :=
    kept.scan.trans (head.same .scan (by decide))
  have strips : ∀ y ∈ (settle f).st.colour.strips, y ∈ (endPrinting .done x).st.colour.strips := fun y inn =>
    fewer y (by rwa [kept.colour] at inn)
  have ends := fun j c j' c' => ending_settled (j := j) (c := c) (j' := j') (c' := c') current after
  have before : (endPrinting .done x).st.scan = s.scan := ended.same .scan (by decide)
  have clock : (endPrinting .done x).st.clock = s.clock := ended.same .clock (by decide)
  have idle : (endPrinting .done x).st.printing = none := endPrinting_printing_none .done x
  have fired : (copyEndTrigger (endPrinting .done x)).st.scan =
      if s.scan.config.onCopyEnd then (triggerScan .copyEnd (endPrinting .done x)).st.scan else s.scan := by
    unfold copyEndTrigger
    rw [before]
    split
    · rfl
    · exact before
  rw [triggerScan_scan, before] at fired
  have started : (endPrinting .done x).st.scanStarted .copyEnd =
      { s.scan with
        running := some
          { kind := .copyEnd, first := s.scan.config.first, last := s.scan.config.last,
            start := s.now, qualifying := true, next := s.scan.config.first.val } } := by
    simp only [State.scanStarted, before, State.now, clock, idle, Option.isNone_none]
  rw [started, ← scan] at fired
  have dry := done_strips current
  generalize settle f = t at *
  refine ⟨_, ran, answer, sched, fun j c j' c' here later => ends j c j' c' here later, fun y inn mine => dry y (strips y inn) mine,
    fun off => fired.trans (if_neg (by simp [off])), fun on rests => fired.trans ?_, fun on runs => fired.trans ?_,
    whole.settingsKept.beside fun q => (settings q).1, whole.same .meter (by decide), whole.same .bays (by decide),
    whole.same .pos (by decide), whole.same .rolls (by decide), whole.same .clock (by decide),
    Prod.ext whole.pins whole.pending⟩
  · rw [if_pos on, rests]
    rfl
  · rw [if_pos on, if_neg (by simpa [Option.isSome_iff_ne_none] using runs)]

/-! ### The attempt that closes -/

/-- A job without its copies. -/
def Job.uncopied (j : Job) : Job := { j with copies := [] }

theorem uncopied_eq {j j' : Job} (same : j'.uncopied = j.uncopied) : j' = { j with copies := j'.copies } := by
  show { j'.uncopied with copies := j'.copies } = _
  rw [same]
  rfl

theorem modifyCopy_uncopied (e : Ev) (r : CopyRef) (f : CopyRecord → CopyRecord) (h : Nat) :
    ((e.modifyCopy r f).st.job? h).map Job.uncopied = (e.st.job? h).map Job.uncopied :=
  job?_congr (modifyJob_table (g := Job.uncopied) (f := fun j => { j with copies := modifyCopies r f j.copies }) e
    r.handle fun _ => rfl) h

theorem endPause_uncopied (e : Ev) (h : Nat) :
    ((endPause e).st.job? h).map Job.uncopied = (e.st.job? h).map Job.uncopied := by
  unfold endPause
  split
  · exact modifyCopy_uncopied e _ _ h
  · rfl

/-- The attempt whose printing ends now: its job stands but for its copies (R12). -/
theorem endedAt_attempt_of {e : Ev} {r : CopyRef} {j : Job} {c : CopyRecord} (cause : EndCause)
    (current : e.st.printing = some r) (here : e.st.attempt? r = some (j, c)) :
    ∃ cs n, (endedAt cause r e).st.attempt? r = some ({ j with copies := cs },
      CopyRecord.endPrinting cause e.st.now e.st.media.pos { c with record := { c.record with accruedPause := n } }) := by
  obtain ⟨j', n, ended, -⟩ := endedAt_attempt cause current here
  obtain ⟨open_, -⟩ := attempt?_eq_some.1 here
  obtain ⟨open', -⟩ := attempt?_eq_some.1 ended
  have same : ((endedAt cause r e).st.job? r.handle).map Job.uncopied = (e.st.job? r.handle).map Job.uncopied :=
    (modifyCopy_uncopied (endPause e) r _ _).trans (endPause_uncopied e _)
  rw [open_, open'] at same
  refine ⟨j'.copies, n, ?_⟩
  rw [← uncopied_eq (Option.some.inj same)]
  exact ended

/-- The marks of an ended attempt, where the path has none. -/
theorem endMarks_bare {e : Ev} (r : CopyRef) (bare : e.st.media.marks = []) : endMarks r e = e := by
  have stays : withdrawMeasure r e = e := by
    unfold withdrawMeasure
    rw [bare]
    rfl
  unfold endMarks
  split
  · rfl
  · next j _ =>
    rw [stays]
    unfold moveTrailingCut trailingCut
    rw [bare]
    simp

section
variable {j : Job} {a : Attempt}

theorem classOf_cancelled (other : a.endCause ≠ some .cancelled) :
    classOf j a = .cancelled ↔ a.measureDropped = true := by
  unfold classOf
  constructor
  · intro is
    by_contra kept
    rw [if_neg (by simp [other, kept])] at is
    split_ifs at is
    revert is
    split
    · simp
    · split
      · simp
      · split <;> simp
      · simp
  · exact fun dropped => if_pos (.inr dropped)

theorem classOf_accepted (other : a.endCause ≠ some .cancelled) : classOf j a = .accepted ↔
    a.measureDropped = false ∧ a.endCause = some .done ∧ (j.check = none ∨ a.measure = .pass ∨
      ∃ k why, j.check = some k ∧ a.measure = .unmeasured why ∧ k.unmeasured = .accept) := by
  unfold classOf
  cases dropped : a.measureDropped
  · simp only [other, Bool.false_eq_true, or_false, if_false, true_and]
    by_cases done : a.endCause = some .done
    · simp only [done, if_true, true_and]
      cases check : j.check with
      | none => simp
      | some k =>
        cases a.measure <;> simp
        cases k.unmeasured <;> simp
    · simp [done]
  · simp

end

/-- What the close of an attempt adds to its job (R16, R159). -/
theorem advanced_counts (e : Ev) (r : CopyRef) (j : Job) (c : CopyRecord) :
    let k := (e.billed r j c).advanced r (copyNext j c)
    k.clientBooked = j.clientBooked + e.client j c ∧ k.houseBooked = j.houseBooked + (e.total j c - e.client j c) ∧
      k.acceptedCount = j.acceptedCount + (if copyNext j c = .accepted then 1 else 0) ∧
      k.rejectedCount = j.rejectedCount + (if copyNext j c = .rejected then 1 else 0) ∧
      k.cancelledCount = j.cancelledCount + (if copyNext j c = .cancelled then 1 else 0) := by
  unfold Job.advanced
  cases copyNext j c <;> exact ⟨rfl, rfl, rfl, rfl, rfl⟩

/-- The share of the client in a closing attempt (R159). -/
theorem client_eq (e : Ev) (j : Job) (c : CopyRecord) : e.client j c = if classOf j c.record = .waste then
      (match j.waste with
        | .client => e.total j c
        | .house => 0
        | .shared => e.total j c / 2)
    else e.total j c := by
  unfold Ev.client clientPart
  cases classOf j c.record <;> cases j.waste <;> simp

/-- What a copy's next state leaves of its attempt (R16). -/
theorem advance_attempt (c : CopyRecord) (cs : CopyState) :
    (cs = .pending → (CopyRecord.advance cs c).attempt = c.attempt + 1 ∧ (CopyRecord.advance cs c).record = Attempt.fresh) ∧
      (cs ≠ .pending → (CopyRecord.advance cs c).attempt = c.attempt ∧ (CopyRecord.advance cs c).record = c.record) := by
  refine ⟨fun is => by rw [is]; exact ⟨rfl, rfl⟩, fun other => ?_⟩
  cases cs
  case pending => exact absurd rfl other
  all_goals exact ⟨rfl, rfl⟩

theorem copyNext_eq (j : Job) (c : CopyRecord) : copyNext j c = match classOf j c.record with
    | .accepted => .accepted
    | .cancelled => .cancelled
    | .waste =>
      if c.attempt < j.reprintLimit + 1 then (if j.cancelled then .cancelled else .pending) else .rejected := by
  unfold copyNext nextCopyState
  cases classOf j c.record <;> rfl

section
variable {s : State} {k : ReqKind} {tag : Byte} {pl : List Byte} {x : Ev} {r : CopyRef} {j j₁ : Job} {c c₁ : CopyRecord}
  {cs : List CopyRecord} {n : Nat} {cause : EndCause}

/-- A notice of the event is in every queue that takes it (R171, R172). -/
theorem closes_queued (h : x.Closing r j₁ c₁) (few : lateNotices .copyDone x.raised ≤ 1)
    (settings : x.st.portSettings = s.portSettings) (pins : x.st.pins = s.pins) (p : Port) (free : s.portHeld p = false)
    (takes : 0 < (s.ports.unit p).levels[NoticeKind.index .copyDone]) :
    ∃ y ∈ ((respond .engine (requestHeader k tag pl) (settle x, Reply.ok [])).finish.ports.unit p).queue,
      y.notice = doneNotice r j₁ c₁ := by
  obtain ⟨bound, raised⟩ := h.notices
  have kept := settle_kept x
  have ports := kept.ports
  have still := kept.pins.trans pins
  have same : (x.st.ports.unit p).settings = (s.ports.unit p).settings := congrFun settings p
  clear kept
  generalize settle x = f at *
  have levels : ((respond .engine (requestHeader k tag pl) (f, Reply.ok [])).st.ports.unit p).levels =
      (s.ports.unit p).levels := by
    refine Eq.trans ?_ (Prod.mk.inj same).1
    rw [← ports]
    cases p <;> rfl
  have held : (respond .engine (requestHeader k tag pl) (f, Reply.ok [])).st.portHeld p = false := by
    rw [← free]
    show f.st.portHeld p = s.portHeld p
    simp only [State.portHeld, still]
  rw [finish_unit, held]
  refine offerAll_keeps _ raised ?_ (by rw [levels]; exact takes)
  have most : lateNotices .copyDone f.raised ≤ 5 := bound.few.trans (by omega)
  exact lt_of_le_of_lt most (by decide)

/-- The answer to a request and the end of its event stand clear of the jobs and the accounts. -/
theorem finish_respond (p : Port) (h : Header) (e : Ev) (a : Reply) :
    (respond p h (e, a)).finish.store = e.st.store ∧ (respond p h (e, a)).finish.cost = e.st.cost := ⟨rfl, rfl⟩

/-- The close of an attempt that ended its printing in the event (R15, R16, R158, R159). -/
theorem attemptCloses_of (served : s.serves k .engine pl = true) (taken : k.taken .engine tag pl s = (settle x, Reply.ok []))
    (h : x.Closing r j₁ c₁) (job : j₁ = { j with copies := cs })
    (copy : c₁ = CopyRecord.endPrinting cause s.now s.media.pos { c with record := { c.record with accruedPause := n } })
    (cost : x.st.cost = s.cost) (few : lateNotices .copyDone x.raised ≤ 1)
    (settings : x.st.portSettings = s.portSettings) (pins : x.st.pins = s.pins) (other : cause ≠ .cancelled) :
    ∃ t : State, exec (k.command .engine tag pl) s = .next t ∧ attemptCloses s t r j c cause := by
  have ran := exec_settled served (tag := tag) (by rw [taken]; exact settle_lost x)
  rw [taken] at ran
  have queued := closes_queued (s := s) (k := k) (tag := tag) (pl := pl) h few settings pins
  obtain ⟨j', open_, filed⟩ := h.job
  have charged := h.charged
  have found := (copy?_congr (congrArg Job.copies filed :) r.copy).trans (advanced_copy h.here)
  obtain ⟨client, house, accepted, rejected, cancelled⟩ := advanced_counts x r j₁ c₁
  have total : x.total j₁ c₁ = attemptTotal s.cost.prices[j.priceSet] j.mediaType
      { c.record with ended := some { time := s.now, pos := s.media.pos }, endCause := some cause } := by
    unfold Ev.total
    rw [cost, job, copy]
    rfl
  have cause_ : c₁.record.endCause = some cause := by rw [copy]; rfl
  have live : c₁.record.endCause ≠ some .cancelled := fun is => other (Option.some.inj (cause_.symm.trans is))
  have dropped := classOf_cancelled (j := j₁) live
  have sound := classOf_accepted (j := j₁) live
  have share := client_eq x j₁ c₁
  have next := copyNext_eq j₁ c₁
  rw [total] at share house charged
  rw [cost] at charged
  refine ⟨_, ran, ?_⟩
  obtain ⟨store, accounts⟩ := finish_respond .engine (requestHeader k tag pl) (settle x) (Reply.ok [])
  generalize (respond .engine (requestHeader k tag pl) (settle x, Reply.ok [])).finish = t at *
  unfold State.job? at open_
  rw [← store] at open_
  rw [← accounts] at charged
  have moved := advance_attempt (x.billedCopy j₁ c₁) (copyNext j₁ c₁)
  have billed : (x.billedCopy j₁ c₁).record.booked =
      some { total := x.total j₁ c₁, client := x.client j₁ c₁, house := x.total j₁ c₁ - x.client j₁ c₁ } := rfl
  rw [total] at billed
  have record : (x.billedCopy j₁ c₁).attempt = c.attempt ∧
      (x.billedCopy j₁ c₁).record.ended = some { time := s.now, pos := s.media.pos } ∧
      (x.billedCopy j₁ c₁).record.endCause = some cause := by rw [copy]; exact ⟨rfl, rfl, rfl⟩
  obtain ⟨attempt, ended, caused⟩ := record
  subst job
  subst copy
  refine ⟨classOf _ _, copyNext _ _, x.client _ _, j', _, dropped, ?_, next.trans ?_, share.trans ?_, open_, found,
    advance_state _ _, fun is => ⟨?_, (moved.1 is).2⟩, fun is => ?_, (congrArg Job.clientBooked filed :).trans client,
    (congrArg Job.houseBooked filed :).trans house, (congrArg Job.acceptedCount filed :).trans accepted,
    (congrArg Job.rejectedCount filed :).trans rejected, (congrArg Job.cancelledCount filed :).trans cancelled,
    charged, queued⟩
  · refine sound.trans ⟨?_, ?_⟩
    · rintro ⟨kept, done, fine⟩
      exact ⟨kept, Option.some.inj (cause_.symm.trans done), fine⟩
    · rintro ⟨kept, done, fine⟩
      exact ⟨kept, cause_.trans (congrArg some done), fine⟩
  · generalize classOf _ _ = cls
    cases cls <;> rfl
  · cases j.waste <;> rfl
  · rw [(moved.1 is).1, attempt]
  · obtain ⟨same, kept⟩ := moved.2 is
    rw [same, kept]
    exact ⟨attempt, ended, caused, billed⟩

end

/-! ### The end of printing on a path without marks -/

section
variable {x : Ev} {r : CopyRef} {j : Job} {c : CopyRecord} {cause : EndCause}

/-- On a path without marks an end of printing touches the strips alone beside the attempt (R12, R81). -/
theorem endPrinting_bare (current : x.st.printing = some r) (bare : x.st.media.marks = []) :
    (endedAt cause r x).Within [.colour, .due] (endPrinting cause x) ∧ (endPrinting cause x).due = x.due ++ [r] := by
  have within := endedAt_within cause r x
  have marks : (endedAt cause r x).st.media.marks = x.st.media.marks := within.same .marks (by decide)
  have due : (endedAt cause r x).due = x.due := within.same .due (by decide)
  rw [endPrinting_some current, endMarks_bare r (marks.trans bare)]
  split
  · exact ⟨.after (mayClose_within _ _) (.after (startDryClock_within _ r) (.refl _ _)), congrArg (· ++ [r]) due⟩
  · exact ⟨.after (mayClose_within _ _) (.refl _ _), congrArg (· ++ [r]) due⟩

/-- An attempt that nothing keeps open closes with the end of its printing (R15). -/
theorem closing_ended (current : x.st.printing = some r) (here : x.st.attempt? r = some (j, c))
    (bare : x.st.media.marks = []) (cuts : c.record.outstandingCuts = 0) (measured : c.record.measure ≠ .pending)
    (due : x.due = []) (cost : x.st.cost = x.start.cost) (usable : x.st.ink.usable = x.start.ink.usable)
    (settings : x.st.inkSettings = x.start.inkSettings) : ∃ cs n,
    (endPrinting cause x).Closing r { j with copies := cs } (CopyRecord.endPrinting cause x.st.now x.st.media.pos
      { c with record := { c.record with accruedPause := n } }) := by
  obtain ⟨cs, n, ended⟩ := endedAt_attempt_of cause current here
  obtain ⟨rest, added⟩ := endPrinting_bare (cause := cause) current bare
  have within := (endedAt_within cause r x).comp (v := [.store, .books, .hold, .grip, .sched, .grant, .colour, .due]) rest
  have resolved : c.record.measure.resolved = true := by
    revert measured
    cases c.record.measure <;> simp [MeasureOutcome.resolved]
  have store : (endPrinting cause x).st.store = (endedAt cause r x).st.store := rest.same .store (by decide)
  have usable' : (endPrinting cause x).st.ink.usable = x.st.ink.usable := within.same .usable (by decide)
  have cost' : (endPrinting cause x).st.cost = x.st.cost := within.same .cost (by decide)
  have settings' : (endPrinting cause x).st.inkSettings = x.st.inkSettings := within.same .inkSettings (by decide)
  refine ⟨cs, n, ⟨by rw [added, due]; rfl, ?_, ?_, endPrinting_printing_none _ _, ?_, ?_, ?_⟩⟩
  · rw [← ended]
    unfold State.attempt? State.job?
    rw [store]
  · simp [readyToClose, CopyRecord.endPrinting, cuts, resolved]
  · rw [within.start]
    exact cost'.trans cost
  · rw [within.start]
    exact usable'.trans usable
  · rw [within.start]
    exact settings'.trans settings

/-- What stands clear of the jobs and the accounts leaves the close to come. -/
theorem Ev.Closing.within {y : Ev} {w : List Part} (h : x.Closing r j c) (k : x.Within w y)
    (clear : ∀ q ∈ [Part.due, .store, .grant, .cost, .usable, .inkSettings], q ∉ w := by decide) : y.Closing r j c := by
  have store : y.st.store = x.st.store := k.same .store (clear _ (by decide))
  have cost : y.st.cost = x.st.cost := k.same .cost (clear _ (by decide))
  have usable : y.st.ink.usable = x.st.ink.usable := k.same .usable (clear _ (by decide))
  have settings : y.st.inkSettings = x.st.inkSettings := k.same .inkSettings (clear _ (by decide))
  have due : y.due = x.due := k.same .due (clear _ (by decide))
  refine ⟨due.trans h.due, ?_, h.ready, (printing_congr (k.same .grant (clear _ (by decide)))).trans h.idle, ?_, ?_, ?_⟩
  · rw [← h.here]
    unfold State.attempt? State.job?
    rw [store]
  · rw [cost, k.start, h.cost]
  · rw [usable, k.start, h.usable]
  · rw [settings, k.start, h.settings]

end

theorem triggerScan_raises (k : TriggerKind) (e : Ev) : e.Raises 1 (triggerScan k e) := by
  unfold triggerScan
  split
  · exact (Ev.Raises.of_within (startScan_within e k)).mono
  · unfold dropTrigger
    have flagged : e.Raises 0 (e.mapScan fun u => { u with overlap := true }) := .of_within (mapScan_within e rfl)
    dsimp only
    split
    · exact flagged.mono
    · exact flagged.trans (.late _ _ _ _)

section
variable {s : State} {k : ReqKind} {tag : Byte} {pl : List Byte} {g : Grant} {j : Job} {c : CopyRecord} {cause : EndCause}
  {y : Ev}

/-- A request that ends the printing of an attempt which nothing keeps open, on a path without marks. -/
theorem request_closes (served : s.serves k .engine pl = true) (grant : s.sched.grant = some g) (prints : g.printing = true)
    (here : s.attempt? g.ref = some (j, c)) (cuts : c.record.outstandingCuts = 0) (measured : c.record.measure ≠ .pending)
    (bare : s.media.marks = []) (then_ : (endPrinting cause (accepted .engine pl s)).Within [.scan, .raised] y)
    (few : (endPrinting cause (accepted .engine pl s)).Raises 1 y) (other : cause ≠ .cancelled)
    (taken : k.taken .engine tag pl s = (settleMarks y, Reply.ok [])) :
    ∃ t : State, exec (k.command .engine tag pl) s = .next t ∧ attemptCloses s t g.ref j c cause := by
  have current : (accepted .engine pl s).st.printing = some g.ref := printing_of_grant grant prints
  obtain ⟨cs, n, closing⟩ := closing_ended (cause := cause) (x := accepted .engine pl s) current here bare cuts measured
    rfl rfl rfl rfl
  obtain ⟨rest, -⟩ := endPrinting_bare (cause := cause) (x := accepted .engine pl s) current bare
  have ended : (accepted .engine pl s).Within [.store, .books, .hold, .grip, .sched, .grant, .colour, .due]
      (endPrinting cause (accepted .engine pl s)) := (endedAt_within cause g.ref _).comp rest
  have whole := ended.comp (v := [.store, .books, .hold, .grip, .sched, .grant, .colour, .due, .scan, .raised]) then_
  have raised : (endPrinting cause (accepted .engine pl s)).raised = [] := ended.same .raised (by decide)
  have marks : y.st.media.marks = [] := (show _ = _ from whole.same .marks (by decide)).trans bare
  have settings : y.st.portSettings = (accepted .engine pl s).st.portSettings := whole.same .portSettings (by decide)
  have begun : (accepted .engine pl s).st.portSettings = s.portSettings :=
    (accepted_within .engine pl s).same .portSettings (by decide)
  have bound := few.few
  rw [raised] at bound
  refine attemptCloses_of (x := y) served ?_ (closing.within then_) rfl rfl (whole.same .cost (by decide)) bound
    (settings.trans begun) whole.pins other
  rw [taken]
  exact congrArg (fun e => (settle e, Reply.ok [])) (runHead_rest (e := y) (by rw [marks]; simp))

end

theorem closesAtTheEnd_holds : closesAtTheEnd := by
  intro s tag pl b g j c length grant prints ref here cuts measured bare
  have matched : s.matchEnding (refAt pl 0) = .printing := by rw [← ref, matchEnding_printing grant prints]
  refine ⟨fun served => ?_, fun served small => ?_⟩
  · refine request_closes served grant prints here cuts measured bare
      (copyEndTrigger_within (endPrinting .done (accepted .engine pl s))) ?_ (by decide)
      ((taken_panelDone (readRef_bytes length)).trans (by rw [matched]))
    unfold copyEndTrigger
    split
    · exact triggerScan_raises _ _
    · exact (Ev.Raises.refl _).mono
  · have abort := (readAbort_bytes length b).trans (if_pos small)
    refine request_closes (cause := abortCause b) served grant prints here cuts measured bare (.refl _ _)
      (Ev.Raises.refl _).mono ?_ ((taken_panelAbort abort).trans (by rw [matched]))
    unfold abortCause
    split <;> simp

/-- Settles O34: a copy is done, and the attempt that nothing keeps open closes with its printing. -/
theorem panelDoneEnds : Obligations.PanelDoneEnds := ⟨doneEnds_holds, closesAtTheEnd_holds⟩

end Sys2Proof.Machine
end

section
/-! The end of a printing by an ABORT (5.5, O35): the cause, the MEASURE mark that goes, the trailing cut that moves. -/

namespace Sys2Proof.Machine

-- One proof after another: the stacks of many waiting threads do not fit the memory of one compile.
set_option Elab.async false

/-! ### The marks that the examination of the head leaves -/

/-- Every mark left stood on the list before with its kind and its owners, and one that had fired still has. -/
def Ev.MarksFrom (e e' : Ev) : Prop := ∀ m ∈ e'.st.media.marks, ∃ k ∈ e.st.media.marks,
  m.kind = k.kind ∧ m.owners = k.owners ∧ (k.fired = true → m.fired = true)

namespace Ev.MarksFrom

theorem of_subset {e e' : Ev} (marks : ∀ m ∈ e'.st.media.marks, m ∈ e.st.media.marks) : e.MarksFrom e' :=
  fun m inn => ⟨m, marks m inn, rfl, rfl, id⟩

theorem of_same {e e' : Ev} (marks : e'.st.media.marks = e.st.media.marks) : e.MarksFrom e' :=
  of_subset fun _ inn => marks ▸ inn

theorem trans {e f g : Ev} (h : e.MarksFrom f) (k : f.MarksFrom g) : e.MarksFrom g := fun m inn => by
  obtain ⟨y, before, kind, owners, fired⟩ := k m inn
  obtain ⟨z, first, kind', owners', fired'⟩ := h y before
  exact ⟨z, first, kind.trans kind', owners.trans owners', fun was => fired (fired' was)⟩

theorem modifyHead {e e' : Ev} {f : Mark → Mark} (marks : e'.st.media.marks = Machine.modifyHead f e.st.media.marks)
    (same : ∀ m, (f m).kind = m.kind ∧ (f m).owners = m.owners ∧ (m.fired = true → (f m).fired = true)) :
    e.MarksFrom e' := by
  intro m inn
  rw [marks] at inn
  cases list : e.st.media.marks with
  | nil =>
    rw [list] at inn
    cases inn
  | cons k ks =>
    rw [list] at inn
    rcases List.mem_cons.1 inn with rfl | later
    · exact ⟨k, List.mem_cons_self, same k⟩
    · exact ⟨m, List.mem_cons_of_mem _ later, rfl, rfl, id⟩

theorem walk : HeadWalk Ev.MarksFrom where
  refl _ := of_same rfl
  trans := trans
  report _ _ _ _ := of_subset fun _ inn => (List.mem_filter.1 inn).1
  begins _ _ := of_same rfl
  waits _ _ _ := of_same rfl
  fires _ := modifyHead rfl fun _ => ⟨rfl, rfl, fun _ => rfl⟩
  serves _ _ := modifyHead rfl fun _ => ⟨rfl, rfl, id⟩
  starts _ _ := modifyHead rfl fun _ => ⟨rfl, rfl, id⟩
  cuts e o m := of_subset fun k inn => by
    have marks : (resolveCut o m e).st.media.marks = e.st.media.marks.tail := by
      unfold resolveCut
      refine congrArg List.tail ?_
      exact foldl_keeps (fun x : Ev => x.st.media.marks = e.st.media.marks) _ _ _ (fun _ _ same => same) rfl
    rw [marks] at inn
    exact List.mem_of_mem_tail inn

end Ev.MarksFrom

/-! ### The MEASURE mark of an ended attempt -/

section
variable {e : Ev} {r : CopyRef} {j : Job} {p : Pos} {ms : List Mark}

/-- A list from which the MEASURE marks of an attempt are gone, or where they have fired (R100). -/
def measuresFired (r : CopyRef) (ms : List Mark) : Prop := ∀ m ∈ ms, m.kind = .measure → r ∈ m.owners → m.fired = true

theorem measuresFired_from {e' : Ev} (h : e.MarksFrom e') (fired : measuresFired r e.st.media.marks) :
    measuresFired r e'.st.media.marks := fun m inn measure owned => by
  obtain ⟨k, before, kind, owners, still⟩ := h m inn
  exact still (fired k before (kind ▸ measure) (owners ▸ owned))

/-- The marks once the unfired MEASURE of an ended attempt is withdrawn (R100). -/
theorem withdrawMeasure_marks (r : CopyRef) (e : Ev) : (withdrawMeasure r e).st.media.marks =
    if measureUnfired r e.st.media.marks then
      e.st.media.marks.filter fun k => !(k.kind == .measure && k.owners.contains r)
    else e.st.media.marks := by
  unfold withdrawMeasure
  split <;> rfl

theorem withdrawMeasure_fired (r : CopyRef) (e : Ev) : measuresFired r (withdrawMeasure r e).st.media.marks := by
  intro m inn measure owned
  rw [withdrawMeasure_marks] at inn
  split at inn
  · have kept := (List.mem_filter.1 inn).2
    simp [measure, owned] at kept
  · next none_ =>
    by_contra unfired
    refine none_ (List.any_eq_true.2 ⟨m, inn, ?_⟩)
    simp [measure, owned, Bool.eq_false_iff.2 unfired]

/-- The marks of kind MEASURE are those of the list before, however its CUT marks are placed. -/
theorem placeCut_measure {m : Mark} (inn : m ∈ placeCut r p ms) (measure : m.kind = .measure) : m ∈ ms := by
  unfold placeCut at inn
  dsimp only at inn
  split_ifs at inn
  · exact inn
  · obtain ⟨k, before, rfl⟩ := List.mem_map.1 inn
    split_ifs at measure ⊢ with cut
    · simp [show k.kind = .measure from measure] at cut
    · exact before
  · rcases mem_insertMark.1 inn with rfl | before
    · cases measure
    · exact before

theorem disownCut_measure {m : Mark} (inn : m ∈ disownCut r p ms) (measure : m.kind = .measure) : m ∈ ms := by
  obtain ⟨k, before, is⟩ := List.mem_filterMap.1 inn
  split at is
  · next cut =>
    simp only [Bool.and_eq_true, beq_iff_eq] at cut
    split at is
    · cases is
    · cases is
      rw [show k.kind = .measure from measure] at cut
      simp at cut
  · cases is
    exact before

theorem endMarks_fired (open_ : (e.st.job? r.handle).isSome = true) :
    measuresFired r (endMarks r e).st.media.marks := by
  unfold endMarks
  split
  · next none_ =>
    rw [none_] at open_
    cases open_
  · next j _ =>
    have fired := withdrawMeasure_fired r e
    generalize withdrawMeasure r e = f at fired ⊢
    unfold moveTrailingCut
    split
    · exact fired
    · split_ifs
      · exact fired
      · dsimp only
        split <;> exact fun m inn measure =>
          fired m (disownCut_measure (placeCut_measure inn measure) measure) measure

end

/-! ### PANEL_ABORT -/

theorem taken_abort {s : State} {tag : Byte} {pl : List Byte} {b : Byte} {g : Grant} (length : pl.length = 3)
    (small : b.toNat < 2) (grant : s.sched.grant = some g) (prints : g.printing = true) (ref : g.ref = refAt pl 0) :
    ReqKind.taken .panelAbort .engine tag (pl ++ [b]) s =
      (settleMarks (endPrinting (abortCause b) (accepted .engine (pl ++ [b]) s)), Reply.ok []) :=
  (taken_panelAbort ((readAbort_bytes length b).trans (if_pos small))).trans
    (by rw [← ref, matchEnding_printing grant prints])

theorem abortCause_stops (b : Byte) : abortCause b ≠ .done ∧ (abortCause b).ordersAbort = false := by
  unfold abortCause
  split <;> exact ⟨by simp, rfl⟩

/-- The job of an attempt whose printing ends stands but for its copies (R12). -/
theorem endedAt_uncopied (cause : EndCause) (r : CopyRef) (e : Ev) (h : Nat) :
    ((endedAt cause r e).st.job? h).map Job.uncopied = (e.st.job? h).map Job.uncopied :=
  (modifyCopy_uncopied (endPause e) r _ _).trans (endPause_uncopied e _)

theorem abortEnds_holds : abortEnds := by
  intro s tag pl b g served length grant prints ref
  refine ⟨fun small => ?_, fun large => exec_unread (read := readAbort) served rfl ?_⟩
  swap
  · rw [readAbort_bytes length, if_neg (Nat.not_lt.2 large)]
  let x : Ev := accepted .engine (pl ++ [b]) s
  have current : x.st.printing = some g.ref := printing_of_grant grant prints
  have taken := taken_abort (tag := tag) length small grant prints ref
  obtain ⟨ps, ran, answer, settings⟩ := exec_replies
    (x := (settleMarks (endPrinting (abortCause b) x), Reply.ok [])) served taken
    (settleMarks_lost (endPrinting (abortCause b) x))
  have begun : (Ev.begin s).Within [.ports] x := accepted_within .engine (pl ++ [b]) s
  have ended : x.Within endParts (endPrinting (abortCause b) x) := endPrinting_within x (abortCause b)
  have head := runHead_within (endPrinting (abortCause b) x)
  have after : (endPrinting (abortCause b) x).Follows Attempt.ending (runHead (endPrinting (abortCause b) x)) :=
    runHead_follows markBlind_ending _
  have from_ := Ev.MarksFrom.walk.runHead (endPrinting (abortCause b) x)
  have fired : (s.job? g.ref.handle).isSome = true → measuresFired g.ref (endPrinting (abortCause b) x).st.media.marks := by
    intro open_
    rw [endPrinting_some current, if_neg (abortCause_stops b).1, mayClose_st]
    refine endMarks_fired ?_
    rw [← Option.isSome_map (f := Job.uncopied), endedAt_uncopied, Option.isSome_map]
    exact open_
  unfold settleMarks at ran answer settings
  generalize runHead (endPrinting (abortCause b) x) = f at *
  have whole : (Ev.begin s).Within (.ports :: endParts ++ settleParts) (settle f) :=
    ((begun.comp (v := .ports :: endParts) ended).comp (v := .ports :: endParts) head).comp (settle_within _)
  have kept := settle_kept f
  have sched : (settle f).st.sched = endedSchedule s g := by
    have marked : f.st.sched = (endPrinting (abortCause b) x).st.sched := head.same .sched (by decide)
    rw [kept.sched, marked, endPrinting_sched current]
    refine (endPrinting_endedSchedule (s := s) grant (abortCause b) g.ref).trans ?_
    rw [(abortCause_stops b).2]
    rfl
  have left : (s.job? g.ref.handle).isSome = true → measuresFired g.ref (settle f).st.media.marks := fun open_ => by
    have still := measuresFired_from from_ (fired open_)
    rw [show (settle f).st.media.marks = f.st.media.marks by rw [kept.media]]
    exact still
  have ends := fun j c j' c' => ending_settled (j := j) (c := c) (j' := j') (c' := c') current after
  generalize settle f = t at *
  exact ⟨_, ran, answer, sched, ends, left, whole.settingsKept.beside fun q => (settings q).1,
    whole.same .scan (by decide), whole.same .meter (by decide), whole.same .bays (by decide),
    whole.same .pos (by decide), whole.same .rolls (by decide), whole.same .clock (by decide),
    Prod.ext whole.pins whole.pending⟩

/-! ### Where the trailing cut goes -/

/-- A mark but for its service. -/
def Mark.shape (k : Mark) : Pos × MarkKind × List CopyRef := (k.pos, k.kind, k.owners)

theorem insertMark_perm (m : Mark) (ms : List Mark) : (insertMark m ms).Perm (m :: ms) := by
  induction ms with
  | nil => exact .refl _
  | cons x xs ih =>
    unfold insertMark
    split
    · exact (ih.cons x).trans (.swap m x xs)
    · exact .refl _

section
variable {r : CopyRef} {p q : Pos} {ms : List Mark} {n : Nat}

theorem ownsCutAt_iff : ownsCutAt r q ms = true ↔ ∃ k ∈ ms, k.kind = .cut ∧ k.pos = q ∧ r ∈ k.owners := by
  simp [ownsCutAt, and_assoc]

theorem cutFull_iff : cutFull ms q = true ↔ ∃ k ∈ ms, k.kind = .cut ∧ k.pos = q ∧ 2 ≤ k.owners.length := by
  simp [cutFull, and_assoc]

/-- A CUT goes past those with two owners to the first position without one (R100, R114). -/
theorem cutLanding_place (le : n ≤ ms.length) (free : ownsCutAt r p ms ≠ true)
    (before : ∀ i, i < n → cutFull ms (p + BitVec.ofNat 32 i) = true) (stop : cutFull ms (p + BitVec.ofNat 32 n) ≠ true) :
    cutLanding r p ms = p + BitVec.ofNat 32 n := by
  obtain ⟨k, bound, lands, passed, stops⟩ := cutPosition_spec ms ms.length p
  unfold cutLanding
  rw [if_neg free, lands]
  rcases Nat.lt_trichotomy k n with lt | rfl | gt
  · rw [before k lt] at stops
    exact absurd (stops (by omega)) (by decide)
  · rfl
  · exact absurd (passed n gt) stop

/-- A CUT that finds none where it lands is a mark of its own (R114). -/
theorem placeCut_alone (lands : cutLanding r p ms = q) (alone : ¬ ∃ k ∈ ms, k.kind = .cut ∧ k.pos = q ∧ True) :
    ((placeCut r p ms).map Mark.shape).Perm ((q, .cut, [r]) :: ms.map Mark.shape) := by
  have none_ : (ms.any fun m => m.kind == .cut && m.pos == q) ≠ true := fun some_ => by
    obtain ⟨k, inn, is⟩ := List.any_eq_true.1 some_
    simp only [Bool.and_eq_true, beq_iff_eq] at is
    exact alone ⟨k, inn, is.1, is.2, trivial⟩
  have free : ownsCutAt r q ms ≠ true := fun owned => by
    obtain ⟨k, inn, kind, pos, -⟩ := ownsCutAt_iff.1 owned
    exact alone ⟨k, inn, kind, pos, trivial⟩
  have fresh : placeCut r p ms = insertMark (.fresh q .cut r) ms := by
    unfold placeCut
    dsimp only
    rw [lands, if_neg free, if_neg none_]
  rw [fresh]
  exact (insertMark_perm _ ms).map Mark.shape

/-- A CUT that finds one of another attempt where it lands makes its attempt an owner of it (R114). -/
theorem placeCut_merged (lands : cutLanding r p ms = q) (other : ownsCutAt r q ms ≠ true)
    (cut : ∃ k ∈ ms, k.kind = .cut ∧ k.pos = q ∧ True) : (placeCut r p ms).map Mark.shape =
      ms.map fun k => if k.kind = .cut ∧ k.pos = q then (k.pos, k.kind, k.owners ++ [r]) else k.shape := by
  obtain ⟨k, inn, kind, pos, -⟩ := cut
  unfold placeCut
  dsimp only
  rw [lands, if_neg other, if_pos (List.any_eq_true.2 ⟨k, inn, by simp [kind, pos]⟩), List.map_map]
  refine List.map_congr_left fun m _ => ?_
  by_cases here : m.kind = .cut ∧ m.pos = q
  · simp [here, Mark.shape]
  · rw [if_neg here, Function.comp, if_neg (by simpa using here)]

end

/-- A fired mark stands where it stood. -/
theorem firedAt_shape (q : Pos) (ms : List Mark) : (firedAt q ms).map Mark.shape = ms.map Mark.shape := by
  cases ms <;> rfl

/-! ### The event of the ABORT -/

section
variable {e : Ev} {r : CopyRef} {j : Job} {c : CopyRecord} {m : Mark}

/-- How many cuts of an attempt are still to come (R11). -/
def Attempt.cutsToCome (a : Attempt) : Nat := a.outstandingCuts

/-- The marks and the cuts to come once the head has been examined and the event has ended. -/
theorem untaken_settled (untaken : e.st.media.hold.state ≠ .taken) :
    (settle (runHead e)).st.media.marks.map Mark.shape = e.st.media.marks.map Mark.shape ∧
      e.Follows Attempt.cutsToCome (settle (runHead e)) := by
  rw [runHead_untaken untaken]
  have fired : e.Within [.media, .marks] (e.mapMedia fun x => { x with marks := firedAt e.st.media.pos x.marks }) :=
    mapMarks_within e rfl
  have marks : (e.mapMedia fun x => { x with marks := firedAt e.st.media.pos x.marks }).st.media.marks =
      firedAt e.st.media.pos e.st.media.marks := rfl
  generalize (e.mapMedia fun x => { x with marks := firedAt e.st.media.pos x.marks }) = f at fired marks
  have kept := (settle_kept f).media
  refine ⟨?_, (Ev.Follows.of_within fired).trans (settle_follows f (fun _ _ => rfl) (.inr fun _ _ => rfl))⟩
  rw [show (settle f).st.media.marks = f.st.media.marks by rw [kept], marks]
  exact firedAt_shape _ _

theorem withdrawMeasure_media (r : CopyRef) (e : Ev) :
    (withdrawMeasure r e).st.media = { e.st.media with marks := (withdrawMeasure r e).st.media.marks } := by
  unfold withdrawMeasure
  split <;> rfl

theorem withdrawMeasure_attempt (here : e.st.attempt? r = some (j, c)) :
    ∃ j' c', (withdrawMeasure r e).st.attempt? r = some (j', c') ∧ c'.record.cutsToCome = c.record.cutsToCome := by
  unfold withdrawMeasure
  split
  · exact ⟨_, _, attempt?_modifyAttempt (fun a => { a with measure := .none }) here, rfl⟩
  · exact ⟨j, c, here, rfl⟩

theorem withdrawMeasure_job (h : Nat) :
    ((withdrawMeasure r e).st.job? h).map Job.uncopied = (e.st.job? h).map Job.uncopied := by
  unfold withdrawMeasure
  split
  · exact modifyCopy_uncopied e r _ h
  · rfl

/-- An attempt whose MEASURE has not fired has none once it is withdrawn (R100). -/
theorem withdrawMeasure_all (unfired : ∀ m ∈ e.st.media.marks, m.kind = .measure → r ∈ m.owners → m.fired = false) :
    (withdrawMeasure r e).st.media.marks =
      e.st.media.marks.filter fun k => !(k.kind == .measure && k.owners.contains r) := by
  rw [withdrawMeasure_marks]
  split
  · rfl
  · next none_ =>
    refine (List.filter_eq_self.2 fun m inn => ?_).symm
    by_contra is
    simp only [Bool.not_eq_true', Bool.not_eq_false, Bool.and_eq_true, beq_iff_eq, List.contains_iff_mem] at is
    refine none_ (List.any_eq_true.2 ⟨m, inn, ?_⟩)
    simp [is.1, is.2, unfired m inn is.1 is.2]

/-- The withdrawal of a MEASURE leaves the trailing cut (R100). -/
theorem trailingCut_withdrawn (r : CopyRef) (j : Job) (ms : List Mark) :
    trailingCut r j (ms.filter fun k => !(k.kind == .measure && k.owners.contains r)) = trailingCut r j ms := by
  unfold trailingCut
  rw [List.filter_filter]
  refine if_congr Iff.rfl (congrArg List.getLast? (List.filter_congr fun k _ => ?_)) rfl
  cases k.kind <;> simp

theorem moveTrailingCut_stays (stays : ∀ m, trailingCut r j e.st.media.marks = some m → m.fired = true) :
    moveTrailingCut r j e = e := by
  unfold moveTrailingCut
  split
  · rfl
  · next m trailing => rw [if_pos (stays m trailing)]

/-- The cut moves to a CUT that its attempt owns already: none is placed (R100). -/
theorem moveTrailingCut_owned (trailing : trailingCut r j e.st.media.marks = some m) (unfired : m.fired = false)
    (owned : ownsCutAt r (cutLanding r (e.st.media.pos + steps e.st.media.settings.dCut)
      (disownCut r m.pos e.st.media.marks)) (disownCut r m.pos e.st.media.marks) = true) :
    moveTrailingCut r j e = (e.mapMedia fun x => { x with marks := disownCut r m.pos e.st.media.marks }).modifyAttempt r
      fun a => { a with outstandingCuts := a.outstandingCuts - 1 } := by
  unfold moveTrailingCut
  rw [trailing]
  dsimp only
  rw [if_neg (by simp [unfired]), if_pos owned]
  unfold placeCut
  dsimp only
  rw [if_pos owned]

theorem moveTrailingCut_placed (trailing : trailingCut r j e.st.media.marks = some m) (unfired : m.fired = false)
    (free : ownsCutAt r (cutLanding r (e.st.media.pos + steps e.st.media.settings.dCut)
      (disownCut r m.pos e.st.media.marks)) (disownCut r m.pos e.st.media.marks) ≠ true) :
    moveTrailingCut r j e = e.mapMedia fun x => { x with
      marks := placeCut r (e.st.media.pos + steps e.st.media.settings.dCut) (disownCut r m.pos e.st.media.marks) } := by
  unfold moveTrailingCut
  rw [trailing]
  dsimp only
  rw [if_neg (by simp [unfired]), if_neg free]

end

/-! ### The trailing cut of an aborted copy -/

section
variable {s : State} {b : Byte} {pl : List Byte} {g : Grant} {j : Job}

/-- The event of an ABORT once the MEASURE mark is withdrawn, before the trailing cut moves (R100). -/
def aborting (b : Byte) (pl : List Byte) (r : CopyRef) (s : State) : Ev :=
  withdrawMeasure r (endedAt (abortCause b) r (accepted .engine pl s))

theorem endPause_media (e : Ev) : (endPause e).st.media = { e.st.media with pause := none } := by
  unfold endPause
  split <;> rfl

theorem aborting_media (unfired : ∀ m ∈ s.media.marks, m.kind = .measure → g.ref ∈ m.owners → m.fired = false) :
    (aborting b pl g.ref s).st.media = { s.media with
      pause := none, marks := s.media.marks.filter fun k => !(k.kind == .measure && k.owners.contains g.ref) } := by
  have media : (endedAt (abortCause b) g.ref (accepted .engine pl s)).st.media = { s.media with pause := none } :=
    endPause_media (accepted .engine pl s)
  have all := withdrawMeasure_all (e := endedAt (abortCause b) g.ref (accepted .engine pl s)) (r := g.ref)
    (by rw [media]; exact unfired)
  unfold aborting
  rw [withdrawMeasure_media, all, media]

/-- The cuts to come of the aborted attempt, as the trailing cut is about to move. -/
theorem aborting_attempt (current : s.printing = some g.ref) {i : Job} {c : CopyRecord}
    (here : s.attempt? g.ref = some (i, c)) : ∃ i' c', (aborting b pl g.ref s).st.attempt? g.ref = some (i', c') ∧
      c'.record.cutsToCome = c.record.cutsToCome := by
  obtain ⟨i₁, n, ended, -⟩ := endedAt_attempt (abortCause b) (e := accepted .engine pl s) current here
  obtain ⟨i', c', later, same⟩ := withdrawMeasure_attempt ended
  exact ⟨i', c', later, same⟩

/-- The end of an aborted printing is the move of its trailing cut (R100). -/
theorem endPrinting_aborting (current : s.printing = some g.ref) (open_ : s.job? g.ref.handle = some j) :
    ∃ cs, endPrinting (abortCause b) (accepted .engine pl s) =
      (moveTrailingCut g.ref { j with copies := cs } (aborting b pl g.ref s)).mayClose [g.ref] := by
  have same := endedAt_uncopied (abortCause b) g.ref (accepted .engine pl s) g.ref.handle
  rw [show (accepted .engine pl s).st.job? g.ref.handle = some j from open_] at same
  obtain ⟨j', open', is⟩ := Option.map_eq_some_iff.1 same
  refine ⟨j'.copies, ?_⟩
  rw [endPrinting_some (e := accepted .engine pl s) current, if_neg (abortCause_stops b).1]
  unfold endMarks
  rw [open', ← uncopied_eq is]
  rfl

end

theorem trailingCutMoves_holds : trailingCutMoves := by
  intro s tag pl b g j served length small grant prints ref open_ untaken unfired r shape rest
  have current := printing_of_grant grant prints
  obtain ⟨cs, ended⟩ := endPrinting_aborting (b := b) (pl := pl ++ [b]) current open_
  obtain ⟨ps, ran, -⟩ := exec_replies
    (x := (settleMarks (endPrinting (abortCause b) (accepted .engine (pl ++ [b]) s)), Reply.ok [])) served
    (taken_abort (tag := tag) length small grant prints ref)
    (settleMarks_lost (endPrinting (abortCause b) (accepted .engine (pl ++ [b]) s)))
  have media := aborting_media (b := b) (pl := pl ++ [b]) unfired
  have cuts := fun i c here => aborting_attempt (b := b) (pl := pl ++ [b]) current (i := i) (c := c) here
  generalize aborting b (pl ++ [b]) g.ref s = w at ended media cuts
  have trailing : trailingCut g.ref { j with copies := cs } w.st.media.marks = trailingCut g.ref j s.media.marks := by
    rw [media]
    exact trailingCut_withdrawn g.ref j s.media.marks
  have held : (moveTrailingCut g.ref { j with copies := cs } w).st.media.hold.state ≠ .taken := by
    rw [(moveTrailingCut_within w g.ref _).held.1, media]
    exact untaken
  obtain ⟨shapes, follows⟩ := untaken_settled (e := (moveTrailingCut g.ref { j with copies := cs } w).mayClose [g.ref]) held
  rw [ended] at ran
  unfold settleMarks at ran
  generalize settle (runHead ((moveTrailingCut g.ref { j with copies := cs } w).mayClose [g.ref])) = t at *
  refine ⟨_, ran, fun stays => ?_, fun m trails stands => ?_⟩
  · rw [moveTrailingCut_stays (by rw [trailing]; exact stays)] at shapes
    refine shapes.trans (congrArg (List.map Mark.shape) ?_)
    rw [mayClose_st, media]
  intro kept cut full owned place outstanding
  have trails' := trailing.trans trails
  have marks : w.st.media.marks = rest := by rw [media]
  have ends : w.st.media.pos + steps w.st.media.settings.dCut = s.media.pos + steps s.media.settings.dCut := by rw [media]
  have position (n : Nat) : place n = s.media.pos + steps s.media.settings.dCut + BitVec.ofNat 32 n := by
    show s.media.pos + BitVec.ofNat 32 (s.media.settings.dCut + n) = _
    rw [BitVec.ofNat_add, ← BitVec.add_assoc]
    rfl
  have start : place 0 = s.media.pos + steps s.media.settings.dCut := by simp [position]
  have joins (lands : ownsCutAt r (cutLanding r (place 0) kept) kept = true) :
      t.st.media.marks.map shape = kept.map shape ∧ outstanding 1 := by
    have moved := moveTrailingCut_owned trails' stands (by rw [marks, ends, ← start]; exact lands)
    rw [moved, marks] at shapes follows
    refine ⟨shapes, fun i c i' c' here later => ?_⟩
    obtain ⟨i₁, c₁, before, same⟩ := cuts i c here
    have counted := follows.attempt (attempt?_modifyAttempt
      (e := w.mapMedia fun x => { x with marks := disownCut g.ref m.pos rest })
      (fun a => { a with outstandingCuts := a.outstandingCuts - 1 }) before) later
    exact counted.2.trans (congrArg (· - 1) same)
  have places (lands : ownsCutAt r (cutLanding r (place 0) kept) kept ≠ true) :
      t.st.media.marks.map shape = (placeCut r (place 0) kept).map shape ∧ outstanding 0 := by
    have moved := moveTrailingCut_placed trails' stands (by rw [marks, ends, ← start]; exact lands)
    rw [moved, marks, ends, ← start] at shapes follows
    refine ⟨shapes, fun i c i' c' here later => ?_⟩
    obtain ⟨i₁, c₁, before, same⟩ := cuts i c here
    exact (follows.attempt before later).2.trans same
  refine ⟨fun mine => joins ?_, fun n le free before stop => ?_⟩
  · unfold cutLanding
    rw [ownsCutAt_iff.2 mine, if_pos rfl]
    exact ownsCutAt_iff.2 mine
  have lands : cutLanding r (place 0) kept = place n := by
    rw [position n, ← start]
    refine cutLanding_place le (fun mine => free (ownsCutAt_iff.1 mine)) (fun i lt => cutFull_iff.2 ?_)
      fun there => stop ?_
    · rw [start, ← position i]
      exact before i lt
    · rw [start, ← position n] at there
      exact cutFull_iff.1 there
  refine ⟨fun mine => joins (by rw [lands]; exact ownsCutAt_iff.2 mine), fun alone => ?_, fun there other => ?_⟩
  · obtain ⟨same, toCome⟩ := places (by
      rw [lands]
      intro mine
      obtain ⟨k, inn, kind, pos, -⟩ := ownsCutAt_iff.1 mine
      exact alone ⟨k, inn, kind, pos, trivial⟩)
    exact ⟨same ▸ placeCut_alone lands alone, toCome⟩
  · have free' : ownsCutAt r (place n) kept ≠ true := fun mine => other (ownsCutAt_iff.1 mine)
    obtain ⟨same, toCome⟩ := places (by rw [lands]; exact free')
    exact ⟨same.trans (placeCut_merged lands free' there), toCome⟩

/-- Settles O35: an ABORT ends the copy, withdraws its MEASURE and moves its trailing cut. -/
theorem panelAbortEnds : Obligations.PanelAbortEnds := ⟨abortEnds_holds, trailingCutMoves_holds⟩

end Sys2Proof.Machine
end

section
/-! PANEL_REQUEST (5.2, 5.3, O31): the refusal, the gates and the answer NONE. -/

namespace Sys2Proof.Machine

-- One proof after another: the stacks of many waiting threads do not fit the memory of one compile.
set_option Elab.async false

section
variable {s : State} {p : Port} {tag : Byte}

/-- A PANEL_REQUEST whose staged table is loaded (R88). -/
def loading (p : Port) (s : State) : Ev := (accepted p [] s).mapSched Schedule.load

theorem taken_panelRequest (p : Port) (tag : Byte) (s : State) : ReqKind.panelRequest.taken p tag [] s =
    if s.printing.isSome then (accepted p [] s, Reply.refuse .wrongState)
    else if (loading p s).st.gates = NoneReasons.clear then answerWalk (loading p s)
    else answerNone (loading p s).st.gates (loading p s) :=
  taken_none (f := fun _ e => if e.st.printing.isSome then refuse .wrongState e
    else if (e.mapSched Schedule.load).st.gates = NoneReasons.clear then answerWalk (e.mapSched Schedule.load)
      else answerNone (e.mapSched Schedule.load).st.gates (e.mapSched Schedule.load)) rfl

theorem load_other (u : Schedule) : u.load = { u with
    live := u.load.live, pointer := u.load.pointer, loadPending := u.load.loadPending } := by
  unfold Schedule.load
  split <;> rfl

/-- The gates of a PANEL_REQUEST (R89). -/
theorem loading_gates (p : Port) (s : State) : (loading p s).st.gates =
    { NoneReasons.clear with
      capped := s.sched.power == .capped
      drops := !s.meter.confirmed
      abort := s.sched.abort.isSome } := by
  unfold State.gates
  rw [show (loading p s).st.sched = s.sched.load from rfl, load_other]
  rfl

/-! ### The walk does not look at the ports -/

theorem laneChoice_ports (s : State) (ps : Ports) (lane : Fin 4) :
    State.laneChoice { s with ports := ps } lane = s.laneChoice lane := rfl

theorem walkPhases_ports (s : State) (ps : Ports) (n : Nat) (i : Fin 32) :
    State.walkPhases { s with ports := ps } n i = s.walkPhases n i := by
  induction n generalizing i with
  | zero => rfl
  | succ n ih =>
    unfold State.walkPhases
    rw [laneChoice_ports, show ({ s with ports := ps } : State).sched = s.sched from rfl]
    cases s.laneChoice s.sched.live[i] with
    | none => exact ih _
    | some h => rfl

theorem walkReasons_ports (s : State) (ps : Ports) :
    State.walkReasons { s with ports := ps } = s.walkReasons := rfl

/-- A NONE answer: the staged table, the note of the answer, and the bytes (R88, R94, R124). -/
theorem exec_answersNone {r : NoneReasons} (served : s.serves .panelRequest p [] = true)
    (taken : ReqKind.panelRequest.taken p tag [] s = answerNone r (loading p s)) :
    exec (ReqKind.panelRequest.command p tag []) s = .next (State.noteOrders s
      (State.answered p .panelRequest tag [] (Reply.ok (noneReport { s with sched := s.sched.load } r))
        { s with sched := s.sched.load, media := { s.media with lastNone := true } })) :=
  exec_moved served taken

end

/-- Settles O31: the refusal under a PRINTING copy, the gates, and the reasons of a walk that finds nothing. -/
theorem panelRequestNone : Obligations.PanelRequestNone := by
  intro s tag served u answer gated
  have taken := taken_panelRequest .engine tag s
  have gates := loading_gates .engine s
  refine ⟨fun printing => ?_, fun idle closed => ?_, fun idle free nothing => ?_⟩
  · exact exec_answered served (taken.trans (if_pos printing))
  · have shut : (loading .engine s).st.gates ≠ NoneReasons.clear := by
      rw [gates]
      intro none_
      obtain ⟨capped, drops, abort⟩ : (s.sched.power == .capped) = false ∧ (!s.meter.confirmed) = false ∧
          s.sched.abort.isSome = false := by
        injection none_ with capped drops abort
        exact ⟨capped, drops, abort⟩
      rcases closed with is | is | is
      · simp [is] at capped
      · simp [is] at drops
      · rw [is] at abort
        cases abort
    rw [if_neg (by simp [idle]), if_neg shut, gates] at taken
    exact exec_answersNone served taken
  · have open_ : (loading .engine s).st.gates = NoneReasons.clear := by
      rw [gates]
      simp only [gated, not_or] at free
      obtain ⟨run, confirmed, order⟩ := free
      simp [NoneReasons.clear, run, Bool.not_eq_false _ ▸ confirmed, Bool.not_eq_true _ ▸ order]
    have walks : answerWalk (loading .engine s) = answerNone u.walkReasons (loading .engine s) := by
      unfold answerWalk
      have none_ : (loading .engine s).st.walkPhases 32 (loading .engine s).st.sched.pointer = none :=
        (walkPhases_ports u _ 32 _).trans nothing
      rw [none_]
      exact congrArg (fun r => answerNone r (loading .engine s)) (walkReasons_ports u _)
    rw [if_neg (by simp [idle]), if_pos open_, walks] at taken
    exact exec_answersNone served taken

end Sys2Proof.Machine
end

section
/-! CANCEL_JOB (1.7, O24): the job is at rest from the cancel to the end of its event. -/

namespace Sys2Proof.Machine

-- One proof after another: the stacks of many waiting threads do not fit the memory of one compile.
set_option Elab.async false

/-! ### What touches other jobs only -/

/-- The job `h` stands as it was, and joins no wait list. -/
structure Ev.Beside (h : Fin 32) (e e' : Ev) : Prop where
  job : e'.st.job? h.val = e.st.job? h.val
  waits : h ∈ e'.st.store.waitList → h ∈ e.st.store.waitList

namespace Ev.Beside

variable {h : Fin 32} {e : Ev}

theorem of_store {e e' : Ev} (store : e'.st.store = e.st.store) : e.Beside h e' := by
  refine ⟨?_, ?_⟩
  · unfold State.job?
    rw [store]
  · rw [store]
    exact id

theorem refl (e : Ev) : e.Beside h e := of_store rfl

theorem of_within {w : List Part} {e e' : Ev} (k : e.Within w e') (out : .store ∉ w := by decide) : e.Beside h e' :=
  of_store (k.same .store out)

theorem trans {e f g : Ev} (a : e.Beside h f) (b : f.Beside h g) : e.Beside h g :=
  ⟨b.job.trans a.job, fun inn => a.waits (b.waits inn)⟩

theorem modifyJob (e : Ev) {n : Nat} (other : h.val ≠ n) (f : Job → Job) : e.Beside h (e.modifyJob n f) :=
  ⟨job?_modifyJob_ne _ other, by rw [modifyJob_waitList]; exact id⟩

theorem takeReservation (e : Ev) {n : Nat} (other : h.val ≠ n) (j : Job) : e.Beside h (takeReservation n j e) :=
  (of_within (mapReserved_within e _)).trans (modifyJob _ other _)

theorem releaseReservation (e : Ev) {n : Nat} (other : h.val ≠ n) : e.Beside h (releaseReservation n e) :=
  ⟨job?_releaseReservation_ne other, by rw [releaseReservation_waitList]; exact id⟩

theorem leaveWaitList (e : Ev) (n : Nat) : e.Beside h (leaveWaitList n e) :=
  ⟨rfl, fun inn => (List.mem_filter.1 inn).1⟩

theorem joinWaitList (e : Ev) {k : Fin 32} (other : h ≠ k) : e.Beside h (joinWaitList k e) := by
  refine ⟨job?_modifyJob_ne _ fun same => other (Fin.ext same), fun inn => ?_⟩
  have waits : h ∈ insertAdmitted e.st k e.st.store.waitList := by
    refine Eq.mp ?_ inn
    show (h ∈ insertAdmitted e.st k (e.modifyJob k.val fun j => { j with state := .waitInk }).st.store.waitList) = _
    rw [modifyJob_waitList]
  exact (mem_insertAdmitted.1 waits).resolve_left other

theorem closeJobIfDone (e : Ev) {n : Nat} (other : h.val ≠ n) : e.Beside h (closeJobIfDone n e) := by
  unfold Machine.closeJobIfDone
  split
  · exact refl e
  · split
    · unfold Machine.closeJob
      split
      · exact refl e
      · refine .trans ?_ (of_within (raise_within _ _ _ _))
        refine .trans ?_ (modifyJob _ other _)
        exact ((releaseReservation e other).trans (leaveWaitList _ n)).trans (of_within (modifyAccount_within _ _ fun _ => rfl))
    · exact refl e

theorem rejoin (e : Ev) {n : Nat} (other : h.val ≠ n) : e.Beside h (rejoin n e) := by
  unfold Machine.rejoin
  split
  · split
    · exact refl e
    · split_ifs
      · exact refl e
      · exact modifyJob e other _
      · exact (takeReservation e other _).trans (of_within (raise_within _ _ _ _))
      · exact (joinWaitList e fun same => other (congrArg Fin.val same)).trans (of_within (raise_within _ _ _ _))
  · exact refl e

theorem advanced (e : Ev) {r : CopyRef} (other : h.val ≠ r.handle) (j : Job) (c : CopyRecord) :
    e.Beside h (advanced e r j c) := by
  have booked : e.Beside h (bookAttempt r (classOf j c.record) e) := by
    unfold bookAttempt
    split
    · exact refl e
    · dsimp only
      refine .trans ?_ (of_within (modifyAccount_within _ _ (Account.terms_charge _)))
      refine .trans ?_ (of_within (modifyAccount_within _ _ fun _ => by simp only [Account.terms, Account.charge]))
      exact (modifyJob e other _).trans (modifyJob _ other _)
  exact ((booked.trans (modifyJob _ other _)).trans (modifyJob _ other _)).trans (of_within (raise_within _ _ _ _))

theorem closeAttempt (e : Ev) {r : CopyRef} (other : h.val ≠ r.handle) (j : Job) (c : CopyRecord) :
    e.Beside h (closeAttempt r j c e) := by
  rw [closeAttempt_eq]
  split
  · exact (advanced e other j c).trans (rejoin _ other)
  · exact (advanced e other j c).trans (closeJobIfDone _ other)

theorem walkOne (e : Ev) {k : Fin 32} (other : h ≠ k) : e.Beside h (walkOne k e) := by
  have apart : h.val ≠ k.val := fun same => other (Fin.ext same)
  unfold Machine.walkOne
  split
  · exact refl e
  · split
    · exact ((takeReservation e apart _).trans (leaveWaitList _ _)).trans (of_within (raise_within _ _ _ _))
    · exact refl e

theorem trimJob (e : Ev) {k : Fin 32} (other : h ≠ k) : e.Beside h (trimJob k e) := by
  have released := releaseReservation e (h := h) (n := k.val) fun same => other (Fin.ext same)
  unfold Machine.trimJob
  dsimp only
  split
  · exact released
  · split
    · exact (released.trans (joinWaitList _ other)).trans (of_within (raise_within _ _ _ _))
    · exact released

end Ev.Beside

/-! ### A cancelled job -/

/-- A cancelled job holds no ink and has no PENDING copy; the copies named are CANCELLED (R18, R19). -/
structure Job.Cancelled (kept : Nat → Prop) (j : Job) : Prop where
  cancelled : j.cancelled = true
  unheld : j.reservationHeld = false
  empty : j.reservation = Vector.replicate 12 0
  pending : ∀ c ∈ j.copies, c.state ≠ .pending
  copies : ∀ n, kept n → ∃ c, j.copy? n = some c ∧ c.state = .cancelled

/-- The job is CLOSED where every copy is terminal, and CLOSING otherwise (R9, R10). -/
def Job.Winds (j : Job) : Prop := j.state = if j.allTerminal then .closed else .closing

/-- A job stands with a property, and is on no wait list. -/
def Ev.Rest (h : Fin 32) (P : Job → Prop) (e : Ev) : Prop :=
  h ∉ e.st.store.waitList ∧ ∃ j, e.st.job? h.val = some j ∧ P j

theorem Ev.Rest.beside {h : Fin 32} {P : Job → Prop} {e e' : Ev} (rest : e.Rest h P) (k : e.Beside h e') : e'.Rest h P :=
  ⟨fun inn => rest.1 (k.waits inn), by rw [k.job]; exact rest.2⟩

theorem Job.Cancelled.congr {kept : Nat → Prop} {j k : Job} (h : j.Cancelled kept) (cancelled : k.cancelled = j.cancelled)
    (held : k.reservationHeld = j.reservationHeld) (reserved : k.reservation = j.reservation)
    (sheet : k.sheet.2 = j.sheet.2) : k.Cancelled kept where
  cancelled := cancelled.trans h.cancelled
  unheld := held.trans h.unheld
  empty := reserved.trans h.empty
  pending c inn is := by
    have mem : (c.state, c.attempt) ∈ k.sheet.2 := List.mem_map.2 ⟨c, inn, rfl⟩
    rw [sheet] at mem
    obtain ⟨d, old, same⟩ := List.mem_map.1 mem
    exact h.pending d old ((Prod.mk.inj same).1.trans is)
  copies n keep := by
    obtain ⟨c, copy, state⟩ := h.copies n keep
    have found := copyOf_sheet k n
    rw [sheet, copyOf_sheet j n, copy] at found
    obtain ⟨d, now, same⟩ := Option.map_eq_some_iff.1 found.symm
    exact ⟨d, now, (Prod.mk.inj same).1.trans state⟩

theorem Job.Winds.congr {j k : Job} (h : j.Winds) (sheet : k.sheet = j.sheet) : k.Winds := by
  have terminal : k.allTerminal = j.allTerminal := by
    rw [Bool.eq_iff_iff, allTerminal_iff, allTerminal_iff, sheet]
  have state : k.state = j.state := congrArg Prod.fst sheet
  unfold Job.Winds
  rw [terminal, state]
  exact h

section
variable {h : Fin 32} {kept : Nat → Prop} {P : Job → Prop} {e : Ev} {j : Job}

/-- A property that a job's book shows rests on the books and the wait list. -/
theorem rest_rests (shows : ∀ j k : Job, k.book = j.book → P j → P k) : Rests [.books, .waitList] (Ev.Rest h P) := by
  rintro e e' same ⟨out, j, here, holds⟩
  have books := job?_congr (same .books (by decide)) h.val
  rw [here] at books
  obtain ⟨k, now, eq⟩ := Option.map_eq_some_iff.1 books
  exact ⟨by rw [same .waitList (by decide)]; exact out, k, now, shows j k eq holds⟩

theorem cancelled_rests (h : Fin 32) (kept : Nat → Prop) : Rests [.books, .waitList] (Ev.Rest h (Job.Cancelled kept)) :=
  rest_rests fun _ _ book holds => holds.congr (congrArg Job.cancelled book :) (congrArg Job.reservationHeld book :)
    (congrArg Job.reservation book :) (congrArg Prod.snd (Job.sheet_of_book book))

/-- A cancelled job that winds down, at rest. -/
def Ev.Winding (h : Fin 32) (kept : Nat → Prop) : Ev → Prop := Ev.Rest h fun j => j.Cancelled kept ∧ j.Winds

theorem winding_rests (h : Fin 32) (kept : Nat → Prop) : Rests [.books, .waitList] (Ev.Winding h kept) :=
  rest_rests fun _ _ book holds => ⟨holds.1.congr (congrArg Job.cancelled book :) (congrArg Job.reservationHeld book :)
    (congrArg Job.reservation book :) (congrArg Prod.snd (Job.sheet_of_book book)), holds.2.congr (Job.sheet_of_book book)⟩

theorem mem_of_copy? {n : Nat} {c : CopyRecord} (copy : j.copy? n = some c) : c ∈ j.copies := by
  cases n with
  | zero => cases copy
  | succ n => exact List.mem_of_getElem? copy

/-- A cancelled job that is CLOSING closes where every copy is terminal (R10). -/
theorem closeJobIfDone_winds (out : h ∉ e.st.store.waitList) (here : e.st.job? h.val = some j) (holds : j.Cancelled kept)
    (closing : j.state = .closing) : (closeJobIfDone h.val e).Winding h kept := by
  unfold closeJobIfDone
  rw [here]
  dsimp only
  split
  · next done =>
    unfold closeJob
    rw [here]
    have at_ : (leaveWaitList h.val (releaseReservation h.val e)).st.job? h.val = some j.released :=
      job?_releaseReservation here
    refine (winding_rests h kept).within (raise_within _ _ _ _) ⟨?_, { j.released with state := .closed }, ?_, ?_, ?_⟩
    · rw [modifyJob_waitList]
      exact not_mem_leaveWaitList
    · exact (job?_modifyJob_same _ _ _).trans (congrArg (Option.map _) at_ :)
    · exact holds.congr rfl holds.unheld.symm holds.empty.symm rfl
    · have terminal : ({ j.released with state := .closed } : Job).allTerminal = true := done.2
      unfold Job.Winds
      rw [if_pos terminal]
  · next still =>
    refine ⟨out, j, here, holds, ?_⟩
    unfold Job.Winds
    rw [if_neg fun terminal => still ⟨by rw [closing]; simp, terminal⟩, closing]

/-- The attempts of a cancelled job close without a return to PENDING (R16, R19). -/
theorem copyNext_cancelled {c : CopyRecord} (cancelled : j.cancelled = true) : copyNext j c ≠ .pending := by
  unfold copyNext nextCopyState
  split
  · simp
  · simp
  · rw [if_pos cancelled]
    split <;> simp

theorem advanced_cancelled {r : CopyRef} {c : CopyRecord} (holds : j.Cancelled kept) (copy : j.copy? r.copy = some c)
    (ready : c.state = .finishing) : ((e.billed r j c).advanced r (copyNext j c)).Cancelled kept := by
  have next := copyNext_cancelled (c := c) holds.cancelled
  generalize copyNext j c = cs at next ⊢
  have fields : ((e.billed r j c).advanced r cs).cancelled = j.cancelled ∧
      ((e.billed r j c).advanced r cs).reservationHeld = j.reservationHeld ∧
      ((e.billed r j c).advanced r cs).reservation = j.reservation ∧
      ((e.billed r j c).advanced r cs).copies = modifyCopies r (CopyRecord.advance cs) (e.billed r j c).copies := by
    unfold Job.advanced
    cases cs <;> exact ⟨rfl, rfl, rfl, rfl⟩
  obtain ⟨cancelled, held, reserved, copies⟩ := fields
  refine ⟨cancelled.trans holds.cancelled, held.trans holds.unheld, reserved.trans holds.empty, fun d inn => ?_, fun n keep => ?_⟩
  · rw [copies] at inn
    rcases mem_modifyCopies inn with old | ⟨d, -, -, rfl⟩
    · rcases mem_modifyCopies old with first | ⟨d, before, -, rfl⟩
      · exact holds.pending _ first
      · exact holds.pending d before
    · rw [advance_state]
      exact next
  · obtain ⟨d, before, state⟩ := holds.copies n keep
    have other : ¬ (n = r.copy ∧ d.attempt = r.attempt) := by
      rintro ⟨rfl, -⟩
      cases before.symm.trans copy
      rw [ready] at state
      cases state
    exact ⟨d, (copy?_congr copies n).trans (copy?_modifyCopies_other _ (copy?_modifyCopies_other _ before other) other), state⟩

theorem closeAttempt_winds {r : CopyRef} {c : CopyRecord} (here : e.st.attempt? r = some (j, c))
    (ready : c.state = .finishing) (winding : e.Winding h kept) : (closeAttempt r j c e).Winding h kept := by
  by_cases other : h.val = r.handle
  swap
  · exact winding.beside (.closeAttempt e other j c)
  obtain ⟨out, k, open_, holds, winds⟩ := winding
  obtain ⟨job, copy, number⟩ := attempt?_eq_some.1 here
  rw [other] at open_
  cases open_.symm.trans job
  have waits : (advanced e r j c).st.store.waitList = e.st.store.waitList := by
    have within : e.Within [.store, .books, .cost, .dues, .raised] (advanced e r j c) :=
      .after (raise_within _ _ _ _) <| .after (modifyJob_within _ _ (Job.steady_countTerminal _)) <|
        .after (modifyCopy_within _ r _) <| .after (bookAttempt_within e r _) (.refl _ _)
    exact within.same .waitList (by decide)
  have closing : j.state = .closing := by
    refine winds.trans (if_neg fun terminal => ?_)
    have done := (allTerminal_iff j).1 terminal (c.state, c.attempt) (List.mem_map.2 ⟨c, mem_of_copy? copy, rfl⟩)
    rw [ready] at done
    cases done
  rw [closeAttempt_eq, if_neg (copyNext_cancelled holds.cancelled), ← other]
  refine closeJobIfDone_winds (by rw [waits]; exact out) (by rw [other]; exact advanced_job here)
    (advanced_cancelled holds copy ready) ?_
  rw [(Job.advanced_fields _ _ _).1]
  exact closing

theorem settleCloses_winds (winding : e.Winding h kept) : (settleCloses e).Winding h kept := by
  refine foldl_keeps (fun x : Ev => x.Winding h kept) _ _ _ (fun x r winds => ?_) ((winding_rests h kept).within (noDue_within e) winding)
  unfold closeIfReady
  split
  · exact winds
  · next j c here =>
    split
    · next ready =>
      simp only [readyToClose, Bool.and_eq_true, beq_iff_eq] at ready
      exact closeAttempt_winds here ready.1.1.1 winds
    · exact winds

theorem trim_winds (n : Nat) (any : Bool) (winding : e.Winding h kept) : (trim n any e).2.Winding h kept := by
  induction n generalizing any e with
  | zero => exact winding
  | succ n ih =>
    unfold trim
    split
    · exact winding
    · next k chosen =>
      refine ih _ (winding.beside (.trimJob e fun same => ?_))
      obtain ⟨j, here, -, c, -, some_⟩ := trimmable_iff.1 (trimChoice_some chosen)
      obtain ⟨-, j', here', holds, -⟩ := winding
      rw [same] at here'
      cases here'.symm.trans here
      rw [holds.empty] at some_
      simp at some_

theorem walk_winds (winding : e.Winding h kept) : (walk e).Winding h kept := by
  unfold walk
  have out := winding.1
  generalize e.st.store.waitList = l at out ⊢
  induction l generalizing e with
  | nil => exact winding
  | cons k ks ih =>
    simp only [List.mem_cons, not_or] at out
    exact ih (winding.beside (.walkOne e out.1)) out.2

theorem settle_winds (winding : e.Winding h kept) : (settle e).Winding h kept := by
  have R := winding_rests h kept
  have closed := settleCloses_winds (R.within (setLost_within e false) winding)
  have trimmed := trim_winds 32 false (R.within (evalFlags_within _) closed)
  have short := R.within (settleShort_within _) trimmed
  have inked : (settleInk (settleCloses { e with lost := false })).Winding h kept := by
    rw [settleInk_eq]
    split
    · exact walk_winds short
    · exact short
  rw [settle_eq]
  exact R.within (syncPause_within _) (R.within (syncHold_within _) (R.within (settleAccounts_within _) inked))

theorem settleMarks_winds (winding : e.Winding h kept) : (settleMarks e).Winding h kept :=
  settle_winds ((winding_rests h kept).within (runHead_within e) winding)

end

/-! ### The cancel -/

section
variable {h : Fin 32} {e : Ev} {j : Job}

/-- The PENDING copies of a job that does not print (R19). -/
def keptOf (h : Fin 32) (j : Job) (s : State) (n : Nat) : Prop :=
  s.jobPrints h.val = false ∧ ∃ c, j.copy? n = some c ∧ c.state = .pending

theorem withdrawn_job (here : e.st.job? h.val = some j) :
    (withdrawn h e).st.job? h.val = some (Job.released { j with cancelled := true }).cancelPending := by
  have marked : (e.modifyJob h.val fun k => { k with cancelled := true }).st.job? h.val =
      some { j with cancelled := true } := by
    rw [job?_modifyJob_same, here]
    rfl
  have left : (leaveWaitList h.val (releaseReservation h.val
      (e.modifyJob h.val fun k => { k with cancelled := true }))).st.job? h.val =
        some (Job.released { j with cancelled := true }) := job?_releaseReservation marked
  rw [withdrawn, job?_modifyJob_same, left]
  rfl

/-- The copies of a job once its PENDING copies are CANCELLED (R19). -/
theorem copy?_cancelPending (j : Job) (n : Nat) : j.cancelPending.copy? n =
    (j.copy? n).map fun c => if c.state = .pending then { c with state := .cancelled } else c := by
  cases n with
  | zero => rfl
  | succ n => exact List.getElem?_map

theorem withdrawn_rest (here : e.st.job? h.val = some j) :
    (withdrawn h e).Rest h (Job.Cancelled fun n => ∃ c, j.copy? n = some c ∧ c.state = .pending) := by
  refine ⟨?_, _, withdrawn_job here, rfl, rfl, rfl, ?_, fun n pending => ?_⟩
  · rw [withdrawn, modifyJob_waitList]
    exact not_mem_leaveWaitList
  · exact countIn_eq_zero.1 (by rw [countIn_cancelPending, if_pos rfl])
  · obtain ⟨c, copy, state⟩ := pending
    refine ⟨{ c with state := .cancelled }, ?_, rfl⟩
    rw [copy?_cancelPending, show Job.copy? (Job.released { j with cancelled := true }) n = j.copy? n from copy?_congr rfl n,
      copy]
    exact congrArg some (if_pos state)

/-- The end of the printing copy leaves no copy PENDING (R12). -/
theorem endPrinting_cancelled {kept : Nat → Prop} (cause : EndCause) (rest : e.Rest h (Job.Cancelled kept)) :
    (endPrinting cause e).Rest h (Job.Cancelled fun _ => False) := by
  have weak : e.Rest h (Job.Cancelled fun _ => False) := by
    obtain ⟨out, j, here, holds⟩ := rest
    exact ⟨out, j, here, { holds with copies := fun _ no => no.elim }⟩
  have R := cancelled_rests h fun _ => False
  cases current : e.st.printing with
  | none =>
    rw [endPrinting_none current]
    exact weak
  | some r =>
    have ended : (endedAt cause r e).Rest h (Job.Cancelled fun _ => False) := by
      obtain ⟨out, j, here, holds⟩ := R.within (endPause_within e) weak
      refine ⟨?_, ?_⟩
      · show h ∉ ((endPause e).modifyCopy r _).st.store.waitList
        rw [Ev.modifyCopy, modifyJob_waitList]
        exact out
      · show ∃ k, ((endPause e).modifyCopy r _).st.job? h.val = some k ∧ _
        rw [Ev.modifyCopy, job?_modifyJob, here]
        split
        · refine ⟨_, rfl, { holds with copies := fun _ no => no.elim, pending := fun c inn => ?_ }⟩
          rcases mem_modifyCopies inn with old | ⟨d, -, -, rfl⟩
          · exact holds.pending c old
          · simp [CopyRecord.endPrinting]
        · exact ⟨j, rfl, holds⟩
    rw [endPrinting_some current]
    refine R.within (mayClose_within _ _) ?_
    split
    · exact R.within (startDryClock_within _ r) ended
    · exact R.within (endMarks_within _ r) ended

/-- The job before its measures are dropped (R19). -/
def unprinted (h : Fin 32) (e : Ev) : Ev :=
  if e.st.jobPrints h.val then endPrinting .cancelled (withdrawn h e) else withdrawn h e

theorem unprinted_rest (here : e.st.job? h.val = some j) : (unprinted h e).Rest h (Job.Cancelled (keptOf h j e.st)) := by
  have rest := withdrawn_rest here
  unfold unprinted
  split
  · next prints =>
    obtain ⟨out, k, now, holds⟩ := endPrinting_cancelled .cancelled rest
    refine ⟨out, k, now, { holds with copies := fun n keep => ?_ }⟩
    have off := keep.1
    rw [prints] at off
    cases off
  · obtain ⟨out, k, now, holds⟩ := rest
    exact ⟨out, k, now, { holds with copies := fun n keep => holds.copies n keep.2 }⟩

/-- A cancelled job at the end of its event (R18, R19). -/
theorem cancelJob_winds (here : e.st.job? h.val = some j) : (cancelJob h j e).Winding h (keptOf h j e.st) := by
  obtain ⟨out, k, now, holds⟩ := (cancelled_rests h _).within
    (refsFold_within (unprinted h e) (refsFrom h.val 1 j.copies)) (unprinted_rest here)
  rw [cancelJob_eq]
  refine closeJobIfDone_winds (j := { k with state := .closing }) ?_ ?_ (holds.congr rfl rfl rfl rfl) rfl
  · rw [modifyJob_waitList]
    exact out
  · rw [job?_modifyJob_same, show ((refsFrom h.val 1 j.copies).foldl (fun e r => dropMeasure r e)
      (if e.st.jobPrints h.val then endPrinting .cancelled (withdrawn h e) else withdrawn h e)).st.job? h.val = some k from now]
    rfl

/-- What follows the end of the printing copy stays clear of the schedule. -/
theorem unprinted_within (h : Fin 32) (j : Job) (e : Ev) :
    (unprinted h e).Within (markParts ++ closeParts) (cancelJob h j e) := by
  rw [cancelJob_eq]
  exact .after (closeJobIfDone_within _ _) <| .after (modifyJob_within _ _ fun _ => ⟨rfl, rfl⟩) <|
    .after (refsFold_within _ _) (.refl _ _)

section
variable {α : Type} {g : Attempt → α} (blind : MarkBlind g)

include blind

theorem dropMeasure_follows (r : CopyRef) (e : Ev) : e.Follows g (dropMeasure r e) := by
  have written : e.Follows g (e.modifyAttempt r fun a => { a with measure := .none, measureDropped := true }) :=
    .modifyAttempt e r _ fun a => blind.measured a .none true
  have unbegun : e.Follows g (dropNotBegun r e) :=
    .then_within (mayClose_within _ _) <| .then_within (dropMeasureMark_within _ r) <|
      .then_within (mapColour_within _ rfl rfl id) written
  have ended : e.Follows g (endDropped r e) :=
    .then_within (mayClose_within _ _) <| .then_within (dropMeasureMark_within _ r) <|
      .then_within (mapColour_within _ rfl rfl id) written
  unfold dropMeasure
  split
  · exact .refl e
  · split_ifs
    · exact .refl e
    · split
      · exact unbegun
      · split_ifs
        · exact unbegun
        · split
          · exact ended
          · exact .of_within (mapColour_within e rfl rfl id)

theorem unprinted_follows (h : Fin 32) (j : Job) (e : Ev) : (unprinted h e).Follows g (cancelJob h j e) := by
  rw [cancelJob_eq]
  refine .trans ?_ (.of_sameFiled (closeJobIfDone_sameFiled _ _))
  refine .trans ?_ (.modifyBeside _ _ fun _ => rfl)
  exact .foldl _ _ _ fun e r => dropMeasure_follows blind r e

end

end

theorem jobPrints_iff {s : State} {h : Nat} : s.jobPrints h = true ↔ s.printing.map (·.handle) = some h := by
  simp [State.jobPrints]

theorem withdrawn_within (h : Fin 32) (e : Ev) :
    e.Within [.store, .books, .waitList, .reserved, .channels, .freed] (withdrawn h e) :=
  .after (modifyJob_within _ _ Job.steady_cancelPending) <| .after (leaveWaitList_within _ _) <|
    .after (releaseReservation_within _ _) <| .after (modifyJob_within _ _ fun _ => ⟨rfl, rfl⟩) (.refl _ _)

/-- The printing copy of a cancelled job (R12, R101). -/
theorem unprinted_ends {h : Fin 32} {e : Ev} {r : CopyRef} (current : e.st.printing = some r) (mine : r.handle = h.val) :
    unprinted h e = endPrinting .cancelled (withdrawn h e) ∧
      (unprinted h e).st.sched = Schedule.endPrinting .cancelled r e.st.sched ∧ (unprinted h e).st.printing = none := by
  have is : unprinted h e = endPrinting .cancelled (withdrawn h e) :=
    if_pos (jobPrints_iff.2 (by rw [current, ← mine]; rfl))
  have sched : (withdrawn h e).st.sched = e.st.sched := (withdrawn_within h e).same .sched (by decide)
  refine ⟨is, ?_, by rw [is]; exact endPrinting_printing_none _ _⟩
  rw [is, endPrinting_sched (by unfold State.printing; rw [sched]; exact current), sched]

theorem unprinted_idle {h : Fin 32} {e : Ev} (off : e.st.jobPrints h.val = false) :
    (unprinted h e).st.sched = e.st.sched := by
  have is : unprinted h e = withdrawn h e := if_neg (Bool.eq_false_iff.1 off)
  rw [is]
  exact (withdrawn_within h e).same .sched (by decide)

/-- How the printing copy of a cancelled job ended, at the end of the event (R12, R18). -/
theorem cancelled_ending {h : Fin 32} {e : Ev} {j : Job} (here : e.st.job? h.val = some j) (r : CopyRef) (c : CopyRecord)
    (i' : Job) (c' : CopyRecord) (current : e.st.printing = some r) (mine : r.handle = h.val)
    (there : e.st.attempt? r = some (j, c))
    (later : (settleMarks (cancelJob h j e)).st.attempt? r = some (i', c')) :
    c'.record.endCause = some .cancelled ∧ c'.record.ended = some { time := e.st.now, pos := e.st.media.pos } := by
  have same := withdrawn_within h e
  have clock : (withdrawn h e).st.clock = e.st.clock := same.same .clock (by decide)
  have pos : (withdrawn h e).st.media.pos = e.st.media.pos := same.same .pos (by decide)
  have after : (endPrinting .cancelled (withdrawn h e)).Follows Attempt.ending (runHead (cancelJob h j e)) := by
    rw [← (unprinted_ends current mine).1]
    exact (unprinted_follows markBlind_ending h j e).trans (runHead_follows markBlind_ending _)
  obtain ⟨-, copy, number⟩ := attempt?_eq_some.1 there
  have cancelled : Job.copy? (Job.cancelPending (Job.released { j with cancelled := true })) r.copy =
      some (if c.state = .pending then { c with state := .cancelled } else c) := by
    rw [copy?_cancelPending, show Job.copy? (Job.released { j with cancelled := true }) r.copy = j.copy? r.copy from
      copy?_congr rfl _, copy]
    rfl
  have mid := attempt?_eq_some.2 ⟨by rw [mine]; exact withdrawn_job here, cancelled, by split <;> exact number⟩
  have ends := (ending_settled (same.printing.trans current) after mid later).2
  rw [show (withdrawn h e).st.now = e.st.now from congrArg TimeBase.mono clock, pos] at ends
  exact ends

/-- Settles O24: the cancelled job is at rest at the end of its event. -/
theorem cancelEndsTheJob : Obligations.CancelEndsTheJob := by
  intro s p tag h j stored b served
  have taken := taken_open (k := .cancelJob) (p := p) (tag := tag) (f := fun e h j =>
    if j.state = .closed then refuse .wrongState e
    else (settleMarks (cancelJob h j e), Reply.ok (cancelReport (((settleMarks (cancelJob h j e)).st.job? h.val).getD j))))
    rfl stored
  refine ⟨fun closed => exec_answered served (taken.trans (if_pos closed)), fun open_ => ?_⟩
  rw [if_neg open_] at taken
  have here : (accepted p b s).st.job? h.val = some j := (dif_pos h.isLt).trans stored
  have winding := settleMarks_winds (cancelJob_winds here)
  obtain ⟨ps, ran, answer, settings⟩ := exec_replies (x := (settleMarks (cancelJob h j (accepted p b s)), Reply.ok
      (cancelReport (((settleMarks (cancelJob h j (accepted p b s))).st.job? h.val).getD j)))) served taken
    (settleMarks_lost (cancelJob h j (accepted p b s)))
  have cancelled : (Ev.begin s).Within (.ports :: [.sched, .grant] ++ settleMarkParts) (cancelJob h j (accepted p b s)) :=
    (accepted_within p b s).comp (cancelJob_within (accepted p b s) h j)
  have whole : (Ev.begin s).Within (.ports :: [.sched, .grant] ++ settleMarkParts)
      (settleMarks (cancelJob h j (accepted p b s))) := cancelled.comp (settleMarks_within _)
  have calm : (unprinted h (accepted p b s)).Within (markParts ++ closeParts ++ settleMarkParts)
      (settleMarks (cancelJob h j (accepted p b s))) :=
    (unprinted_within h j (accepted p b s)).comp (settleMarks_within _)
  have still := calm.printing
  have sched : (settleMarks (cancelJob h j (accepted p b s))).st.sched = (unprinted h (accepted p b s)).st.sched :=
    calm.same .sched (by decide)
  have ends := cancelled_ending (e := accepted p b s) here
  generalize settleMarks (cancelJob h j (accepted p b s)) = t at *
  obtain ⟨out, j', here', holds, winds⟩ := winding
  rw [here'] at answer
  refine ⟨_, j', ran, (dif_pos h.isLt).symm.trans here', holds.cancelled, holds.unheld, holds.empty,
    countIn_eq_zero.2 holds.pending, out, winds, answer, fun off => ?_, fun r current mine => ?_,
    whole.settingsKept.beside fun q => (settings q).1, whole.same .meter (by decide), whole.same .scan (by decide),
    whole.same .bays (by decide), whole.same .pos (by decide), whole.same .rolls (by decide),
    whole.same .clock (by decide), Prod.ext whole.pins whole.pending⟩
  · have off' : s.jobPrints h.val = false := Bool.eq_false_iff.2 fun prints => off (jobPrints_iff.1 prints)
    exact ⟨sched.trans (unprinted_idle off'), fun n c copy state => holds.copies n ⟨off', c, copy, state⟩⟩
  · obtain ⟨-, ended, none_⟩ := unprinted_ends (e := accepted p b s) current mine
    refine ⟨still.trans none_, ?_, fun c i' c' there later => ends r c i' c' current mine there later⟩
    show t.st.sched.abort = some r
    rw [sched, ended]
    rfl

end Sys2Proof.Machine
end

section
/-! The draw of a report and what the end of its event leaves of it (3.4 to 3.6, O27, O28). -/

namespace Sys2Proof.Machine

-- One proof after another: the stacks of many waiting threads do not fit the memory of one compile.
set_option Elab.async false

/-! ### What the ink has given -/

/-- The ink drawn from a channel's two bays (R57). -/
def InkUnit.drawnFrom (i : InkUnit) (c : Fin 12) : Nat := i.bays[bayOf c .a].drawn + i.bays[bayOf c .b].drawn

theorem drawnFrom_side (i : InkUnit) (c : Fin 12) (sd : Side) :
    i.drawnFrom c = i.bays[bayOf c sd].drawn + i.bays[bayOf c sd.other].drawn := by
  cases sd
  · rfl
  · exact Nat.add_comm _ _

theorem usable_side (i : InkUnit) (c : Fin 12) (sd : Side) : i.usable c =
    i.bays[bayOf c sd].usable i.channels[c].dead + i.bays[bayOf c sd.other].usable i.channels[c].dead := by
  cases sd
  · rfl
  · exact Nat.add_comm _ _

/-- Ink taken from the bays of one channel: the drawn figures rise by it, no overdraw changes, no usable volume
rises (R57). -/
structure InkUnit.Taps (c : Fin 12) (n : Nat) (i j : InkUnit) : Prop where
  drawn : ∀ x, j.drawnFrom x = i.drawnFrom x + if x = c then n else 0
  overdraw : ∀ x : Fin 12, j.channels[x].overdraw = i.channels[x].overdraw
  usable : ∀ x, j.usable x ≤ i.usable x

namespace InkUnit.Taps

variable {c : Fin 12} {m n : Nat} {i j k : InkUnit}

theorem refl (c : Fin 12) (i : InkUnit) : i.Taps c 0 i :=
  ⟨fun x => by simp, fun _ => rfl, fun _ => Nat.le_refl _⟩

theorem trans (h : i.Taps c m j) (h' : j.Taps c n k) : i.Taps c (m + n) k := by
  refine ⟨fun x => ?_, fun x => (h'.overdraw x).trans (h.overdraw x), fun x => (h'.usable x).trans (h.usable x)⟩
  rw [h'.drawn, h.drawn]
  split <;> omega

/-- A change of one bay of the channel and of the channel's own record. -/
theorem change {sd : Side} {f : Bay → Bay} {g : Channel → Channel}
    (drawn : (f i.bays[bayOf c sd]).drawn = i.bays[bayOf c sd].drawn + n)
    (usable : (f i.bays[bayOf c sd]).usable i.channels[c].dead ≤ i.bays[bayOf c sd].usable i.channels[c].dead)
    (dead : ∀ ch, (g ch).dead = ch.dead) (overdraw : ∀ ch, (g ch).overdraw = ch.overdraw) :
    i.Taps c n (i.change c sd f g) := by
  refine ⟨fun x => ?_, fun x => ?_, fun x => ?_⟩
  · by_cases same : x = c
    · subst same
      rw [drawnFrom_side _ x sd, drawnFrom_side _ x sd, change_bay, change_bay_other, drawn, if_pos rfl]
      omega
    · rw [if_neg same]
      unfold drawnFrom
      rw [change_bay_away _ _ _ _ _ same, change_bay_away _ _ _ _ _ same]
      rfl
  · by_cases same : x = c
    · subst same
      rw [change_channel, overdraw]
    · rw [change_channel_away _ _ _ _ _ same]
  · by_cases same : x = c
    · subst same
      rw [usable_side _ x sd, usable_side _ x sd, change_bay, change_bay_other, change_channel, dead]
      omega
    · refine le_of_eq ?_
      unfold InkUnit.usable
      rw [change_bay_away _ _ _ _ _ same, change_bay_away _ _ _ _ _ same, change_channel_away _ _ _ _ _ same]

end InkUnit.Taps

section
variable {c : Fin 12} {sd : Side} {n v : Nat} {e : Ev}

/-- A bay that is given up holds nothing usable any more (R31, R33). -/
theorem becomeSpent_taps : e.st.ink.Taps c 0 (becomeSpent c sd e).st.ink := by
  rw [becomeSpent_ink]
  exact .change rfl (Nat.zero_le _) (fun _ => rfl) fun _ => rfl

theorem switchIfReady_taps : e.st.ink.Taps c 0 (switchIfReady c sd e).st.ink := by
  unfold switchIfReady
  split
  · next ready =>
    have active : e.st.ink.Taps c 0 (becomeActive c sd e).st.ink := by
      rw [becomeActive_ink]
      refine .change rfl (le_of_eq ?_) (fun _ => rfl) fun _ => rfl
      unfold Bay.usable
      rw [ready]
      rfl
    unfold switchTo
    dsimp only
    split
    · exact active.trans becomeSpent_taps
    · exact active
  · exact .refl c _

theorem giveUp_taps : e.st.ink.Taps c 0 (giveUp c e).st.ink := by
  unfold giveUp
  split
  · exact .refl c _
  · split
    · exact becomeSpent_taps.trans switchIfReady_taps
    · exact .refl c _

/-- A draw within the level of its bay (R57). -/
theorem drawFrom_taps (le : n ≤ e.st.ink.bays[bayOf c sd].level) :
    e.st.ink.Taps c n (drawFrom (bayOf c sd) n e).st.ink := by
  unfold drawFrom
  rw [modifyBay_change]
  refine .change ?_ ?_ (fun _ => rfl) fun _ => rfl
  · revert le
    unfold Bay.drawn Bay.level
    cases cart : e.st.ink.bays[bayOf c sd].cart with
    | none =>
      intro le
      show 0 = 0 + n
      have : n ≤ 0 := le
      omega
    | some k =>
      intro le
      simp only [Option.map_some, Cartridge.draw]
      have : n ≤ k.level := le
      omega
  · unfold Bay.usable Bay.level
    dsimp only
    cases e.st.ink.bays[bayOf c sd].cart with
    | none => exact Nat.le_refl _
    | some k =>
      simp only [Option.map_some, Cartridge.draw]
      split <;> omega

theorem drawActive_taps (c : Fin 12) (n v : Nat) (e : Ev) :
    ∃ m, v = m + (drawActive c n v e).1 ∧ e.st.ink.Taps c m (drawActive c n v e).2.st.ink := by
  induction n generalizing v e with
  | zero => exact ⟨0, (Nat.zero_add v).symm, .refl c _⟩
  | succ n ih =>
    unfold drawActive
    split
    · exact ⟨0, (Nat.zero_add v).symm, .refl c _⟩
    · next sd _ =>
      dsimp only
      have first : e.st.ink.Taps c (min v (e.st.ink.bays[bayOf c sd].level - e.st.ink.channels[c].dead)) _ :=
        drawFrom_taps (sd := sd) (by omega)
      obtain ⟨m, rest, taps⟩ := ih (v - min v (e.st.ink.bays[bayOf c sd].level - e.st.ink.channels[c].dead))
        (giveUp c (drawFrom (bayOf c sd) (min v (e.st.ink.bays[bayOf c sd].level - e.st.ink.channels[c].dead)) e))
      refine ⟨_, ?_, (first.trans giveUp_taps).trans taps⟩
      omega

theorem drawSpent_taps (c : Fin 12) (sd : Side) (v : Nat) (e : Ev) :
    ∃ m, v = m + (drawSpent c sd v e).1 ∧ e.st.ink.Taps c m (drawSpent c sd v e).2.st.ink := by
  unfold drawSpent
  dsimp only
  split
  · exact ⟨_, by dsimp only; omega, drawFrom_taps (by omega)⟩
  · exact ⟨0, (Nat.zero_add v).symm, .refl c _⟩

end

/-! ### A report -/

/-- Volumes that leave the bays or enter the overdraw, whole (R56 to R58). -/
structure InkUnit.Gives (v : Fin 12 → Nat) (i j : InkUnit) : Prop where
  spent : ∀ c : Fin 12, i.channels[c].overdraw + v c < 281474976710656 → j.spent c = i.spent c + v c
  still : ∀ c : Fin 12, v c = 0 → j.channels[c].overdraw = i.channels[c].overdraw ∧ j.spent c = i.spent c
  usable : ∀ c, j.usable c ≤ i.usable c

theorem spent_eq (i : InkUnit) (c : Fin 12) : i.spent c = i.drawnFrom c + i.channels[c].overdraw := rfl

/-- The channels after one channel's overdraw has taken `w`. -/
theorem modifyChannel_overdraw (f : Ev) (c x : Fin 12) (w : Nat) :
    (f.modifyChannel c fun ch => { ch with overdraw := add48 ch.overdraw w }).st.ink.channels[x] =
      if x = c then { f.st.ink.channels[x] with overdraw := add48 f.st.ink.channels[x].overdraw w }
      else f.st.ink.channels[x] := by
  rw [modifyChannel_ink]
  exact modifyAt_get _ _ _ _

/-- What the bays could not give enters the overdraw (R58). -/
theorem overdrawn_gives {e f : Ev} {c : Fin 12} {m w : Nat} (taps : e.st.ink.Taps c m f.st.ink) (some_ : w ≠ 0) :
    e.st.ink.Gives (fun x => if x = c then m + w else 0)
      (f.modifyChannel c fun ch => { ch with overdraw := add48 ch.overdraw w }).st.ink := by
  have drawn (x : Fin 12) :
      (f.modifyChannel c fun ch => { ch with overdraw := add48 ch.overdraw w }).st.ink.drawnFrom x =
        e.st.ink.drawnFrom x + if x = c then m else 0 := taps.drawn x
  refine ⟨fun x fits => ?_, fun x none_ => ?_, fun x => ?_⟩
  · rw [spent_eq, spent_eq, drawn, modifyChannel_overdraw, ← taps.overdraw x] at *
    by_cases same : x = c
    · rw [if_pos same] at fits
      rw [if_pos same, if_pos same, if_pos same]
      show _ + add48 f.st.ink.channels[x].overdraw w = _
      rw [show add48 f.st.ink.channels[x].overdraw w = f.st.ink.channels[x].overdraw + w from
        if_pos (by omega)]
      omega
    · rw [if_neg same, if_neg same, if_neg same]
      rfl
  · have other : x ≠ c := fun same => by
      rw [if_pos same] at none_
      omega
    rw [spent_eq, spent_eq, drawn, modifyChannel_overdraw, if_neg other, if_neg other, taps.overdraw]
    exact ⟨rfl, rfl⟩
  · have dead : ((f.modifyChannel c fun ch => { ch with overdraw := add48 ch.overdraw w }).st.ink.channels[x]).dead =
        f.st.ink.channels[x].dead := by
      rw [modifyChannel_overdraw]
      split <;> rfl
    refine le_trans (le_of_eq ?_) (taps.usable x)
    unfold InkUnit.usable
    rw [dead]
    rfl

theorem drawChannel_gives (c : Fin 12) (v : Nat) (e : Ev) :
    e.st.ink.Gives (fun x => if x = c then v else 0) (drawChannel c v e).st.ink := by
  unfold drawChannel
  split
  · next none_ => exact ⟨fun x _ => by simp [none_], fun _ _ => ⟨rfl, rfl⟩, fun _ => Nat.le_refl _⟩
  · dsimp only
    obtain ⟨l, first, active⟩ := drawActive_taps c 2 v e
    obtain ⟨m, second, spent⟩ := drawSpent_taps c (spentFirst c (drawActive c 2 v e).2.st) (drawActive c 2 v e).1
      (drawActive c 2 v e).2
    generalize drawSpent c (spentFirst c (drawActive c 2 v e).2.st) (drawActive c 2 v e).1 (drawActive c 2 v e).2 = x
      at second spent ⊢
    obtain ⟨n, third, spent'⟩ := drawSpent_taps c (spentFirst c (drawActive c 2 v e).2.st).other x.1 x.2
    generalize drawSpent c (spentFirst c (drawActive c 2 v e).2.st).other x.1 x.2 = y at third spent' ⊢
    have taps := (active.trans spent).trans spent'
    have whole : v = l + m + n + y.1 := by omega
    rw [whole]
    split
    · next all =>
      rw [all, Nat.add_zero]
      have total (d : Fin 12) : y.2.st.ink.spent d = e.st.ink.spent d + if d = c then l + m + n else 0 := by
        rw [spent_eq, spent_eq, taps.drawn, taps.overdraw]
        omega
      refine ⟨fun d _ => total d, fun d none_ => ⟨taps.overdraw d, ?_⟩, taps.usable⟩
      rw [total, none_, Nat.add_zero]
    · next some_ => exact overdrawn_gives taps some_

theorem foldl_drawChannel_gives (v : Vector Nat 12) (l : List (Fin 12)) (nodup : l.Nodup) (e : Ev) :
    e.st.ink.Gives (fun x => if x ∈ l then v[x] else 0) (l.foldl (fun e c => drawChannel c v[c] e) e).st.ink := by
  induction l generalizing e with
  | nil => exact ⟨fun _ _ => rfl, fun _ _ => ⟨rfl, rfl⟩, fun _ => Nat.le_refl _⟩
  | cons c l ih =>
    obtain ⟨fresh, rest⟩ := List.nodup_cons.1 nodup
    have first := drawChannel_gives c v[c] e
    have then_ := ih rest (drawChannel c v[c] e)
    rw [List.foldl_cons]
    have away (x : Fin 12) (same : x ≠ c) : x ∈ c :: l ↔ x ∈ l := by simp [same]
    refine ⟨fun x fits => ?_, fun x none_ => ?_, fun x => (then_.usable x).trans (first.usable x)⟩
    · by_cases same : x = c
      · subst same
        rw [if_pos List.mem_cons_self] at fits ⊢
        rw [(then_.still x (if_neg fresh)).2, first.spent x (by rw [if_pos rfl]; exact fits), if_pos rfl]
      · obtain ⟨over_, same_⟩ := first.still x (if_neg same)
        rw [if_congr (away x same) rfl rfl] at fits ⊢
        rw [then_.spent x (by rw [over_]; exact fits), same_]
    · by_cases same : x = c
      · subst same
        rw [if_pos List.mem_cons_self] at none_
        obtain ⟨over_, same_⟩ := first.still x (by rw [if_pos rfl]; exact none_)
        obtain ⟨over', same'⟩ := then_.still x (if_neg fresh)
        exact ⟨over'.trans over_, same'.trans same_⟩
      · rw [if_congr (away x same) rfl rfl] at none_
        obtain ⟨over_, same_⟩ := first.still x (if_neg same)
        obtain ⟨over', same'⟩ := then_.still x none_
        exact ⟨over'.trans over_, same'.trans same_⟩

end Sys2Proof.Machine
end

section
/-! What the end of an event leaves of a channel: all but the flags and the reserved total that it judges (R34,
R35, R39 to R43). -/

namespace Sys2Proof.Machine

-- One proof after another: the stacks of many waiting threads do not fit the memory of one compile.
set_option Elab.async false

/-- A channel without its flags and its reserved total, which every event judges anew. -/
def Channel.lasting (ch : Channel) : Channel := { ch with reserved := 0, short := false, dry := false, low := false }

/-- From `e` to `e'` no channel has changed but in its flags and its reserved total. -/
def Ev.Lasts (e e' : Ev) : Prop := ∀ c : Fin 12, (e'.st.ink.channels[c]).lasting = (e.st.ink.channels[c]).lasting

namespace Ev.Lasts

theorem refl (e : Ev) : e.Lasts e := fun _ => rfl

theorem trans {e f g : Ev} (h : e.Lasts f) (k : f.Lasts g) : e.Lasts g := fun c => (k c).trans (h c)

theorem of_within {w : List Part} {e e' : Ev} (h : e.Within w e') (out : .channels ∉ w := by decide) : e.Lasts e' :=
  fun c => by
    have same : e'.st.ink.channels = e.st.ink.channels := h.same .channels out
    rw [same]

theorem foldl {β : Type} (f : Ev → β → Ev) (l : List β) (e : Ev) (step : ∀ (e : Ev) (b : β), e.Lasts (f e b)) :
    e.Lasts (l.foldl f e) :=
  foldl_keeps (fun e' => e.Lasts e') f l e (fun a b h => h.trans (step a b)) (refl e)

theorem modifyChannel (e : Ev) (c : Fin 12) (f : Channel → Channel) (same : ∀ ch, (f ch).lasting = ch.lasting) :
    e.Lasts (e.modifyChannel c f) := fun x => by
  rw [modifyChannel_ink]
  show Channel.lasting (modifyAt e.st.ink.channels c f)[x] = _
  rw [modifyAt_get]
  split
  · exact same _
  · rfl

theorem mapReserved (e : Ev) (f : Fin 12 → Nat → Nat) : e.Lasts (e.mapInk (InkUnit.mapReserved f)) := fun c => by
  rw [mapInk_ink]
  show Channel.lasting (tabulate 12 _)[c] = _
  rw [tabulate_get]
  rfl

theorem overdraw {e e' : Ev} (h : e.Lasts e') (c : Fin 12) :
    (e'.st.ink.channels[c]).overdraw = (e.st.ink.channels[c]).overdraw := by
  have same := congrArg Channel.overdraw (h c)
  exact same

end Ev.Lasts

section
variable (e : Ev)

theorem takeReservation_lasts (h : Nat) (j : Job) : e.Lasts (takeReservation h j e) :=
  .trans (.mapReserved e _) (.of_within (modifyJob_within _ h fun _ => ⟨rfl, rfl⟩))

theorem releaseReservation_lasts (h : Nat) : e.Lasts (releaseReservation h e) := by
  unfold releaseReservation
  split
  · exact .refl e
  · exact .trans (.mapReserved e _) (.of_within (w := [.store, .books, .freed])
      (.after (noteFreed_within _ _) (.after (modifyJob_within _ h fun _ => ⟨rfl, rfl⟩) (.refl _ _))))

theorem drawdown_lasts (h : Nat) (v : Vector Nat 12) : e.Lasts (drawdown h v e) := by
  unfold drawdown
  split
  · exact .refl e
  · exact .trans (.mapReserved e _) (.of_within (modifyJob_within _ h fun _ => ⟨rfl, rfl⟩))

theorem walkOne_lasts (h : Fin 32) : e.Lasts (walkOne h e) := by
  unfold walkOne
  split
  · exact .refl e
  · split
    · exact .trans (takeReservation_lasts e _ _)
        (.of_within ((leaveWaitList_within _ _).comp (v := [.store, .waitList, .raised]) (raise_within _ _ _ _)))
    · exact .refl e

theorem walk_lasts : e.Lasts (walk e) := .foldl _ _ _ fun e h => walkOne_lasts e h

theorem trimJob_lasts (h : Fin 32) : e.Lasts (trimJob h e) := by
  have released := releaseReservation_lasts e h.val
  unfold trimJob
  dsimp only
  split
  · exact released
  · split
    · exact released.trans (.of_within
        ((joinWaitList_within _ h).comp (v := [.store, .books, .waitList, .raised]) (raise_within _ _ _ _)))
    · exact released

theorem trim_lasts (n : Nat) (any : Bool) : e.Lasts (trim n any e).2 := by
  induction n generalizing any e with
  | zero => exact .refl e
  | succ n ih =>
    unfold trim
    split
    · exact .refl e
    · exact (trimJob_lasts e _).trans (ih _ _)

theorem evalDry_lasts (c : Fin 12) : e.Lasts (evalDry c e) := by
  unfold evalDry
  dsimp only
  have flagged (b : Bool) := Ev.Lasts.modifyChannel e c (fun x => { x with dry := b }) fun _ => rfl
  split_ifs
  · exact .refl e
  · exact (flagged _).trans (.of_within (raise_within _ _ _ _))
  · exact flagged _

theorem evalLow_lasts (c : Fin 12) : e.Lasts (evalLow c e) := by
  unfold evalLow
  dsimp only
  have flagged (b : Bool) := Ev.Lasts.modifyChannel e c (fun x => { x with low := b }) fun _ => rfl
  split_ifs
  · exact .refl e
  · exact (flagged _).trans (.of_within (raise_within _ _ _ _))
  · exact flagged _

theorem evalFlags_lasts : e.Lasts (evalFlags e) :=
  .foldl _ _ _ fun e c => (evalDry_lasts e c).trans (evalLow_lasts _ c)

theorem markShort_lasts (c : Fin 12) : e.Lasts (markShort c e) := by
  unfold markShort
  split
  · exact (Ev.Lasts.modifyChannel e c (fun x => { x with short := true }) fun _ => rfl).trans
      (.of_within (raise_within _ _ _ _))
  · exact .refl e

theorem clearShort_lasts (c : Fin 12) : e.Lasts (clearShort c e) := by
  unfold clearShort
  split
  · exact .modifyChannel e c _ fun _ => rfl
  · exact .refl e

theorem settleShort_lasts : e.Lasts (settleShort e) :=
  .foldl _ _ _ fun e c => (markShort_lasts e c).trans (clearShort_lasts _ c)

theorem settleInk_lasts : e.Lasts (settleInk e) := by
  have short := ((evalFlags_lasts e).trans (trim_lasts _ 32 false)).trans (settleShort_lasts _)
  rw [settleInk_eq]
  split
  · exact short.trans (walk_lasts _)
  · exact short

theorem closeJob_lasts (h : Nat) : e.Lasts (closeJob h e) := by
  unfold closeJob
  split
  · exact .refl e
  · exact (releaseReservation_lasts e h).trans (.of_within (w := [.store, .roster, .books, .waitList, .cost, .terms, .dues, .locked, .raised]) (.after (raise_within _ _ _ _) <|
      .after (modifyJob_within _ h fun _ => ⟨rfl, rfl⟩) <| .after (modifyAccount_within _ _ fun _ => rfl) <|
        .after (leaveWaitList_within _ h) (.refl _ _)))

theorem closeJobIfDone_lasts (h : Nat) : e.Lasts (closeJobIfDone h e) := by
  unfold closeJobIfDone
  split
  · exact .refl e
  · split
    · exact closeJob_lasts e h
    · exact .refl e

theorem rejoin_lasts (h : Nat) : e.Lasts (rejoin h e) := by
  unfold rejoin
  split
  · split
    · exact .refl e
    · split_ifs
      · exact .refl e
      · exact .of_within (modifyJob_within e h fun _ => ⟨rfl, rfl⟩)
      · exact (takeReservation_lasts e h _).trans (.of_within (raise_within _ _ _ _))
      · exact .of_within ((joinWaitList_within e _).comp (v := [.store, .books, .waitList, .raised]) (raise_within _ _ _ _))
  · exact .refl e

theorem closeAttempt_lasts (r : CopyRef) (j : Job) (c : CopyRecord) : e.Lasts (closeAttempt r j c e) := by
  have booked (cs : CopyState) (d : Nat) : e.Lasts
      ((((bookAttempt r (classOf j c.record) e).modifyCopy r (CopyRecord.advance cs)).modifyJob r.handle
        (Job.countTerminal cs)).raise .copyDone (.attempt r) d) :=
    .of_within (w := [.store, .roster, .books, .waitList, .cost, .terms, .dues, .locked, .raised])
      (.after (raise_within _ _ _ _) <| .after (modifyJob_within _ _ (Job.steady_countTerminal cs)) <|
        .after (modifyCopy_within _ r _) <| .after (bookAttempt_within e r _) (.refl _ _))
  unfold closeAttempt
  dsimp only
  split
  · exact (booked _ _).trans (rejoin_lasts _ _)
  · exact (booked _ _).trans (closeJobIfDone_lasts _ _)

theorem settleCloses_lasts : e.Lasts (settleCloses e) := by
  refine .trans (.of_within (noDue_within e)) (.foldl _ _ _ fun e r => ?_)
  unfold closeIfReady
  split
  · exact .refl e
  · split
    · exact closeAttempt_lasts e r _ _
    · exact .refl e

/-- The end of an event leaves of every channel what only a draw, a bay or a setting changes. -/
theorem settle_lasts : e.Lasts (settle e) := by
  have closed : e.Lasts (settleCloses { e with lost := false }) :=
    .trans (.of_within (setLost_within e false)) (settleCloses_lasts _)
  rw [settle_eq]
  exact ((closed.trans (settleInk_lasts _)).trans (.of_within (settleAccounts_within _))).trans
    (.of_within (w := [.store, .hold, .grip]) (.after (syncPause_within _) ((syncHold_within _).mono (by decide))))

/-- What has left a channel's ink is as the event's operations left it (R56 to R58). -/
theorem settle_spent (c : Fin 12) : (settle e).st.ink.spent c = e.st.ink.spent c := by
  rw [spent_eq, spent_eq, (settle_lasts e).overdraw]
  unfold InkUnit.drawnFrom
  rw [show (settle e).st.ink.bays = e.st.ink.bays from (settle_kept e).bays]

end

end Sys2Proof.Machine
end

section
/-! SWATH_REPORT and MAINT_REPORT (3.2 to 3.6, O27, O28): the end of their events, where no attempt closes. -/

namespace Sys2Proof.Machine

-- One proof after another: the stacks of many waiting threads do not fit the memory of one compile.
set_option Elab.async false

/-! ### The end of an event in which nothing is due -/

/-- An attempt without the pause that it has accrued. -/
def Attempt.unpaused (a : Attempt) : Attempt := { a with accruedPause := 0 }

/-- A view of a job that does not show its copies stands while an attempt changes. -/
theorem job?_modifyAttempt_map {α : Type} {g : Job → α} (hidden : ∀ j cs, g { j with copies := cs } = g j) (e : Ev)
    (r : CopyRef) (f : Attempt → Attempt) (h : Nat) :
    ((e.modifyAttempt r f).st.job? h).map g = (e.st.job? h).map g := by
  unfold Ev.modifyAttempt Ev.modifyCopy
  rw [job?_modifyJob]
  split
  · cases e.st.job? h with
    | none => rfl
    | some j => exact congrArg some (hidden j _)
  · rfl

/-- The end of a pause writes at most what its attempt has accrued (R122). -/
theorem syncPause_store (e : Ev) : ∃ e' : Ev, (syncPause e).st.store = e'.st.store ∧
    (e' = e ∨ ∃ (r : CopyRef) (n : Nat → Nat),
      e' = e.modifyAttempt r fun a => { a with accruedPause := n a.accruedPause }) := by
  unfold syncPause
  split_ifs
  · exact ⟨e, rfl, .inl rfl⟩
  · exact ⟨e, rfl, .inl rfl⟩
  · unfold endPause
    split
    · next q r _ _ => exact ⟨e.modifyAttempt r fun a => { a with accruedPause := a.accruedPause + (e.st.now - q.start) },
        rfl, .inr ⟨r, fun n => n + (e.st.now - q.start), rfl⟩⟩
    · exact ⟨e, rfl, .inl rfl⟩
  · exact ⟨e, rfl, .inl rfl⟩

theorem job?_of_store {s t : State} (store : s.store = t.store) (h : Nat) : s.job? h = t.job? h := by
  unfold State.job?
  rw [store]

theorem attempt?_of_store {s t : State} (store : s.store = t.store) (r : CopyRef) : s.attempt? r = t.attempt? r := by
  unfold State.attempt?
  rw [job?_of_store store]

theorem syncPause_job {α : Type} {g : Job → α} (hidden : ∀ j cs, g { j with copies := cs } = g j) (e : Ev) (h : Nat) :
    ((syncPause e).st.job? h).map g = (e.st.job? h).map g := by
  obtain ⟨e', store, is⟩ := syncPause_store e
  rw [job?_of_store store]
  obtain rfl | ⟨r, n, rfl⟩ := is
  · rfl
  · exact job?_modifyAttempt_map hidden _ _ _ _

theorem syncPause_attempt {e : Ev} {r : CopyRef} {j : Job} {c : CopyRecord} (here : e.st.attempt? r = some (j, c)) :
    ∃ j' c', (syncPause e).st.attempt? r = some (j', c') ∧ c'.state = c.state ∧
      c'.record.unpaused = c.record.unpaused := by
  obtain ⟨e', store, is⟩ := syncPause_store e
  rw [attempt?_of_store store]
  obtain rfl | ⟨x, n, rfl⟩ := is
  · exact ⟨j, c, here, rfl, rfl⟩
  · by_cases same : r = x
    · subst same
      exact ⟨_, _, attempt?_modifyAttempt _ here, rfl, rfl⟩
    · obtain ⟨k, later⟩ := attempt?_modifyAttempt_other (fun a => { a with accruedPause := n a.accruedPause }) same here
      exact ⟨k, c, later, rfl, rfl⟩

section
variable {e : Ev}

/-- Where no attempt waits to be examined, the jobs before the pause are as the ink leaves them. -/
theorem settleBooks_store (due : e.due = []) :
    (syncHold (settleBooks e)).st.store = (settleInk { e with lost := false }).st.store := by
  have books : settleBooks e = settleAccounts (settleInk { e with lost := false }) := by
    unfold settleBooks
    rw [settleCloses_none (e := { e with lost := false }) due]
  rw [books]
  generalize settleInk { e with lost := false } = f
  have within : f.Within [.cost, .raised, .hold, .grip] (syncHold (settleAccounts f)) :=
    .after (syncHold_within _) ((settleAccounts_within f).mono (by decide))
  exact within.same .store (by decide)

theorem settle_job {α : Type} {g : Job → α} (hidden : ∀ j cs, g { j with copies := cs } = g j) (due : e.due = [])
    (h : Nat) : ((settle e).st.job? h).map g = ((settleInk { e with lost := false }).st.job? h).map g := by
  rw [settle_eq, syncPause_job hidden, job?_of_store (settleBooks_store due)]

/-- Where no attempt waits to be examined, each stands but for its pause. -/
theorem settle_attempt {r : CopyRef} {j : Job} {c : CopyRecord} (due : e.due = []) (here : e.st.attempt? r = some (j, c)) :
    ∃ j' c', (settle e).st.attempt? r = some (j', c') ∧ c'.state = c.state ∧
      c'.record.unpaused = c.record.unpaused := by
  obtain ⟨k, -, -, inked⟩ := (settleInk_sameFiled { e with lost := false }).attempt (j := j) (c := c) here
  rw [settle_eq]
  exact syncPause_attempt (j := k) (by rw [attempt?_of_store (settleBooks_store due)]; exact inked)

end

/-! ### What the end of an event leaves of the printing job -/

section
variable {h : Fin 32} {e : Ev}

theorem trim_beside (n : Nat) (any : Bool) (prints : e.st.printing.map (·.handle) = some h.val) :
    e.Beside h (trim n any e).2 := by
  induction n generalizing any e with
  | zero => exact .refl e
  | succ n ih =>
    unfold trim
    split
    · exact .refl e
    · next k chosen =>
      obtain ⟨-, -, away, -⟩ := trimmable_iff.1 (trimChoice_some chosen)
      have other : h ≠ k := fun same => away (same ▸ prints)
      have still := (trimJob_within e k).printing
      exact (Ev.Beside.trimJob e other).trans (ih true (by rw [still]; exact prints))

theorem walk_beside (out : h ∉ e.st.store.waitList) : e.Beside h (walk e) := by
  unfold walk
  generalize e.st.store.waitList = l at out
  induction l generalizing e with
  | nil => exact .refl e
  | cons k ks ih =>
    simp only [List.mem_cons, not_or] at out
    exact (Ev.Beside.walkOne e out.1).trans (ih out.2)

/-- Trimming passes over the printing job, and the walk over a job that does not wait (R39, R42). -/
theorem settleInk_beside (prints : e.st.printing.map (·.handle) = some h.val) (out : h ∉ e.st.store.waitList) :
    e.Beside h (settleInk e) := by
  have flags := evalFlags_within e
  have still := flags.printing
  have short := ((Ev.Beside.of_within (h := h) flags).trans (trim_beside 32 false (by rw [still]; exact prints))).trans
    (.of_within (settleShort_within _))
  rw [settleInk_eq]
  split
  · exact short.trans (walk_beside fun waits => out (short.waits waits))
  · exact short

end

/-! ### A draw that no reservation stands in the way of -/

section
variable {e : Ev}

theorem free_of_within {w : List Part} {e e' : Ev} (h : e.Within w e')
    (out : ∀ p ∈ [Part.reserved, .usable], p ∉ w := by decide) (c : Fin 12) : e'.st.ink.free c = e.st.ink.free c := by
  have usable : e'.st.ink.usable = e.st.ink.usable := h.same .usable (out _ (by decide))
  have reserved : mapTable Channel.reserved e'.st.ink.channels = mapTable Channel.reserved e.st.ink.channels :=
    h.same .reserved (out _ (by decide))
  have total := congrArg (·[c]) reserved
  simp only [mapTable_get] at total
  unfold InkUnit.free
  rw [usable, total]

/-- Where every reserved total lies within its usable volume and no free volume has risen, nothing is trimmed and
no job leaves the wait list (R39, R42). -/
theorem settleInk_calm (fits : ∀ c : Fin 12, (e.st.ink.channels[c]).reserved ≤ e.st.ink.usable c) (calm : e.freed = false)
    (sunk : ∀ c, e.st.ink.free c ≤ e.start.ink.free c) :
    e.Within [.channels, .dry, .short, .raised] (settleInk e) := by
  have flags := evalFlags_within e
  have chosen : (evalFlags e).st.trimChoice = none := by
    cases choice : (evalFlags e).st.trimChoice with
    | none => rfl
    | some h =>
      obtain ⟨-, -, -, c, must, -⟩ := trimmable_iff.1 (trimChoice_some choice)
      have fails : e.st.ink.boundFails c = true :=
        (boundFails_of_within flags (by decide) c).symm.trans (Bool.and_eq_true_iff.1 must).1
      have := fits c
      have : e.st.ink.usable c < (e.st.ink.channels[c]).reserved := of_decide_eq_true fails
      omega
  have trims : trim 32 false (evalFlags e) = (false, evalFlags e) := by
    unfold trim
    rw [chosen]
  have short := (flags.comp (v := [.channels, .dry, .short, .raised]) (settleShort_within (evalFlags e)))
  have rose : (settleShort (evalFlags e)).freeRose = false := by
    have freed : (settleShort (evalFlags e)).freed = e.freed := short.same .freed (by decide)
    unfold Ev.freeRose
    rw [freed, calm, short.start, Bool.false_or]
    refine Bool.eq_false_iff.2 fun any => ?_
    obtain ⟨c, lt⟩ := (anyOf_iff _).1 any
    have free := free_of_within short (by decide) c
    have := sunk c
    have := of_decide_eq_true lt
    omega
  rw [settleInk_eq, trims]
  dsimp only
  rw [rose]
  exact short

end

end Sys2Proof.Machine
end

section
/-! SWATH_REPORT and MAINT_REPORT (3.2 to 3.6, O27, O28). -/

namespace Sys2Proof.Machine

-- One proof after another: the stacks of many waiting threads do not fit the memory of one compile.
set_option Elab.async false

/-! ### What every report does -/

section
variable {s : State} {p : Port} {pl : List Byte} {counts : Fin 12 → Nat × Nat × Nat} {e f : Ev}

/-- A report's whole volumes leave the bays or enter the overdraw (R54, R56 to R58). -/
theorem drawReport_gives (counts : Fin 12 → Nat × Nat × Nat) (e : Ev) :
    e.st.ink.Gives (fun c => (wholeVolumes e.st.meter counts)[c]) (drawReport counts e).st.ink := by
  have gives := foldl_drawChannel_gives (wholeVolumes e.st.meter counts) (List.finRange 12) (List.nodup_finRange 12)
    (e.mapMeter fun m => { m with residue := newResidues m counts })
  simp only [List.mem_finRange, if_true] at gives
  exact gives

/-- The event once the report's ink is drawn. -/
def drawnFor (counts : Fin 12 → Nat × Nat × Nat) (p : Port) (pl : List Byte) (s : State) : Ev :=
  drawReport counts (accepted p pl s)

theorem drawnFor_within (counts : Fin 12 → Nat × Nat × Nat) (p : Port) (pl : List Byte) (s : State) :
    (Ev.begin s).Within (.ports :: .meter :: .residues :: inkParts) (drawnFor counts p pl s) :=
  (accepted_within p pl s).comp (drawReport_within (accepted p pl s) counts)

/-- What a report does besides its draw: it writes the jobs, the accounts and the port. -/
def reportParts : List Part := [.store, .books, .channels, .reserved, .cost, .ports]

/-- The frame of a report (R54, R56 to R58). -/
theorem report_frame (within : (drawnFor counts p pl s).Within reportParts f) (lasts : (drawnFor counts p pl s).Lasts f)
    {ps : Ports} (settings : ∀ q, (ps.unit q).settings = ((settle f).st.ports.unit q).settings) :
    reportFrame s { (settle f).st with ports := ps } counts := by
  have whole : (Ev.begin s).Within ((.ports :: .meter :: .residues :: inkParts) ++ reportParts ++ settleParts) (settle f) :=
    .after (settle_within f) <| .after within <| (drawnFor_within counts p pl s).mono (by decide)
  have gives := drawReport_gives counts (accepted p pl s)
  have bays : f.st.ink.bays = (drawnFor counts p pl s).st.ink.bays := within.same .bays (by decide)
  have spent (c : Fin 12) : (settle f).st.ink.spent c = (drawnFor counts p pl s).st.ink.spent c := by
    rw [settle_spent, spent_eq, spent_eq, lasts.overdraw]
    unfold InkUnit.drawnFrom
    rw [bays]
  have meter : (settle f).st.meter = { s.meter with residue := newResidues s.meter counts } :=
    ((settle_kept f).meter.trans (within.same .meter (by decide))).trans (drawReport_meter counts (accepted p pl s))
  generalize settle f = t at *
  exact ⟨fun c room => (spent c).trans (gives.spent c room), meter, whole.settingsKept.beside settings, whole.same .scan (by decide),
    whole.same .sched (by decide), whole.same .colour (by decide), whole.same .media (by decide),
    whole.same .clock (by decide), Prod.ext whole.pins whole.pending⟩

/-! ### Reservations that no report touches -/

/-- At the end of a calm event no reservation changes (R39, R42). -/
theorem settle_calm (due : e.due = []) (fits : ∀ c : Fin 12, (e.st.ink.channels[c]).reserved ≤ e.st.ink.usable c)
    (calm : e.freed = false) (sunk : ∀ c, e.st.ink.free c ≤ e.start.ink.free c) :
    e.Within [.channels, .dry, .short, .raised, .cost, .store, .hold, .grip, .lost] (settle e) ∧
      ∀ (α : Type) (g : Job → α), (∀ j cs, g { j with copies := cs } = g j) →
        ∀ h, ((settle e).st.job? h).map g = (e.st.job? h).map g := by
  have ink : Ev.Within [.channels, .dry, .short, .raised] { e with lost := false } (settleInk { e with lost := false }) :=
    settleInk_calm (e := { e with lost := false }) fits calm sunk
  have store : (settleInk { e with lost := false }).st.store = e.st.store := ink.same .store (by decide)
  refine ⟨?_, fun α g hidden h => by rw [settle_job hidden due, job?_of_store store]⟩
  have books : settleBooks e = settleAccounts (settleInk { e with lost := false }) := by
    unfold settleBooks
    rw [settleCloses_none (e := { e with lost := false }) due]
  rw [settle_eq, books]
  exact .after (syncPause_within _) <| .after (syncHold_within _) <| .after (settleAccounts_within _) <| .after ink <|
    .after (setLost_within e false) (.refl _ _)

theorem drawsDownNothing_beside {t : State} (h : drawsDownNothing s t) (ps : Ports) :
    drawsDownNothing s { t with ports := ps } := h

/-- A report that draws down no reservation (R42, R61 to R63). -/
theorem report_reservations (within : (drawnFor counts p pl s).Within [.store, .cost, .ports] f)
    (jobs : ∀ h, (f.st.job? h).map (fun j => (j.state, j.reservation, j.reservationHeld)) =
      (s.job? h).map fun j => (j.state, j.reservation, j.reservationHeld)) :
    drawsDownNothing s (settle f).st := by
  intro room
  have whole : (Ev.begin s).Within ((.ports :: .meter :: .residues :: inkParts) ++ [.store, .cost, .ports]) f :=
    (drawnFor_within counts p pl s).comp within
  have kept := settle_kept f
  have usable : f.st.ink.usable = (drawnFor counts p pl s).st.ink.usable := within.same .usable (by decide)
  have usable' : (settle f).st.ink.usable = f.st.ink.usable := (settle_within f).same .usable (by decide)
  have reserved (c : Fin 12) : (f.st.ink.channels[c]).reserved = (s.ink.channels[c]).reserved := by
    have table : mapTable Channel.reserved f.st.ink.channels = mapTable Channel.reserved s.ink.channels :=
      whole.same .reserved (by decide)
    have same := congrArg (·[c]) table
    simp only [mapTable_get] at same
    exact same
  have due : f.due = [] := whole.same .due (by decide)
  have sinks (c : Fin 12) : f.st.ink.usable c ≤ s.ink.usable c := by
    rw [usable]
    exact (drawReport_gives counts (accepted p pl s)).usable c
  obtain ⟨calm, jobs'⟩ := settle_calm (e := f) due
    (fun c => by rw [reserved, ← usable']; exact room c) (whole.same .freed (by decide)) fun c => by
      have start : f.start = s := whole.start
      unfold InkUnit.free
      rw [reserved, start]
      exact Nat.sub_le_sub_right (sinks c) _
  have waits : (settle f).st.store.waitList = f.st.store.waitList := calm.same .waitList (by decide)
  have waits' : f.st.store.waitList = s.store.waitList := whole.same .waitList (by decide)
  refine ⟨fun c => ?_, fun h => ?_, waits.trans waits'⟩
  · have table : mapTable Channel.reserved (settle f).st.ink.channels = mapTable Channel.reserved f.st.ink.channels :=
      calm.same .reserved (by decide)
    have same := congrArg (·[c]) table
    simp only [mapTable_get] at same
    exact same.trans (reserved c)
  · exact (jobs' _ _ (fun _ _ => rfl) h).trans (jobs h)

end

/-! ### The charge of the house account -/

theorem evalOverrun_other (i : Fin 32) (e : Ev) : (evalOverrun i e).st.cost.strayTotal = e.st.cost.strayTotal ∧
    (evalOverrun i e).st.cost.maintTotal = e.st.cost.maintTotal ∧
    ∀ j, j ≠ i → (evalOverrun i e).st.cost.accounts[j] = e.st.cost.accounts[j] := by
  have flagged (v : Bool) (j : Fin 32) (other : j ≠ i) :
      ((e.modifyAccount i fun x => { x with overrun := v }).st.cost.accounts[j]) = e.st.cost.accounts[j] := by
    rw [modifyAccount_account, if_neg other]
  unfold evalOverrun
  dsimp only
  split_ifs
  · exact ⟨rfl, rfl, fun _ _ => rfl⟩
  · exact ⟨rfl, rfl, flagged _⟩
  · exact ⟨rfl, rfl, flagged _⟩

/-- Where nothing is due and the house account alone was charged, the end of the event evaluates that account and
leaves the charges as they are (R161). -/
theorem settle_house {e : Ev} (due : e.due = [])
    (others : ∀ j : Fin 32, j ≠ 0 → e.st.cost.accounts[j] = e.start.cost.accounts[j]) :
    (settle e).st.cost.strayTotal = e.st.cost.strayTotal ∧ (settle e).st.cost.maintTotal = e.st.cost.maintTotal ∧
      ((settle e).st.cost.accounts[(0 : Fin 32)]).charged = (e.st.cost.accounts[(0 : Fin 32)]).charged ∧
      ∀ j : Fin 32, j ≠ 0 → (settle e).st.cost.accounts[j] = e.st.cost.accounts[j] := by
  have ink := settleInk_within { e with lost := false }
  have books : settleBooks e = settleAccounts (settleInk { e with lost := false }) := by
    unfold settleBooks
    rw [settleCloses_none (e := { e with lost := false }) due]
  have cost : (settleInk { e with lost := false }).st.cost = e.st.cost := ink.same .cost (by decide)
  have start : (settleInk { e with lost := false }).start = e.start := ink.start
  generalize settleInk { e with lost := false } = f at books cost start
  have only := settleAccounts_one (e := f) (i := 0) fun j other => by
    unfold Ev.accountStands
    rw [cost, start, others j other]
    exact ⟨rfl, rfl, rfl⟩
  have last : (settle e).st.cost = (evalOverrun 0 f).st.cost := by
    have within : (evalOverrun 0 f).Within [.store, .hold, .grip] (settle e) := by
      rw [settle_eq, books, only]
      exact .after (syncPause_within _) ((syncHold_within _).mono (by decide))
    exact within.same .cost (by decide)
  obtain ⟨stray, maint, rest⟩ := evalOverrun_other 0 f
  rw [last]
  rw [cost] at stray maint rest
  exact ⟨stray, maint, (evalOverrun_charged 0 0).trans (by rw [cost]), rest⟩

/-! ### The faults of a swath -/

/-- What the faults of a swath note at the Engine port (R62, R121). -/
def swathNotes (cls : SwathClass) (held : Bool) (h : Header) (now : Nat) (u : PortUnit) : PortUnit :=
  let v := if cls = .stray then u.note .staleRef (some h) now else u
  if held then v.note .swathWhileHeld (some h) now else v

section
variable {cls : SwathClass} {held : Bool} {h : Header} {now : Nat} {u : PortUnit}

theorem note_status (k : FaultKind) (h : Option Header) (now : Nat) (u : PortUnit) (i : Fin 11) :
    (u.note k h now).status[i] = if i = k.index then (u.status[i]).note else u.status[i] := by
  rw [note_kept]
  exact modifyAt_get _ _ _ _

theorem note_settings (k : FaultKind) (h : Option Header) (now : Nat) (u : PortUnit) :
    (u.note k h now).settings = u.settings := by
  rw [note_kept]
  rfl

theorem note_stops (k f : FaultKind) (h : Option Header) (now : Nat) (u : PortUnit) :
    (u.note k h now).stops f = u.stops f := by
  rw [note_kept]
  rfl

theorem swathNotes_held : (swathNotes cls held h now u).status[FaultKind.index .swathWhileHeld] =
    if held = true then (u.status[FaultKind.index .swathWhileHeld]).note else u.status[FaultKind.index .swathWhileHeld] := by
  unfold swathNotes
  dsimp only
  split_ifs
  · rw [note_status, if_pos rfl, note_status, if_neg (by decide)]
  · rw [note_status, if_pos rfl]
  · rw [note_status, if_neg (by decide)]
  · rfl

theorem swathNotes_stray : (swathNotes .stray held h now u).status[FaultKind.index .staleRef] =
    (u.status[FaultKind.index .staleRef]).note := by
  unfold swathNotes
  dsimp only
  rw [if_pos rfl]
  split
  · rw [note_status, if_neg (by decide), note_status, if_pos rfl]
  · rw [note_status, if_pos rfl]

theorem swathNotes_settings : (swathNotes cls held h now u).settings = u.settings := by
  unfold swathNotes
  dsimp only
  split_ifs
  · rw [note_settings, note_settings]
  · exact note_settings _ _ _ _
  · exact note_settings _ _ _ _
  · rfl

theorem swathFaults_quiet {e : Ev} (free : e.st.portHeld .engine = false)
    (stale : cls = .stray → e.st.stops .engine .staleRef = false)
    (swath : held = true → e.st.stops .engine .swathWhileHeld = false) :
    swathFaults cls held h e = e.modifyPort .engine (swathNotes cls held h e.st.now) := by
  have stray : (if cls = .stray then recordFault .engine .staleRef (some h) e else e) =
      e.modifyPort .engine fun u => if cls = .stray then u.note .staleRef (some h) e.st.now else u := by
    split
    · next is => exact recordFault_quiet _ _ _ _ free (stale is)
    · rfl
  unfold swathFaults
  rw [stray]
  dsimp only
  cases held with
  | false => rfl
  | true =>
    refine recordFault_quiet _ _ _ _ free ?_
    have same : (if cls = .stray then (e.st.ports.unit .engine).note .staleRef (some h) e.st.now
        else e.st.ports.unit .engine).stops .swathWhileHeld = (e.st.ports.unit .engine).stops .swathWhileHeld := by
      split
      · exact note_stops _ _ _ _ _
      · rfl
    exact same.trans (swath rfl)

end

end Sys2Proof.Machine
end

section
/-! SWATH_REPORT and MAINT_REPORT, settled (3.2 to 3.6, O27, O28). -/

namespace Sys2Proof.Machine

-- One proof after another: the stacks of many waiting threads do not fit the memory of one compile.
set_option Elab.async false

/-! ### SWATH_REPORT -/

/-- The event of a SWATH_REPORT of this class, its ink drawn and its volumes attributed (R52, R54, R59 to R62). -/
def swathAssigned (cls : SwathClass) (pl : List Byte) (s : State) : Ev :=
  assign cls (refAt pl 0) (wholeVolumes s.meter (dropCounts pl 3)) (drawnFor (dropCounts pl 3) .engine pl s)

/-- The same with its faults noted (R62, R121). -/
def swathed (cls : SwathClass) (tag : Byte) (pl : List Byte) (s : State) : Ev :=
  (swathAssigned cls pl s).modifyPort .engine
    (swathNotes cls s.held (requestHeader .swathReport tag pl) (swathAssigned cls pl s).st.now)

section
variable {s : State} {tag : Byte} {pl : List Byte} {cls : SwathClass}

theorem taken_swathReport (tag : Byte) (s : State) (len : pl.length = 111) :
    ReqKind.swathReport.taken .engine tag pl s =
      (settle (swathFaults (s.classify (refAt pl 0)) s.held (requestHeader .swathReport tag pl)
        (swathAssigned (s.classify (refAt pl 0)) pl s)),
        Reply.ok (leBytes 1 (s.classify (refAt pl 0)).code ++ volumes 4 (wholeVolumes s.meter (dropCounts pl 3)))) :=
  if_pos len

theorem swathAssigned_within (cls : SwathClass) (pl : List Byte) (s : State) :
    (accepted .engine pl s).Within (.meter :: .residues :: inkParts ++ [.store, .books, .reserved, .cost])
      (swathAssigned cls pl s) :=
  .after (assign_within _ _ _ _) ((drawReport_within _ _).mono (by decide))

theorem swathAssigned_ports (cls : SwathClass) (pl : List Byte) (s : State) :
    (swathAssigned cls pl s).st.ports = (accepted .engine pl s).st.ports :=
  (swathAssigned_within cls pl s).same .ports (by decide)

theorem swathAssigned_stops (cls : SwathClass) (pl : List Byte) (s : State) (k : FaultKind) :
    (swathAssigned cls pl s).st.stops .engine k = s.stops .engine k := by
  rw [← accepted_stops (pl := pl) (p := .engine) (s := s)]
  unfold State.stops
  rw [swathAssigned_ports]

theorem consume_within (r : CopyRef) (v : Vector Nat 12) (e : Ev) : e.Within [.store] (consume r v e) :=
  modifyAttempt_within e r _

theorem assign_lasts (r : CopyRef) (v : Vector Nat 12) (e : Ev) : e.Lasts (assign cls r v e) := by
  have consumed : e.Lasts (consume r v e) := .of_within (modifyAttempt_within e _ _)
  cases cls
  case attempt => exact consumed.trans (drawdown_lasts _ _ _)
  case ended => exact consumed
  case stray => exact .of_within (strayCharge_within e v)

theorem swathed_within (cls : SwathClass) (tag : Byte) (pl : List Byte) (s : State) :
    (drawnFor (dropCounts pl 3) .engine pl s).Within reportParts (swathed cls tag pl s) :=
  .after (modifyPort_within _ .engine swathNotes_settings) ((assign_within _ _ _ _).mono (by decide))

theorem swathed_lasts (cls : SwathClass) (tag : Byte) (pl : List Byte) (s : State) :
    (drawnFor (dropCounts pl 3) .engine pl s).Lasts (swathed cls tag pl s) :=
  (assign_lasts _ _ _).trans (.of_within (modifyPort_within _ .engine swathNotes_settings))

theorem swathed_unit (cls : SwathClass) (tag : Byte) (pl : List Byte) (s : State) :
    (swathed cls tag pl s).st.ports.unit .engine = swathNotes cls s.held (requestHeader .swathReport tag pl)
      (swathAssigned cls pl s).st.now ((accepted .engine pl s).st.ports.unit .engine) := by
  rw [← swathAssigned_ports cls]
  exact unit_modifyUnit_self .engine _ _

/-- A SWATH_REPORT, whatever its class: its answer, its notes and the frame of its draw (R52, R54, R59, R121). -/
theorem exec_swath (served : s.serves .swathReport .engine pl = true) (len : pl.length = 111)
    (is : s.classify (refAt pl 0) = cls) (stale : cls = .stray → s.stops .engine .staleRef = false)
    (swath : s.media.hold.state = .taken → s.stops .engine .swathWhileHeld = false) : ∃ ps : Ports,
      exec (.swathReport .engine tag pl) s = .next { (settle (swathed cls tag pl s)).st with ports := ps } ∧
      State.hasAnswer { (settle (swathed cls tag pl s)).st with ports := ps } .engine .swathReport tag
        (Reply.ok (leBytes 1 cls.code ++ volumes 4 (wholeVolumes s.meter (dropCounts pl 3)))) ∧
      notedWhileHeld s { (settle (swathed cls tag pl s)).st with ports := ps } ∧
      (cls = .stray → (ps.engine.status[FaultKind.index .staleRef]) =
        (s.ports.engine.status[FaultKind.index .staleRef]).note) ∧
      reportFrame s { (settle (swathed cls tag pl s)).st with ports := ps } (dropCounts pl 3) := by
  obtain ⟨-, free, -⟩ := (serves_iff s .swathReport .engine pl).1 served
  have pins : (swathAssigned cls pl s).st.pins = s.pins := (swathAssigned_within cls pl s).pins
  have faults : swathFaults cls s.held (requestHeader .swathReport tag pl) (swathAssigned cls pl s) =
      swathed cls tag pl s :=
    swathFaults_quiet (by unfold State.portHeld; rw [pins]; exact free)
      (fun stray => (swathAssigned_stops _ _ _ _).trans (stale stray))
      fun held => (swathAssigned_stops _ _ _ _).trans (swath (beq_iff_eq.1 held))
  have taken := taken_swathReport tag s len
  rw [is, faults] at taken
  have kept : (settle (swathed cls tag pl s)).st.ports = (swathed cls tag pl s).st.ports := (settle_kept _).ports
  have quiet := settle_lost (swathed cls tag pl s)
  have frame (ps : Ports) := report_frame (swathed_within cls tag pl s) (swathed_lasts cls tag pl s) (ps := ps)
  generalize settle (swathed cls tag pl s) = t at *
  obtain ⟨ps, ran, answer, beside⟩ := exec_replies served taken quiet
  have status : ps.engine.status = ((swathed cls tag pl s).st.ports.unit .engine).status := by
    rw [← kept]
    exact (beside .engine).2
  rw [swathed_unit] at status
  refine ⟨ps, ran, answer, ?_, fun stray => ?_, frame ps fun q => (beside q).1⟩
  · show ps.engine.status[FaultKind.index .swathWhileHeld] = _
    rw [status, swathNotes_held]
    exact if_congr beq_iff_eq rfl rfl
  · subst stray
    rw [status, swathNotes_stray]
    rfl

/-- The attempt of a report once its ink is drawn. -/
theorem drawn_attempt (pl : List Byte) (counts : Fin 12 → Nat × Nat × Nat) (s : State) (r : CopyRef) :
    (drawnFor counts .engine pl s).st.attempt? r = s.attempt? r :=
  attempt?_of_store ((drawnFor_within counts .engine pl s).same .store (by decide)) r

theorem swathed_due (cls : SwathClass) (tag : Byte) (pl : List Byte) (s : State) : (swathed cls tag pl s).due = [] :=
  ((drawnFor_within _ .engine pl s).comp (v := (.ports :: .meter :: .residues :: inkParts) ++ reportParts)
    (swathed_within cls tag pl s)).same .due (by decide)

theorem swathed_uncharged (ink : cls ≠ .stray) (tag : Byte) (pl : List Byte) (s : State) :
    (swathed cls tag pl s).st.cost = s.cost := by
  have assigned : (drawnFor (dropCounts pl 3) .engine pl s).Within [.store, .books, .channels, .reserved]
      (swathAssigned cls pl s) := by
    have consumed : (drawnFor (dropCounts pl 3) .engine pl s).Within [.store, .books, .channels, .reserved]
        (consume (refAt pl 0) (wholeVolumes s.meter (dropCounts pl 3)) (drawnFor (dropCounts pl 3) .engine pl s)) :=
      .after (modifyAttempt_within _ _ _) (.refl _ _)
    cases cls
    case attempt => exact .after (drawdown_within _ _ _) consumed
    case ended => exact consumed
    case stray => exact absurd rfl ink
  have drawn : (drawnFor (dropCounts pl 3) .engine pl s).st.cost = s.cost :=
    (drawnFor_within _ .engine pl s).same .cost (by decide)
  have cost : (swathAssigned cls pl s).st.cost = (drawnFor (dropCounts pl 3) .engine pl s).st.cost :=
    assigned.same .cost (by decide)
  exact cost.trans drawn

theorem swathed_undrawn (ended : cls ≠ .attempt) (tag : Byte) (pl : List Byte) (s : State) :
    (drawnFor (dropCounts pl 3) .engine pl s).Within [.store, .cost, .ports] (swathed cls tag pl s) := by
  refine .after (modifyPort_within _ .engine swathNotes_settings) ?_
  cases cls
  case attempt => exact absurd rfl ended
  case ended =>
    exact Ev.Within.mono (consume_within (refAt pl 0) (wholeVolumes s.meter (dropCounts pl 3)) _) (by decide)
  case stray => exact .after (strayCharge_within _ _) (.refl _ _)

theorem swathed_store (cls : SwathClass) (tag : Byte) (pl : List Byte) (s : State) :
    (swathed cls tag pl s).st.store = (swathAssigned cls pl s).st.store := rfl

end

/-- Settles O27: the printing attempt takes the volumes, and its job gives them up; trimming passes over the printing
job, and the walk over a job that does not wait. -/
theorem swathOfPrintingCopy : Obligations.SwathOfPrintingCopy := by
  intro s tag pl j k served len printing here swath out v
  have is : s.classify (refAt pl 0) = .attempt := if_pos printing
  obtain ⟨ps, ran, answer, noted, -, frame⟩ := exec_swath (tag := tag) served len is (fun stray => by cases stray) swath
  have drawn : (drawnFor (dropCounts pl 3) .engine pl s).st.attempt? (refAt pl 0) = some (j, k) :=
    (drawn_attempt pl _ s _).trans here
  have consumed := attempt?_modifyAttempt (fun a => { a with consumption := tabulate 12 fun c => add48 a.consumption[c] v[c] }) drawn
  obtain ⟨j₁, attempted, reserved⟩ := attempt?_drawdown v consumed
  have before : (swathed .attempt tag pl s).st.attempt? (refAt pl 0) = some (j₁, _) :=
    (attempt?_of_store (swathed_store .attempt tag pl s) _).trans attempted
  have due := swathed_due .attempt tag pl s
  obtain ⟨j', k', later, state, record⟩ := settle_attempt due before
  obtain ⟨open_, -, -⟩ := attempt?_eq_some.1 before
  obtain ⟨open', -, -⟩ := attempt?_eq_some.1 later
  obtain ⟨h, at_⟩ : ∃ h : Fin 32, h.val = (refAt pl 0).handle := ⟨⟨_, job?_lt open_⟩, rfl⟩
  have event : (Ev.begin s).Within ((.ports :: .meter :: .residues :: inkParts) ++ reportParts) (swathed .attempt tag pl s) :=
    (drawnFor_within _ .engine pl s).comp (swathed_within .attempt tag pl s)
  have prints : (swathed .attempt tag pl s).st.printing.map (·.handle) = some h.val := by
    rw [event.printing, show (Ev.begin s).st.printing = some (refAt pl 0) from printing, at_]
    rfl
  have waits : (swathed .attempt tag pl s).st.store.waitList = s.store.waitList := event.same .waitList (by decide)
  have beside : Ev.Beside h { swathed .attempt tag pl s with lost := false }
      (settleInk { swathed .attempt tag pl s with lost := false }) :=
    settleInk_beside prints (by
      show h ∉ (swathed .attempt tag pl s).st.store.waitList
      rw [waits]
      exact fun inn => out h inn at_)
  have kept : j'.reservation = j₁.reservation := by
    have job := settle_job (g := Job.reservation) (fun _ _ => rfl) due (refAt pl 0).handle
    rw [open', ← at_, beside.job, at_] at job
    exact Option.some.inj (job.trans (congrArg _ open_))
  have uncharged := swathed_uncharged (cls := .attempt) (by decide) tag pl s
  have start : (swathed .attempt tag pl s).start = s := event.start
  have cost : (settle (swathed .attempt tag pl s)).st.cost = (swathed .attempt tag pl s).st.cost :=
    (settle_within_unbooked due (by rw [uncharged, start])).same .cost (by decide)
  rw [uncharged] at cost
  generalize settle (swathed .attempt tag pl s) = t at *
  have endCause := congrArg Attempt.endCause record
  have ended := congrArg Attempt.ended record
  have consumption := congrArg Attempt.consumption record
  refine ⟨_, j', k', ran, answer, later, state, endCause, ended, fun c => ⟨?_, ?_⟩, cost, noted, frame⟩
  · have volume : k'.record.consumption = tabulate 12 fun c => add48 k.record.consumption[c] v[c] := consumption
    rw [volume]
    exact tabulate_get _ c
  · rw [kept]
    exact reserved c

/-! ### Reports that draw down no reservation -/

theorem swathed_reservations {cls : SwathClass} (ended : cls ≠ .attempt) (tag : Byte) (pl : List Byte) (s : State) :
    drawsDownNothing s (settle (swathed cls tag pl s)).st := by
  refine report_reservations (counts := dropCounts pl 3) (swathed_undrawn ended tag pl s) fun h => ?_
  have drawn : (drawnFor (dropCounts pl 3) .engine pl s).st.job? h = s.job? h :=
    job?_of_store ((drawnFor_within (dropCounts pl 3) .engine pl s).same .store (by decide)) h
  rw [← drawn, job?_of_store (swathed_store cls tag pl s)]
  cases cls
  case attempt => exact absurd rfl ended
  case ended => exact job?_modifyAttempt_map (fun _ _ => rfl) _ _ _ h
  case stray =>
    exact congrArg (Option.map _) (job?_of_store ((strayCharge_within (drawnFor (dropCounts pl 3) .engine pl s) _).same
      .store (by decide)) h)

theorem house_charged (n : Nat) (e : Ev) :
    ((e.modifyAccount 0 fun a => a.charge n).st.cost.accounts[(0 : Fin 32)]).charged =
      add64 (e.st.cost.accounts[(0 : Fin 32)]).charged n ∧
    ∀ a : Fin 32, a ≠ 0 → (e.modifyAccount 0 fun a => a.charge n).st.cost.accounts[a] = e.st.cost.accounts[a] :=
  ⟨by rw [modifyAccount_account, if_pos rfl]; rfl, fun a other => by rw [modifyAccount_account, if_neg other]⟩

/-- What a stray charge makes of the totals and of the accounts (R162). -/
theorem strayCharge_charges (v : Vector Nat 12) (e : Ev) :
    (strayCharge v e).st.cost.strayTotal = add64 e.st.cost.strayTotal (inkCost e.st.cost.prices[(0 : Fin 4)] v) ∧
    (strayCharge v e).st.cost.maintTotal = e.st.cost.maintTotal ∧
    ((strayCharge v e).st.cost.accounts[(0 : Fin 32)]).charged =
      add64 (e.st.cost.accounts[(0 : Fin 32)]).charged (inkCost e.st.cost.prices[(0 : Fin 4)] v) ∧
    ∀ a : Fin 32, a ≠ 0 → (strayCharge v e).st.cost.accounts[a] = e.st.cost.accounts[a] := by
  obtain ⟨charged, others⟩ := house_charged (inkCost e.st.cost.prices[(0 : Fin 4)] v) e
  unfold strayCharge
  dsimp only
  rw [mapCost_cost]
  exact ⟨by rw [modifyAccount_cost]; rfl, by rw [modifyAccount_cost], charged, others⟩

/-- The same of a maintenance charge (R162). -/
theorem maintenanceCharge_charges (v : Vector Nat 12) (e : Ev) :
    (maintenanceCharge v e).st.cost.maintTotal = add64 e.st.cost.maintTotal (inkCost e.st.cost.prices[(0 : Fin 4)] v) ∧
    (maintenanceCharge v e).st.cost.strayTotal = e.st.cost.strayTotal ∧
    ((maintenanceCharge v e).st.cost.accounts[(0 : Fin 32)]).charged =
      add64 (e.st.cost.accounts[(0 : Fin 32)]).charged (inkCost e.st.cost.prices[(0 : Fin 4)] v) ∧
    ∀ a : Fin 32, a ≠ 0 → (maintenanceCharge v e).st.cost.accounts[a] = e.st.cost.accounts[a] := by
  obtain ⟨charged, others⟩ := house_charged (inkCost e.st.cost.prices[(0 : Fin 4)] v) e
  unfold maintenanceCharge
  dsimp only
  rw [mapCost_cost]
  exact ⟨by rw [modifyAccount_cost]; rfl, by rw [modifyAccount_cost], charged, others⟩

theorem otherSwaths_hold : otherSwaths := by
  intro s tag pl served len other swath v
  refine ⟨fun j k here finishing => ?_, fun away stale => ?_⟩
  · have is : s.classify (refAt pl 0) = .ended := by
      unfold State.classify
      rw [if_neg other, here]
      exact if_pos finishing
    obtain ⟨ps, ran, answer, noted, -, frame⟩ := exec_swath (tag := tag) served len is (fun stray => by cases stray) swath
    have drawn : (drawnFor (dropCounts pl 3) .engine pl s).st.attempt? (refAt pl 0) = some (j, k) :=
      (drawn_attempt pl _ s _).trans here
    have before := attempt?_modifyAttempt
      (fun a => { a with consumption := tabulate 12 fun c => add48 a.consumption[c] v[c] }) drawn
    have due := swathed_due .ended tag pl s
    obtain ⟨j', k', later, state, record⟩ := settle_attempt due (e := swathed .ended tag pl s) before
    have event : (Ev.begin s).Within ((.ports :: .meter :: .residues :: inkParts) ++ reportParts) (swathed .ended tag pl s) :=
      (drawnFor_within _ .engine pl s).comp (swathed_within .ended tag pl s)
    have uncharged := swathed_uncharged (cls := .ended) (by decide) tag pl s
    have start : (swathed .ended tag pl s).start = s := event.start
    have cost : (settle (swathed .ended tag pl s)).st.cost = (swathed .ended tag pl s).st.cost :=
      (settle_within_unbooked due (by rw [uncharged, start])).same .cost (by decide)
    rw [uncharged] at cost
    have draws := swathed_reservations (cls := .ended) (by decide) tag pl s
    generalize settle (swathed .ended tag pl s) = t at *
    have endCause := congrArg Attempt.endCause record
    have ended := congrArg Attempt.ended record
    have consumption : k'.record.consumption = tabulate 12 fun c => add48 k.record.consumption[c] v[c] :=
      congrArg Attempt.consumption record
    refine ⟨_, j', k', ran, answer, later, state.trans finishing, endCause, ended, fun c => ?_, cost,
      drawsDownNothing_beside draws ps, noted, frame⟩
    rw [consumption]
    exact tabulate_get _ c
  · have is : s.classify (refAt pl 0) = .stray := by
      unfold State.classify
      rw [if_neg other]
      cases here : s.attempt? (refAt pl 0) with
      | none => rfl
      | some x => exact if_neg (away x.1 x.2 here)
    obtain ⟨ps, ran, answer, noted, fault, frame⟩ := exec_swath (tag := tag) served len is (fun _ => stale) swath
    have due := swathed_due .stray tag pl s
    have drawn : (drawnFor (dropCounts pl 3) .engine pl s).st.cost = s.cost :=
      (drawnFor_within _ .engine pl s).same .cost (by decide)
    have event : (Ev.begin s).Within ((.ports :: .meter :: .residues :: inkParts) ++ reportParts) (swathed .stray tag pl s) :=
      (drawnFor_within _ .engine pl s).comp (swathed_within .stray tag pl s)
    have start : (swathed .stray tag pl s).start = s := event.start
    have cost : (swathed .stray tag pl s).st.cost = (strayCharge v (drawnFor (dropCounts pl 3) .engine pl s)).st.cost :=
      modifyPort_cost _ _ _
    obtain ⟨stray, untouched, charged, others⟩ := strayCharge_charges v (drawnFor (dropCounts pl 3) .engine pl s)
    rw [drawn, ← cost] at stray untouched charged others
    obtain ⟨total, maint, house, rest⟩ := settle_house (e := swathed .stray tag pl s) due fun a away => by
      rw [start]
      exact others a away
    have draws := swathed_reservations (cls := .stray) (by decide) tag pl s
    generalize settle (swathed .stray tag pl s) = t at *
    exact ⟨_, ran, answer, fault rfl, total.trans stray, house.trans charged,
      fun a away => (rest a away).trans (others a away), maint.trans untouched, drawsDownNothing_beside draws ps, noted, frame⟩

theorem maintenance_hold : maintenanceReports := by
  intro s tag pl
  refine ⟨fun served len => ?_, fun served len => ?_, fun served len => ?_⟩
  · intro v
    have charge : (drawnFor (dropCounts pl 0) .engine pl s).Within [.cost]
        (maintenanceCharge v (drawnFor (dropCounts pl 0) .engine pl s)) := maintenanceCharge_within _ v
    have event : (Ev.begin s).Within ((.ports :: .meter :: .residues :: inkParts) ++ [.cost])
        (maintenanceCharge v (drawnFor (dropCounts pl 0) .engine pl s)) := (drawnFor_within _ .engine pl s).comp charge
    have drawn : (drawnFor (dropCounts pl 0) .engine pl s).st.cost = s.cost :=
      (drawnFor_within _ .engine pl s).same .cost (by decide)
    have ports : (maintenanceCharge v (drawnFor (dropCounts pl 0) .engine pl s)).st.ports = (accepted .engine pl s).st.ports :=
      ((drawReport_within (accepted .engine pl s) (dropCounts pl 0)).comp
        (v := .meter :: .residues :: inkParts ++ [.cost]) charge).same .ports (by decide)
    have store : (maintenanceCharge v (drawnFor (dropCounts pl 0) .engine pl s)).st.store = s.store :=
      event.same .store (by decide)
    have start : (maintenanceCharge v (drawnFor (dropCounts pl 0) .engine pl s)).start = s := event.start
    have due : (maintenanceCharge v (drawnFor (dropCounts pl 0) .engine pl s)).due = [] := event.same .due (by decide)
    have taken : ReqKind.maintReport.taken .engine tag pl s =
        (settle (maintenanceCharge v (drawnFor (dropCounts pl 0) .engine pl s)), Reply.ok (volumes 4 v)) := if_pos len
    have draws : drawsDownNothing s (settle (maintenanceCharge v (drawnFor (dropCounts pl 0) .engine pl s))).st :=
      report_reservations (counts := dropCounts pl 0) (charge.mono (by decide)) fun h =>
        congrArg _ (job?_of_store store h)
    have frame (ps : Ports) := report_frame (counts := dropCounts pl 0) (p := .engine) (pl := pl) (s := s)
      (charge.mono (by decide)) (.of_within charge) (ps := ps)
    obtain ⟨maint, untouched, charged, others⟩ := maintenanceCharge_charges v (drawnFor (dropCounts pl 0) .engine pl s)
    rw [drawn] at maint untouched charged others
    generalize maintenanceCharge v (drawnFor (dropCounts pl 0) .engine pl s) = f at *
    obtain ⟨stray, total, house, rest⟩ := settle_house due fun a away => by
      rw [start]
      exact others a away
    have kept : (settle f).st.ports = f.st.ports := (settle_kept f).ports
    have quiet := settle_lost f
    generalize settle f = t at *
    obtain ⟨ps, ran, answer, beside⟩ := exec_replies served taken quiet
    have status : ps.engine.status = (f.st.ports.unit .engine).status := by
      rw [← kept]
      exact (beside .engine).2
    rw [ports] at status
    exact ⟨_, ran, answer, total.trans maint, house.trans charged, fun a away => (rest a away).trans (others a away),
      stray.trans untouched, status, drawsDownNothing_beside draws ps, frame ps fun q => (beside q).1⟩
  · exact exec_answered served (if_neg len)
  · exact exec_answered served (if_neg len)

/-- Settles O28: the late, the stray and the maintenance reports by the same draw, and where the draw leaves every
reserved total within its usable volume the end of the event trims nothing. -/
theorem otherReports : Obligations.OtherReports := ⟨otherSwaths_hold, maintenance_hold⟩

end Sys2Proof.Machine
end

section
/-! The bays that a switchover writes (2.4, 2.8), for O41, O43 and O45. -/

namespace Sys2Proof.Machine

-- One proof after another: the stacks of many waiting threads do not fit the memory of one compile.
set_option Elab.async false

/-! ### A bay that takes over -/

theorem modifyAt_modifyAt {α : Type} {n : Nat} (v : Vector α n) (i : Fin n) (f g : α → α) :
    modifyAt (modifyAt v i f) i g = modifyAt v i fun x => g (f x) :=
  table_ext fun j => by
    rw [modifyAt_get, modifyAt_get, modifyAt_get]
    split <;> rfl

/-- Two changes of a bay and its channel are one. -/
theorem change_change (i : InkUnit) (c : Fin 12) (sd : Side) (f f' : Bay → Bay) (g g' : Channel → Channel) :
    (i.change c sd f g).change c sd f' g' = i.change c sd (fun b => f' (f b)) fun ch => g' (g ch) := by
  unfold InkUnit.change
  dsimp only
  rw [modifyAt_modifyAt, modifyAt_modifyAt]

section
variable {c : Fin 12} {sd : Side} {e : Ev}

/-- The bay that takes over is ACTIVE, or SPENT where its level lies at or below the dead volume (R31, R44). -/
theorem switchTo_ink (low : Bool) (at_ : low = decide (e.st.ink.bays[bayOf c sd].level ≤ e.st.ink.channels[c].dead)) :
    (switchTo c sd e).st.ink = e.st.ink.change c sd (fun b => { b with state := if low then .spent else .active })
      fun ch => { ch with active := if low then none else some sd, lastActive := some sd } := by
  unfold switchTo
  dsimp only
  split
  · next is =>
    rw [decide_eq_true is] at at_
    subst at_
    rw [becomeSpent_ink]
    refine (congrArg (InkUnit.change c sd _ _) (becomeActive_ink c sd e)).trans ?_
    rw [change_change]
    rfl
  · next above =>
    rw [decide_eq_false above] at at_
    subst at_
    rfl

end

/-! ### The sides at the end of an event -/

theorem Ev.Lasts.sides {e e' : Ev} (h : e.Lasts e') (c : Fin 12) :
    (e'.st.ink.channels[c]).active = (e.st.ink.channels[c]).active ∧
      (e'.st.ink.channels[c]).lastActive = (e.st.ink.channels[c]).lastActive := by
  have active := congrArg Channel.active (h c)
  have lastActive := congrArg Channel.lastActive (h c)
  exact ⟨active, lastActive⟩

/-! ### The bays beside -/

/-- From `i` to `j` bays change in their states alone, and only those of one channel. -/
structure InkUnit.Restates (c : Fin 12) (i j : InkUnit) : Prop where
  bays : ∀ b : Fin 24, j.bays[b] = { i.bays[b] with state := (j.bays[b]).state }
  others : ∀ b : Fin 24, channelOf b ≠ c → j.bays[b] = i.bays[b]

namespace InkUnit.Restates

variable {c : Fin 12} {i j k : InkUnit}

theorem refl (c : Fin 12) (i : InkUnit) : i.Restates c i := ⟨fun _ => rfl, fun _ _ => rfl⟩

theorem trans (h : i.Restates c j) (h' : j.Restates c k) : i.Restates c k :=
  ⟨fun b => by rw [h'.bays b, h.bays b], fun b away => (h'.others b away).trans (h.others b away)⟩

theorem change (i : InkUnit) (c : Fin 12) (sd : Side) (st : BayState) (g : Channel → Channel) :
    i.Restates c (i.change c sd (fun b => { b with state := st }) g) := by
  refine ⟨fun b => ?_, fun b away => ?_⟩
  · rw [change_bay_cases]
    split <;> rfl
  · rw [change_bay_cases, if_neg fun is => away (by rw [is, channelOf_bayOf])]

end InkUnit.Restates

section
variable {c : Fin 12} {sd : Side} {e : Ev}

theorem becomeSpent_restates : e.st.ink.Restates c (becomeSpent c sd e).st.ink := by
  rw [becomeSpent_ink]
  exact .change _ _ _ _ _

theorem switchIfReady_restates : e.st.ink.Restates c (switchIfReady c sd e).st.ink := by
  unfold switchIfReady
  split
  · rw [switchTo_ink _ rfl]
    exact .change _ _ _ _ _
  · exact .refl c _

theorem giveUp_restates : e.st.ink.Restates c (giveUp c e).st.ink := by
  unfold giveUp
  split
  · exact .refl c _
  · split
    · exact becomeSpent_restates.trans switchIfReady_restates
    · exact .refl c _

/-- A takeover by one bay leaves the other bay of the channel (R31). -/
theorem switchIfReady_other : (switchIfReady c sd.other e).st.ink.bays[bayOf c sd] = e.st.ink.bays[bayOf c sd] := by
  by_cases ready : e.st.ink.bays[bayOf c sd.other].state = .ready
  · rw [show switchIfReady c sd.other e = switchTo c sd.other e from if_pos ready, switchTo_ink _ rfl]
    rw [change_bay_cases, if_neg fun is => other_ne sd (bayOf_inj.1 is).2.symm]
  · rw [show switchIfReady c sd.other e = e from if_neg ready]

/-- The active bay after its level is weighed against the dead volume (R31). -/
theorem giveUp_bay (active : e.st.ink.channels[c].active = some sd) : (giveUp c e).st.ink.bays[bayOf c sd] =
    if e.st.ink.bays[bayOf c sd].level ≤ e.st.ink.channels[c].dead then
      { e.st.ink.bays[bayOf c sd] with state := .spent }
    else e.st.ink.bays[bayOf c sd] := by
  unfold giveUp
  rw [active]
  dsimp only
  split
  · rw [switchIfReady_other, becomeSpent_ink, change_bay]
  · rfl

theorem giveUp_above (active : e.st.ink.channels[c].active = some sd)
    (above : e.st.ink.channels[c].dead < e.st.ink.bays[bayOf c sd].level) : giveUp c e = e := by
  unfold giveUp
  rw [active]
  exact if_neg (by omega)

end

end Sys2Proof.Machine
end

section
/-! Cartridges declared and removed, and the settings of a channel (2.3, 2.8, 2.9, O41, O43, O45). -/

namespace Sys2Proof.Machine

-- One proof after another: the stacks of many waiting threads do not fit the memory of one compile.
set_option Elab.async false

/-! ### The end of an event that touches the bays -/

/-- An event of the Ink unit books and charges nothing. -/
theorem settle_ink_cost {e f : Ev} (h : e.Within (.ports :: .inkSettings :: inkParts) f) (due : e.due = [])
    (fresh : e.st.cost = e.start.cost) : (settle f).st.cost = e.st.cost := by
  have cost : f.st.cost = e.st.cost := h.same .cost (by decide)
  have due' : f.due = e.due := h.same .due (by decide)
  have settled : (settle f).st.cost = f.st.cost :=
    (settle_within_unbooked (due'.trans due) (by rw [cost, h.start, fresh])).same .cost (by decide)
  exact settled.trans cost

/-! ### A removal -/

section
variable {c : Fin 12} {sd : Side} {e : Ev}

theorem takeOut_here : (takeOut c sd e).st.ink.bays[bayOf c sd] = (e.st.ink.bays[bayOf c sd]).remove e.st.now := by
  rw [takeOut_ink, change_bay]

/-- The bay removed from (R44, R45). -/
theorem removeCartridge_here : (removeCartridge (bayOf c sd) e).st.ink.bays[bayOf c sd] =
    (e.st.ink.bays[bayOf c sd]).remove e.st.now := by
  rw [removeCartridge_bayOf]
  split
  · exact switchIfReady_other.trans takeOut_here
  · exact takeOut_here

/-- The bays of the other channels (R44). -/
theorem removeCartridge_away {x : Fin 24} (away : channelOf x ≠ c) :
    (removeCartridge (bayOf c sd) e).st.ink.bays[x] = e.st.ink.bays[x] := by
  have out : (takeOut c sd e).st.ink.bays[x] = e.st.ink.bays[x] := by
    rw [takeOut_ink, change_bay_cases, if_neg fun is => away (by rw [is, channelOf_bayOf])]
  rw [removeCartridge_bayOf]
  split
  · rw [switchIfReady_restates.others x away, out]
  · exact out

/-- A bay that was not ACTIVE leaves the other bay of its channel (R44). -/
theorem removeCartridge_idle (idle : e.st.ink.bays[bayOf c sd].state ≠ .active) :
    (removeCartridge (bayOf c sd) e).st.ink.bays[bayOf c sd.other] = e.st.ink.bays[bayOf c sd.other] := by
  rw [removeCartridge_bayOf, if_neg idle, takeOut_ink, change_bay_other]

/-- Where the ACTIVE bay is removed and the other is not READY, the channel forgets it (R44). -/
theorem removeCartridge_alone (active : e.st.ink.bays[bayOf c sd].state = .active)
    (unready : e.st.ink.bays[bayOf c sd.other].state ≠ .ready) :
    (removeCartridge (bayOf c sd) e).st.ink = e.st.ink.change c sd (Bay.remove e.st.now) (Channel.forget sd) := by
  rw [removeCartridge_bayOf, if_pos active]
  unfold switchIfReady
  rw [if_neg, takeOut_ink]
  rw [takeOut_ink, change_bay_other]
  exact unready

/-- Where the ACTIVE bay is removed and the other is READY, the other takes over (R31, R44). -/
theorem removeCartridge_switched (active : e.st.ink.bays[bayOf c sd].state = .active)
    (ready : e.st.ink.bays[bayOf c sd.other].state = .ready) :
    (removeCartridge (bayOf c sd) e).st.ink.bays[bayOf c sd.other] = { e.st.ink.bays[bayOf c sd.other] with
      state := if e.st.ink.bays[bayOf c sd.other].level ≤ e.st.ink.channels[c].dead then .spent else .active } ∧
    ((removeCartridge (bayOf c sd) e).st.ink.channels[c]).active =
      (if e.st.ink.bays[bayOf c sd.other].level ≤ e.st.ink.channels[c].dead then none else some sd.other) ∧
    ((removeCartridge (bayOf c sd) e).st.ink.channels[c]).lastActive = some sd.other := by
  have other : (takeOut c sd e).st.ink.bays[bayOf c sd.other] = e.st.ink.bays[bayOf c sd.other] := by
    rw [takeOut_ink, change_bay_other]
  have dead : ((takeOut c sd e).st.ink.channels[c]).dead = e.st.ink.channels[c].dead := by
    rw [takeOut_ink, change_channel]
    rfl
  have switched : (removeCartridge (bayOf c sd) e) = switchTo c sd.other (takeOut c sd e) := by
    rw [removeCartridge_bayOf, if_pos active]
    exact if_pos (by rw [other]; exact ready)
  rw [switched, switchTo_ink _ rfl, change_bay, change_channel, other, dead]
  simp only [decide_eq_true_eq]
  exact ⟨trivial, trivial, trivial⟩

end

/-- Settles O45: the bay is emptied, and what the other bay becomes follows its state and its level. -/
theorem cartridgeRemoved : Obligations.CartridgeRemoved := by
  intro s b run seated
  obtain ⟨c, sd, rfl⟩ := exists_bayOf b
  simp only [channelOf_bayOf, sideOf_bayOf]
  let e := Ev.moved (Pins.setPresent (bayOf c sd) false) s
  have does : started (.cartridgePresentFall (bayOf c sd)) s = settle (removeCartridge (bayOf c sd) e) := if_neg seated
  have ran := exec_started (c := .cartridgePresentFall (bayOf c sd)) rfl run does
    (settle_lost (removeCartridge (bayOf c sd) e))
  have removed : e.Within inkParts (removeCartridge (bayOf c sd) e) := removeCartridge_within e _
  have whole : e.Within (inkParts ++ settleParts) (settle (removeCartridge (bayOf c sd) e)) :=
    removed.comp (settle_within (removeCartridge (bayOf c sd) e))
  have bays : (settle (removeCartridge (bayOf c sd) e)).st.ink.bays = (removeCartridge (bayOf c sd) e).st.ink.bays :=
    (settle_kept _).bays
  have sides (x : Fin 12) := (settle_lasts (removeCartridge (bayOf c sd) e)).sides x
  have cost : (settle (removeCartridge (bayOf c sd) e)).st.cost = s.cost :=
    settle_ink_cost (e := e) (removed.mono (by decide)) rfl rfl
  have here := removeCartridge_here (c := c) (sd := sd) (e := e)
  have idle := removeCartridge_idle (c := c) (sd := sd) (e := e)
  have alone := removeCartridge_alone (c := c) (sd := sd) (e := e)
  have switched := removeCartridge_switched (c := c) (sd := sd) (e := e)
  have away := fun x => removeCartridge_away (c := c) (sd := sd) (e := e) (x := x)
  generalize settle (removeCartridge (bayOf c sd) e) = t at *
  generalize (removeCartridge (bayOf c sd) e).st.ink = i at *
  obtain ⟨inkKept, pathKept, lockedKept, portsKept, rosterKept⟩ := whole.settingsKept.finish
  refine ⟨_, ran, ?_, fun off => ?_, fun on ready => ?_, fun on unready => ?_, fun x out => ?_, whole.pins,
    ⟨inkKept, pathKept, lockedKept, portsKept, rosterKept⟩, whole.same .meter (by decide), whole.same .scan (by decide), whole.same .sched (by decide),
    cost, whole.same .colour (by decide), whole.same .media (by decide), whole.same .clock (by decide), whole.pending⟩
  · show t.st.ink.bays[bayOf c sd] = _
    rw [bays]
    exact here
  · show t.st.ink.bays[bayOf c sd.other] = _
    rw [bays]
    exact idle off
  · show t.st.ink.bays[bayOf c sd.other] = _ ∧ (t.st.ink.channels[c]).active = _ ∧ (t.st.ink.channels[c]).lastActive = _
    rw [bays, (sides c).1, (sides c).2]
    exact switched on ready
  · show t.st.ink.bays[bayOf c sd.other] = _ ∧ (_ → (t.st.ink.channels[c]).active = _) ∧
      (_ → (t.st.ink.channels[c]).lastActive = _)
    rw [bays, (sides c).1, (sides c).2, alone on unready, change_bay_other, change_channel]
    exact ⟨rfl, fun is => if_pos is, fun is => if_pos is⟩
  · show t.st.ink.bays[x] = _
    rw [bays]
    exact away x out

/-! ### A declaration -/

section
variable {c : Fin 12} {sd : Side} {volume lot expiry : Nat} {e : Ev}

/-- The bay that takes its channel over as it is declared (R29, R30). -/
def declaredActive (c : Fin 12) (sd : Side) (volume lot expiry : Nat) (e : Ev) : Ev :=
  becomeActive c sd (e.modifyBay (bayOf c sd) (Bay.declare e.st.now e.st.clock.day volume lot expiry))

theorem declaredActive_ink : (declaredActive c sd volume lot expiry e).st.ink = e.st.ink.change c sd
    (fun b => { b.declare e.st.now e.st.clock.day volume lot expiry with state := .active })
    fun ch => { ch with active := some sd, lastActive := some sd } := by
  refine (becomeActive_ink _ _ _).trans ?_
  refine (congrArg (InkUnit.change c sd _ _) (modifyBay_change c sd _ e)).trans ?_
  rw [change_change]
  rfl

theorem declareCartridge_takes (fresh : ¬ expiry < e.st.clock.day) (idle : e.st.ink.channels[c].active = none) :
    declareCartridge (bayOf c sd) volume lot expiry e = giveUp c (declaredActive c sd volume lot expiry e) :=
  (declareCartridge_bayOf c sd volume lot expiry e).trans (if_pos ⟨fresh, idle⟩)

theorem declaredActive_bay : (declaredActive c sd volume lot expiry e).st.ink.bays[bayOf c sd] =
    { (e.st.ink.bays[bayOf c sd]).declare e.st.now e.st.clock.day volume lot expiry with state := .active } := by
  rw [declaredActive_ink, change_bay]

theorem declaredActive_channel : (declaredActive c sd volume lot expiry e).st.ink.channels[c] =
    { e.st.ink.channels[c] with active := some sd, lastActive := some sd } := by
  rw [declaredActive_ink, change_channel]

/-- The bay once its cartridge is declared (R29, R30, R31). -/
theorem declareCartridge_here : (declareCartridge (bayOf c sd) volume lot expiry e).st.ink.bays[bayOf c sd] =
    { e.st.ink.bays[bayOf c sd] with
      state :=
        if expiry < e.st.clock.day then .expired
        else if e.st.ink.channels[c].active.isSome then .ready
        else if volume ≤ e.st.ink.channels[c].dead then .spent else .active
      uncertain := false
      cart := some (declared e.st.now volume lot expiry) } := by
  by_cases takes : ¬ expiry < e.st.clock.day ∧ e.st.ink.channels[c].active = none
  · obtain ⟨fresh, idle⟩ := takes
    have level : ((declaredActive c sd volume lot expiry e).st.ink.bays[bayOf c sd]).level = volume := by
      rw [declaredActive_bay]
      rfl
    have dead : ((declaredActive c sd volume lot expiry e).st.ink.channels[c]).dead = e.st.ink.channels[c].dead := by
      rw [declaredActive_channel]
    rw [declareCartridge_takes fresh idle, giveUp_bay (sd := sd) (by rw [declaredActive_channel]), level, dead,
      declaredActive_bay, if_neg fresh, idle]
    simp only [Option.isSome_none, Bool.false_eq_true, if_false]
    split <;> rfl
  · rw [declareCartridge_bayOf, if_neg takes, modifyBay_change, change_bay]
    unfold Bay.declare
    by_cases expired : expiry < e.st.clock.day
    · rw [if_pos expired, if_pos expired]
    · cases active : e.st.ink.channels[c].active with
      | none => exact absurd ⟨expired, active⟩ takes
      | some x => rfl

/-- A bay declared above the dead volume of an idle channel becomes its active bay (R30). -/
theorem declareCartridge_channel (fresh : e.st.clock.day ≤ expiry) (idle : e.st.ink.channels[c].active = none)
    (above : e.st.ink.channels[c].dead < volume) :
    ((declareCartridge (bayOf c sd) volume lot expiry e).st.ink.channels[c]).active = some sd ∧
      ((declareCartridge (bayOf c sd) volume lot expiry e).st.ink.channels[c]).lastActive = some sd := by
  have active : ((declaredActive c sd volume lot expiry e).st.ink.channels[c]).active = some sd := by
    rw [declaredActive_channel]
  rw [declareCartridge_takes (by omega) idle, giveUp_above active (by
    rw [declaredActive_bay, declaredActive_channel]
    exact above), declaredActive_channel]
  exact ⟨rfl, rfl⟩

theorem declareCartridge_away {x : Fin 24} (away : channelOf x ≠ c) :
    (declareCartridge (bayOf c sd) volume lot expiry e).st.ink.bays[x] = e.st.ink.bays[x] := by
  have out : x ≠ bayOf c sd := fun is => away (by rw [is, channelOf_bayOf])
  by_cases takes : ¬ expiry < e.st.clock.day ∧ e.st.ink.channels[c].active = none
  · rw [declareCartridge_takes takes.1 takes.2, giveUp_restates.others x away, declaredActive_ink, change_bay_cases,
      if_neg out]
  · rw [declareCartridge_bayOf, if_neg takes, modifyBay_change, change_bay_cases, if_neg out]

end

/-- Settles O41: the state of the bay follows the date, the channel's active bay and the dead volume. -/
theorem declareCartridge_holds : Obligations.DeclareCartridge := by
  intro s tag b volume lot expiry low high lotFits expiryFits inserted
  obtain ⟨c, sd, rfl⟩ := exists_bayOf b
  simp only [channelOf_bayOf, sideOf_bayOf]
  intro served
  have read : readDeclaration (declarationBytes (bayOf c sd).val volume lot expiry) =
      some { bay := bayOf c sd, volume := volume, lot := lot, expiry := expiry } :=
    (readDeclaration_bytes (by omega) (by omega) lotFits expiryFits).trans
      ((dif_pos (bayOf c sd).isLt).trans (if_pos ⟨low, high⟩))
  have taken := taken_declare (s := s) (tag := tag) read
  rw [show declarationBytes (bayOf c sd).val volume lot expiry = leBytes 1 (bayOf c sd).val ++ leBytes 4 volume ++
    leBytes 4 lot ++ leBytes 2 expiry from rfl] at taken
  generalize leBytes 1 (bayOf c sd).val ++ leBytes 4 volume ++ leBytes 4 lot ++ leBytes 2 expiry = pl at served taken ⊢
  generalize event : declareCartridge (bayOf c sd) volume lot expiry (accepted .desk pl s) = f at taken
  dsimp only at taken
  rw [inserted] at taken
  unfold declarationReport at taken
  dsimp only at taken
  rw [channelOf_bayOf] at taken
  have declared : (accepted .desk pl s).Within inkParts f := event ▸ declareCartridge_within _ _ _ _ _
  have whole : (Ev.begin s).Within (.ports :: inkParts ++ settleParts) (settle f) :=
    .after (settle_within f) <| .after declared ((accepted_within .desk pl s).mono (by decide))
  have bays : (settle f).st.ink.bays = f.st.ink.bays := (settle_kept f).bays
  have sides := (settle_lasts f).sides c
  have quiet := settle_lost f
  have cost : (settle f).st.cost = s.cost :=
    settle_ink_cost (e := Ev.begin s) ((accepted_within .desk pl s).comp declared) rfl rfl
  have here : f.st.ink.bays[bayOf c sd] = _ := event ▸ declareCartridge_here
  generalize settle f = t at *
  obtain ⟨ps, ran, answer, beside⟩ := exec_replies served taken quiet
  refine ⟨_, ran, ?_, fun fresh idle above => ?_, answer, fun x away => ?_, whole.settingsKept.beside fun q => (beside q).1,
    whole.same .meter (by decide), whole.same .scan (by decide), whole.same .sched (by decide), cost,
    whole.same .colour (by decide), whole.same .media (by decide), whole.same .clock (by decide),
    Prod.ext whole.pins whole.pending⟩
  · show t.st.ink.bays[bayOf c sd] = _
    rw [bays]
    exact here
  · show (t.st.ink.channels[c]).active = _ ∧ (t.st.ink.channels[c]).lastActive = _
    rw [sides.1, sides.2, ← event]
    exact declareCartridge_channel fresh idle above
  · show t.st.ink.bays[x] = _
    rw [bays, ← event]
    exact declareCartridge_away away

/-! ### The settings of a channel -/

section
variable {c : Fin 12} {x : ChannelSettings} {e : Ev}

theorem set_channel : (e.modifyChannel c (Channel.set x)).st.ink.channels[c] = (e.st.ink.channels[c]).set x :=
  modifyAt_self _ _ _

/-- The settings after SET_CHANNEL (R47). -/
theorem setChannel_settings (y : Fin 12) : ((setChannel c x e).st.ink.channels[y]).settings =
    if y = c then (x.dead, x.tolerance, x.density, x.lowThreshold) else (e.st.ink.channels[y]).settings := by
  have stored : ((e.modifyChannel c (Channel.set x)).st.ink.channels[y]).settings =
      if y = c then (x.dead, x.tolerance, x.density, x.lowThreshold) else (e.st.ink.channels[y]).settings := by
    rw [modifyChannel_ink]
    show Channel.settings (modifyAt e.st.ink.channels c (Channel.set x))[y] = _
    rw [modifyAt_get]
    split <;> rfl
  unfold setChannel
  dsimp only
  split
  · have kept : mapTable Channel.settings (giveUp c (e.modifyChannel c (Channel.set x))).st.ink.channels =
        mapTable Channel.settings (e.modifyChannel c (Channel.set x)).st.ink.channels :=
      congrArg Prod.fst ((giveUp_within (e.modifyChannel c (Channel.set x)) c).same .inkSettings (by decide))
    have same := congrArg (·[y]) kept
    simp only [mapTable_get] at same
    exact same.trans stored
  · exact stored

theorem setChannel_restates : e.st.ink.Restates c (setChannel c x e).st.ink := by
  have stored : e.st.ink.Restates c (e.modifyChannel c (Channel.set x)).st.ink := ⟨fun _ => rfl, fun _ _ => rfl⟩
  unfold setChannel
  dsimp only
  split
  · exact stored.trans giveUp_restates
  · exact stored

theorem setChannel_lower (lower : x.dead ≤ e.st.ink.channels[c].dead) : (setChannel c x e).st.ink.bays = e.st.ink.bays := by
  rw [show setChannel c x e = e.modifyChannel c (Channel.set x) from if_neg (Nat.not_lt.2 lower)]
  rfl

/-- A dead volume raised to the level of the active bay or above it gives that bay up (R31, R47). -/
theorem setChannel_spent {sd : Side} (raised : e.st.ink.channels[c].dead < x.dead)
    (active : e.st.ink.channels[c].active = some sd) (low : e.st.ink.bays[bayOf c sd].level ≤ x.dead) :
    ((setChannel c x e).st.ink.bays[bayOf c sd]).state = .spent := by
  have gives : setChannel c x e = giveUp c (e.modifyChannel c (Channel.set x)) := if_pos raised
  rw [gives, giveUp_bay (sd := sd) (by rw [set_channel]; exact active), if_pos (by rw [set_channel]; exact low)]

end

theorem readChannel_bytes {c : Fin 12} {dead tol dens low : Nat} (deadFits : dead < 4294967296) (tolFits : tol < 4294967296)
    (densFits : dens < 65536) (lowFits : low < 4294967296) :
    readChannel (leBytes 1 c.val ++ leBytes 4 dead ++ leBytes 4 tol ++ leBytes 2 dens ++ leBytes 4 low) = some (c,
      { dead := min dead 50000000, tolerance := max 100000 (min tol 50000000), density := max 800 (min dens 1500),
        lowThreshold := min low 2000000000 }) := by
  have fits : c.val < 256 := by omega
  have channel : fin? 12 c.val = some c := dif_pos c.isLt
  simp [readChannel, field_here, field_skip, field_last, deadFits, tolFits, densFits, lowFits, fits, channel, clamp_eq]

theorem taken_setChannel {s : State} {tag : Byte} {pl : List Byte} {x : Fin 12 × ChannelSettings}
    (read : readChannel pl = some x) : ReqKind.taken .setChannel .desk tag pl s =
      (settle (setChannel x.1 x.2 (accepted .desk pl s)), Reply.ok (channelSettingsBytes x.2)) :=
  taken_read (k := .setChannel) (p := .desk) (tag := tag) (s := s) (a := x) (read := readChannel)
    (f := fun _ e x => (settle (setChannel x.1 x.2 e), Reply.ok (channelSettingsBytes x.2))) rfl read

/-- SET_CHANNEL with these values read: the settings are stored, and the end of the event changes no bay (R31, R47). -/
theorem exec_setChannel {s : State} {tag : Byte} {pl : List Byte} {c : Fin 12} {x : ChannelSettings}
    (served : s.serves .setChannel .desk pl = true) (read : readChannel pl = some (c, x)) :
    ∃ t : State, exec (.setChannel .desk tag pl) s = .next t ∧
      (t.ink.channels[c]).settings = (x.dead, x.tolerance, x.density, x.lowThreshold) ∧
      t.hasAnswer .desk .setChannel tag (Reply.ok (channelSettingsBytes x)) ∧
      (∀ y : Fin 12, y ≠ c → (t.ink.channels[y]).settings = (s.ink.channels[y]).settings) ∧
      (∀ b : Fin 24, t.ink.bays[b] = { s.ink.bays[b] with state := t.ink.bays[b].state }) ∧
      (x.dead ≤ s.ink.channels[c].dead → t.ink.bays = s.ink.bays) ∧
      (∀ sd, s.ink.channels[c].dead < x.dead → s.ink.channels[c].active = some sd →
        s.ink.bays[bayOf c sd].level ≤ x.dead → t.ink.bays[bayOf c sd].state = .spent) ∧
      t.pathSettings = s.pathSettings ∧ t.locked = s.locked ∧ t.roster = s.roster ∧
      (∀ p, t.portSettings p = s.portSettings p) ∧ t.meter = s.meter ∧ t.scan = s.scan ∧
      t.sched = s.sched ∧ t.cost = s.cost ∧ t.colour = s.colour ∧ t.media.sameButHold s.media ∧
      t.clock = s.clock ∧ t.outside = s.outside := by
  have taken := taken_setChannel (s := s) (tag := tag) read
  dsimp only at taken
  have settings := setChannel_settings (c := c) (x := x) (e := accepted .desk pl s)
  have restates := setChannel_restates (c := c) (x := x) (e := accepted .desk pl s)
  have lower := setChannel_lower (c := c) (x := x) (e := accepted .desk pl s)
  have spent (sd : Side) := setChannel_spent (c := c) (x := x) (e := accepted .desk pl s) (sd := sd)
  have stored : (accepted .desk pl s).Within (.inkSettings :: inkParts)
      (setChannel c x (accepted .desk pl s)) := setChannel_within _ _ _
  generalize setChannel c x (accepted .desk pl s) = f at *
  have whole : (Ev.begin s).Within (.ports :: .inkSettings :: inkParts ++ settleParts) (settle f) :=
    .after (settle_within f) <| .after stored ((accepted_within .desk pl s).mono (by decide))
  have bays : (settle f).st.ink.bays = f.st.ink.bays := (settle_kept f).bays
  have inkKept : (settle f).st.inkSettings = f.st.inkSettings := (settle_within f).same .inkSettings (by decide)
  have cost : (settle f).st.cost = s.cost :=
    settle_ink_cost (e := Ev.begin s) ((accepted_within .desk pl s).comp stored) rfl rfl
  have quiet := settle_lost f
  generalize settle f = t at *
  obtain ⟨ps, ran, answer, beside⟩ := exec_replies served taken quiet
  have kept : mapTable Channel.settings t.st.ink.channels = mapTable Channel.settings f.st.ink.channels :=
    congrArg Prod.fst inkKept
  have channel (y : Fin 12) : (t.st.ink.channels[y]).settings = (f.st.ink.channels[y]).settings := by
    have same := congrArg (·[y]) kept
    simp only [mapTable_get] at same
    exact same
  refine ⟨_, ran, (channel c).trans ((settings c).trans (if_pos rfl)), answer,
    fun y other => (channel y).trans ((settings y).trans (if_neg other)), fun b => ?_, fun notRaised => ?_,
    fun sd raised active low => ?_, whole.same .pathSettings (by decide), whole.same .locked (by decide),
    whole.same .roster (by decide), fun p => (beside p).1.trans (congrFun (whole.same .portSettings (by decide) :) p),
    whole.same .meter (by decide), whole.same .scan (by decide), whole.same .sched (by decide), cost,
    whole.same .colour (by decide), whole.same .media (by decide), whole.same .clock (by decide),
    Prod.ext whole.pins whole.pending⟩
  · show t.st.ink.bays[b] = { s.ink.bays[b] with state := (t.st.ink.bays[b]).state }
    rw [bays]
    exact restates.bays b
  · exact bays.trans (lower notRaised)
  · show (t.st.ink.bays[bayOf c sd]).state = _
    rw [bays]
    exact spent sd raised active low

/-- Settles O43: SET_CHANNEL reads its values clamped. -/
theorem setChannel_holds : Obligations.SetChannel := by
  intro s tag c dead tol dens low deadFits tolFits densFits lowFits pl served
  exact exec_setChannel served (readChannel_bytes deadFits tolFits densFits lowFits)

end Sys2Proof.Machine
end

section
/-! A PANEL_REQUEST answered with a grant (5.3, 5.4, O32). -/

namespace Sys2Proof.Machine

-- One proof after another: the stacks of many waiting threads do not fit the memory of one compile.
set_option Elab.async false

/-! ### What the marks leave of the media record -/

/-- The roll in path and the NONE flag, which no mark writes (R92, R124). -/
def Ev.SamePath (e e' : Ev) : Prop :=
  e'.st.media.rollInPath = e.st.media.rollInPath ∧ e'.st.media.lastNone = e.st.media.lastNone

theorem Ev.SamePath.refl (e : Ev) : e.SamePath e := ⟨rfl, rfl⟩

theorem Ev.SamePath.trans {e f g : Ev} (h : e.SamePath f) (k : f.SamePath g) : e.SamePath g :=
  ⟨k.1.trans h.1, k.2.trans h.2⟩

theorem Ev.SamePath.of_within {w : List Part} {e e' : Ev} (h : e.Within w e') (out : .media ∉ w := by decide) :
    e.SamePath e' := by
  have media : e'.st.media.sameButHold e.st.media := h.same .media out
  unfold Ev.SamePath
  rw [media]
  exact ⟨rfl, rfl⟩

theorem samePath_walk : HeadWalk Ev.SamePath where
  refl := .refl
  trans := .trans
  report e r res f := ⟨rfl, rfl⟩
  begins e m := ⟨rfl, rfl⟩
  waits e m left := ⟨rfl, rfl⟩
  fires e := ⟨rfl, rfl⟩
  serves e q := ⟨rfl, rfl⟩
  starts e q := ⟨rfl, rfl⟩
  cuts e o m := by
    rw [resolveCut_eq]
    exact (Ev.SamePath.of_within (cutWritten_within o m e)).trans ⟨rfl, rfl⟩

theorem settleMarks_samePath (e : Ev) : e.SamePath (settleMarks e) := by
  refine (samePath_walk.runHead e).trans ?_
  have media : (settle (runHead e)).st.media.sameButHold (runHead e).st.media := (settle_kept (runHead e)).media
  unfold Ev.SamePath settleMarks
  rw [media]
  exact ⟨rfl, rfl⟩

theorem judgeGrant_samePath (e : Ev) : e.SamePath (judgeGrant e) := by
  unfold judgeGrant
  split
  · exact .refl e
  · split
    · split
      · exact samePath_walk.report e _ _ _
      · exact .refl e
    · exact .refl e

/-! ### What a grant writes into its attempt -/

/-- The figures of an attempt that its grant alone writes (R11, R122, R157). -/
def Attempt.seized (a : Attempt) : Option Stamp × Nat × Nat := (a.started, a.pauseLimit, a.pricedWidth)

theorem markBlind_seized : MarkBlind Attempt.seized where
  measured _ _ _ := rfl
  cut o _ _ _ _ := by cases o <;> rfl
  moved _ _ := rfl

theorem judgeGrant_follows {α : Type} {g : Attempt → α} (blind : MarkBlind g) (e : Ev) : e.Follows g (judgeGrant e) := by
  unfold judgeGrant
  split
  · exact .refl e
  · split
    · split
      · exact reportResult_follows blind e _ _ _
      · exact .refl e
    · exact .refl e

section
variable {e : Ev} {r : CopyRef} {j : Job} {roll : Fin 2} {i : Fin 32} {c : CopyRecord}

/-- The event of a grant before it is judged against a strip that waits (R90, R95, R96, R114). -/
def granted (r : CopyRef) (j : Job) (roll : Fin 2) (i : Fin 32) (e : Ev) : Ev :=
  let marks := grantMarks r j e.st.media.settings e.st.media.pos e.st.media.marks
  ((((((e.modifyCopy r (CopyRecord.grant e.st.now e.st.media.pos (cutsOwned r marks) j.check.isSome
      (e.st.media.types[j.mediaType].pauseLimit * 1000) e.st.media.rolls[roll].width)).modifyJob r.handle
        Job.afterGrant).mapMedia fun x => { x with rollInPath := some roll, marks := marks, lastNone := false }).mapSched
          fun u => { u with grant := some { ref := r, printing := true, roll := roll }, pointer := i + 1 }).mapScan
            ScanUnit.disqualify).mapColour (ColourUnit.addStrip r j))

theorem grant_eq (r : CopyRef) (j : Job) (roll : Fin 2) (i : Fin 32) (e : Ev) :
    grant r j roll i e = judgeGrant (granted r j roll i e) := rfl

/-- The granted copy and its job (R9, R11). -/
theorem granted_attempt (here : e.st.job? r.handle = some j) (copy : j.copy? r.copy = some c) (attempt : c.attempt = r.attempt)
    {cuts : Nat} (owned : cuts = cutsOwned r (grantMarks r j e.st.media.settings e.st.media.pos e.st.media.marks)) :
    ∃ f, f = CopyRecord.grant e.st.now e.st.media.pos cuts j.check.isSome
        (e.st.media.types[j.mediaType].pauseLimit * 1000) e.st.media.rolls[roll].width ∧
      (granted r j roll i e).st.attempt? r = some (Job.afterGrant { j with copies := modifyCopies r f j.copies }, f c) := by
  subst owned
  refine ⟨_, rfl, attempt?_eq_some.2 ⟨?_, ?_, attempt⟩⟩
  · show ((e.modifyCopy r _).modifyJob r.handle Job.afterGrant).st.job? r.handle = _
    rw [job?_modifyJob_same, Ev.modifyCopy, job?_modifyJob_same, here]
    rfl
  · exact (copy?_congr (afterGrant_copies _) _).trans (copy?_modifyCopies _ copy attempt)

end

/-! ### The request -/

section
variable {s : State} {tag : Byte} {i h : Fin 32} {j : Job} {n : Nat} {c : CopyRecord} {roll : Fin 2}

/-- A walk that finds a job grants its copy (R90, R92, R93). -/
theorem answerWalk_some {e : Ev} (found : e.st.walkPhases 32 e.st.sched.pointer = some (i, h)) (here : e.st.job? h.val = some j)
    (number : j.copyChoice = some n) (copy : j.copy? n = some c) (choice : e.st.rollChoice j = some roll) :
    answerWalk e = (settleMarks (grant { handle := h.val, copy := n, attempt := c.attempt } j roll i e), Reply.ok
      (descriptor { handle := h.val, copy := n, attempt := c.attempt } roll j
        (e.st.targetsOf { handle := h.val, copy := n, attempt := c.attempt }).length e.st.media.pos)) := by
  unfold answerWalk
  rw [found]
  dsimp only
  rw [here]
  dsimp only
  rw [number, choice]
  dsimp only
  rw [copy]

/-- PANEL_REQUEST where no gate stands and the walk finds a job (R89, R90). -/
theorem taken_grants (idle : s.printing = none) (run : s.sched.power = .run) (confirmed : s.meter.confirmed = true)
    (order : s.sched.abort = none)
    (found : State.walkPhases { s with sched := s.sched.load } 32 s.sched.load.pointer = some (i, h))
    (here : s.job? h.val = some j) (number : j.copyChoice = some n) (copy : j.copy? n = some c)
    (choice : s.rollChoice j = some roll) : ReqKind.panelRequest.taken .engine tag [] s =
      (settleMarks (grant { handle := h.val, copy := n, attempt := c.attempt } j roll i (loading .engine s)), Reply.ok
        (descriptor { handle := h.val, copy := n, attempt := c.attempt } roll j
          (s.targetsOf { handle := h.val, copy := n, attempt := c.attempt }).length s.media.pos)) := by
  have open_ : (loading .engine s).st.gates = NoneReasons.clear := by
    rw [loading_gates]
    simp [NoneReasons.clear, run, confirmed, order]
  have found' : (loading .engine s).st.walkPhases 32 (loading .engine s).st.sched.pointer = some (i, h) :=
    (walkPhases_ports { s with sched := s.sched.load } _ 32 _).trans found
  rw [taken_panelRequest, if_neg (by simp [idle]), if_pos open_]
  exact answerWalk_some (e := loading .engine s) found' here number copy choice

end

/-- Settles O32: the granted copy, its schedule and its frame, through the judgement of the waiting strip and the marks. -/
theorem panelRequestGrants : Obligations.PanelRequestGrants := by
  intro s tag i h j n c roll served idle run confirmed order u found here number copy choice r
  have taken := taken_grants (tag := tag) idle run confirmed order found here number copy choice
  have follows : (granted r j roll i (loading .engine s)).Follows Attempt.seized
      (settleMarks (grant r j roll i (loading .engine s))) := by
    refine ((judgeGrant_follows markBlind_seized _).trans (runHead_follows markBlind_seized _)).trans
      (settle_follows _ (fun _ _ => rfl) (.inr fun _ _ => rfl))
  have path : (granted r j roll i (loading .engine s)).SamePath (settleMarks (grant r j roll i (loading .engine s))) :=
    (judgeGrant_samePath _).trans (settleMarks_samePath _)
  obtain ⟨f, is, before⟩ := granted_attempt (r := r) (roll := roll) (i := i) (e := loading .engine s) here copy rfl rfl
  obtain ⟨j', c', later, prints, seized⟩ := follows.printing before (by rw [is]; rfl)
  have calm : (granted r j roll i (loading .engine s)).Within (markParts ++ settleMarkParts)
      (settleMarks (grant r j roll i (loading .engine s))) :=
    .after (settleMarks_within _) ((judgeGrant_within _).mono (by decide))
  have whole : (Ev.begin s).Within (.ports :: ([.books, .sched, .grant, .scan] ++ markParts) ++ settleMarkParts)
      (settleMarks (grant r j roll i (loading .engine s))) :=
    .after (settleMarks_within _) <| .after (grant_within _ r j roll i) <| .after (load_within _) <|
      (accepted_within .engine [] s).mono (by decide)
  have sched : (settleMarks (grant r j roll i (loading .engine s))).st.sched =
      (granted r j roll i (loading .engine s)).st.sched := calm.same .sched (by decide)
  have scan : (settleMarks (grant r j roll i (loading .engine s))).st.scan =
      (granted r j roll i (loading .engine s)).st.scan := calm.same .scan (by decide)
  have printing : (settleMarks (grant r j roll i (loading .engine s))).st.printing = some r := calm.printing.trans rfl
  have quiet := settleMarks_lost (grant r j roll i (loading .engine s))
  clear follows calm
  generalize settleMarks (grant r j roll i (loading .engine s)) = t at *
  obtain ⟨ps, ran, answer, beside⟩ := exec_replies served taken quiet
  subst is
  have started := congrArg (fun x : Option Stamp × Nat × Nat => x.1) seized
  have limit := congrArg (fun x : Option Stamp × Nat × Nat => x.2.1) seized
  have width := congrArg (fun x : Option Stamp × Nat × Nat => x.2.2) seized
  exact ⟨_, j', c', ran, answer, sched, printing, later, prints, started, limit, width, path.1, path.2, scan,
    whole.settingsKept.beside fun q => (beside q).1, whole.same .meter (by decide), whole.same .bays (by decide),
    whole.same .pos (by decide), whole.same .rolls (by decide), whole.same .clock (by decide),
    Prod.ext whole.pins whole.pending⟩

end Sys2Proof.Machine
end

section
/-! A grant onto a clear path (1.4, 6.4, O33). -/

namespace Sys2Proof.Machine

-- One proof after another: the stacks of many waiting threads do not fit the memory of one compile.
set_option Elab.async false

/-! ### An end of event that leaves the ink -/

section
variable {e : Ev}

/-- Where the ink is as the event found it and every bound holds, the end of the event leaves the Ink unit and the
jobs (R34, R35, R39, R42, R43). -/
theorem settleInk_idle (ink : e.st.ink = e.start.ink) (calm : e.freed = false)
    (bound : ∀ c : Fin 12, (e.st.ink.channels[c]).short = false ∧ (e.st.ink.channels[c]).reserved ≤ e.st.ink.usable c) :
    settleInk e = e := by
  have holds (c : Fin 12) : e.st.ink.boundFails c = false := decide_eq_false (Nat.not_lt.2 (bound c).2)
  have flags : evalFlags e = e :=
    foldl_keeps (fun x => x = e) _ _ e (fun x c is => by
      rw [is]
      have dry : evalDry c e = e := if_pos (by rw [ink])
      rw [dry]
      exact if_pos ⟨by rw [ink], by rw [ink]⟩) rfl
  have chosen : e.st.trimChoice = none := by
    cases choice : e.st.trimChoice with
    | none => rfl
    | some h =>
      obtain ⟨-, -, -, c, must, -⟩ := trimmable_iff.1 (trimChoice_some choice)
      unfold State.mustTrim at must
      rw [holds] at must
      cases must
  have trims : trim 32 false e = (false, e) := by
    unfold trim
    rw [chosen]
  have short : settleShort e = e :=
    foldl_keeps (fun x => x = e) _ _ e (fun x c is => by
      rw [is]
      have marked : markShort c e = e := if_neg (by rw [holds]; simp)
      rw [marked]
      exact if_neg (by rw [(bound c).1]; simp)) rfl
  have rose : e.freeRose = false := by
    unfold Ev.freeRose
    rw [calm, ink, Bool.false_or]
    refine Bool.eq_false_iff.2 fun any => ?_
    obtain ⟨c, lt⟩ := (anyOf_iff _).1 any
    exact absurd (of_decide_eq_true lt) (Nat.lt_irrefl _)
  rw [settleInk_eq, flags, trims]
  dsimp only
  rw [short, rose]
  rfl

theorem ink_eq {i k : InkUnit} (bays : i.bays = k.bays) (channels : i.channels = k.channels) : i = k := by
  cases i
  cases k
  cases bays
  cases channels
  rfl

/-- Then the end of the event leaves the jobs but for their pauses, with no attempt to examine. -/
theorem settle_idle (due : e.due = []) (ink : e.st.ink = e.start.ink) (calm : e.freed = false)
    (bound : ∀ c : Fin 12, (e.st.ink.channels[c]).short = false ∧ (e.st.ink.channels[c]).reserved ≤ e.st.ink.usable c) :
    (settle e).st.ink = e.st.ink ∧ ∀ (α : Type) (g : Job → α), (∀ j cs, g { j with copies := cs } = g j) →
      ∀ h, ((settle e).st.job? h).map g = (e.st.job? h).map g := by
  have idle : settleInk { e with lost := false } = { e with lost := false } :=
    settleInk_idle (e := { e with lost := false }) ink calm bound
  refine ⟨?_, fun α g hidden h => by rw [settle_job hidden due, idle]⟩
  have books : settleBooks e = settleAccounts { e with lost := false } := by
    unfold settleBooks
    rw [settleCloses_none (e := { e with lost := false }) due, idle]
  have within : e.Within [.cost, .raised, .store, .hold, .grip, .lost] (settle e) := by
    rw [settle_eq, books]
    exact .after (syncPause_within _) <| .after (syncHold_within _) <| .after (settleAccounts_within _) <|
      .after (setLost_within e false) (.refl _ _)
  exact ink_eq (within.same .bays (by decide)) (within.same .channels (by decide))

end

/-! ### The marks of a grant onto a clear path -/

/-- A mark placed at this distance ahead (R114). -/
def Mark.ahead (s : Pos) (r : CopyRef) (d : Nat) (kind : MarkKind) : Mark := .fresh (s + BitVec.ofNat 32 d) kind r

theorem reached_ahead {s : Pos} {d : Nat} (some_ : 1 ≤ d) (near : d < 2147483648) :
    reached s (s + BitVec.ofNat 32 d) = false := by
  have diff : s - (s + BitVec.ofNat 32 d) = -BitVec.ofNat 32 d := by
    simp only [BitVec.sub_eq_add_neg, BitVec.neg_add]
    rw [← BitVec.add_assoc, BitVec.add_right_neg, BitVec.zero_add]
  unfold reached posDiff
  rw [diff]
  refine decide_eq_false (Int.not_le.2 ?_)
  have value : (-BitVec.ofNat 32 d).toNat = 4294967296 - d := by
    rw [BitVec.toNat_neg, BitVec.toNat_ofNat]
    omega
  rw [BitVec.toInt_eq_toNat_cond, value]
  split <;> omega

theorem ahead_inj {s : Pos} {a b : Nat} (fa : a < 4294967296) (fb : b < 4294967296)
    (same : s + BitVec.ofNat 32 a = s + BitVec.ofNat 32 b) : a = b := by
  have eq := congrArg BitVec.toNat ((BitVec.add_right_inj s).1 same)
  simp only [BitVec.toNat_ofNat] at eq
  omega

section
variable {r : CopyRef} {p : Pos} {ms : List Mark}

/-- A CUT placed where no CUT stands (R114). -/
theorem placeCut_free (free : ∀ k ∈ ms, k.kind = .cut → k.pos ≠ p) : placeCut r p ms = insertMark (.fresh p .cut r) ms := by
  have unowned : ownsCutAt r p ms ≠ true := fun owned => by
    obtain ⟨k, inn, kind, pos, -⟩ := ownsCutAt_iff.1 owned
    exact free k inn kind pos
  have lands : cutLanding r p ms = p := by
    have place := cutLanding_place (n := 0) (Nat.zero_le _) unowned (fun i lt => absurd lt (Nat.not_lt_zero i))
      (fun full => by
        obtain ⟨k, inn, kind, pos, -⟩ := cutFull_iff.1 full
        exact free k inn kind (pos.trans (by simp)))
    simpa using place
  have none_ : (ms.any fun m => m.kind == .cut && m.pos == p) ≠ true := fun some_ => by
    obtain ⟨k, inn, is⟩ := List.any_eq_true.1 some_
    simp only [Bool.and_eq_true, beq_iff_eq] at is
    exact free k inn is.1 is.2
  unfold placeCut
  dsimp only
  rw [lands, if_neg unowned, if_neg none_]

/-- A MEASURE placed among CUTs (R114). -/
theorem placeMeasure_free (free : ∀ k ∈ ms, k.kind = .cut) : placeMeasure r p ms = insertMark (.fresh p .measure r) ms := by
  have place (n : Nat) : measurePosition ms n p = p := by
    cases n with
    | zero => rfl
    | succ n =>
      refine if_neg fun some_ => ?_
      obtain ⟨k, inn, is⟩ := List.any_eq_true.1 some_
      simp [free k inn] at is
  unfold placeMeasure
  rw [place]

end

section
variable {r : CopyRef} {j : Job} {ps : PathSettings} {s : Pos}

/-- The lead CUT of a copy granted at `s` (R114). -/
def leadMarks (r : CopyRef) (j : Job) (ps : PathSettings) (s : Pos) : List Mark :=
  if j.leadCut then [.ahead s r ps.dCut .cut] else []

/-- Its MEASURE. -/
def stripMarks (r : CopyRef) (j : Job) (ps : PathSettings) (s : Pos) : List Mark :=
  (j.check.map fun k => [Mark.ahead s r (k.stripOffset + ps.dHead) .measure]).getD []

/-- Its trailing CUT. -/
def trailMarks (r : CopyRef) (j : Job) (ps : PathSettings) (s : Pos) : List Mark :=
  if j.trailCut then [.ahead s r (j.copyLength + ps.dCut) .cut] else []

/-- The MEASURE of a copy that checks colour, among these marks (R114). -/
def measured (r : CopyRef) (j : Job) (ps : PathSettings) (s : Pos) (ms : List Mark) : List Mark :=
  match j.check with
  | none => ms
  | some p => placeMeasure r (s + steps p.stripOffset + steps ps.dHead) ms

theorem grantMarks_eq (r : CopyRef) (j : Job) (ps : PathSettings) (s : Pos) (ms : List Mark) : grantMarks r j ps s ms =
    if j.trailCut then placeCut r (s + steps j.copyLength + steps ps.dCut)
        (measured r j ps s (if j.leadCut then placeCut r (s + steps ps.dCut) ms else ms))
      else measured r j ps s (if j.leadCut then placeCut r (s + steps ps.dCut) ms else ms) := rfl

theorem leadMarks_clear : (if j.leadCut then placeCut r (s + steps ps.dCut) [] else []) = leadMarks r j ps s := by
  unfold leadMarks
  split
  · rw [placeCut_free fun k inn => absurd inn List.not_mem_nil]
    rfl
  · rfl

theorem mem_leadMarks {k : Mark} (inn : k ∈ leadMarks r j ps s) : k = .ahead s r ps.dCut .cut := by
  unfold leadMarks at inn
  split at inn
  · exact List.mem_singleton.1 inn
  · cases inn

theorem mem_stripMarks {k : Mark} (inn : k ∈ stripMarks r j ps s) :
    ∃ x, j.check = some x ∧ k = .ahead s r (x.stripOffset + ps.dHead) .measure := by
  unfold stripMarks at inn
  cases check : j.check with
  | none => simp [check] at inn
  | some x =>
    simp only [check, Option.map_some, Option.getD_some, List.mem_singleton] at inn
    exact ⟨x, rfl, inn⟩

theorem mem_trailMarks {k : Mark} (inn : k ∈ trailMarks r j ps s) : k = .ahead s r (j.copyLength + ps.dCut) .cut := by
  unfold trailMarks at inn
  split at inn
  · exact List.mem_singleton.1 inn
  · cases inn

theorem measured_clear : (measured r j ps s (leadMarks r j ps s)).Perm (leadMarks r j ps s ++ stripMarks r j ps s) := by
  unfold measured stripMarks
  cases j.check with
  | none => simp
  | some k =>
    have mark : Mark.fresh (s + steps k.stripOffset + steps ps.dHead) .measure r =
        Mark.ahead s r (k.stripOffset + ps.dHead) .measure := by
      unfold Mark.ahead steps
      rw [BitVec.ofNat_add, BitVec.add_assoc]
    dsimp only [Option.map_some, Option.getD_some]
    rw [placeMeasure_free fun k inn => by rw [mem_leadMarks inn]; rfl, mark]
    exact (insertMark_perm _ _).trans
      (List.perm_append_comm (l₁ := [Mark.ahead s r (k.stripOffset + ps.dHead) .measure]))

/-- On a clear path each mark of the copy is a mark of its own (R114). -/
theorem grantMarks_clear (len : 100 ≤ j.copyLength ∧ j.copyLength ≤ 300000) (cut : ps.dCut ≤ 30000) :
    (grantMarks r j ps s []).Perm (leadMarks r j ps s ++ stripMarks r j ps s ++ trailMarks r j ps s) := by
  have strip := measured_clear (r := r) (j := j) (ps := ps) (s := s)
  rw [grantMarks_eq, leadMarks_clear]
  generalize measured r j ps s (leadMarks r j ps s) = ms at strip ⊢
  unfold trailMarks
  split
  · have place : s + steps j.copyLength + steps ps.dCut = s + BitVec.ofNat 32 (j.copyLength + ps.dCut) := by
      unfold steps
      rw [BitVec.ofNat_add, BitVec.add_assoc]
    rw [place, placeCut_free fun k inn kind pos => ?_]
    · exact (insertMark_perm _ _).trans ((strip.cons _).trans
        (List.perm_append_comm (l₁ := [Mark.ahead s r (j.copyLength + ps.dCut) .cut])))
    · rcases List.mem_append.1 (strip.mem_iff.1 inn) with first | second
      · rw [mem_leadMarks first] at pos
        have := ahead_inj (s := s) (a := ps.dCut) (b := j.copyLength + ps.dCut) (by omega) (by omega) pos
        omega
      · obtain ⟨x, -, is⟩ := mem_stripMarks second
        rw [is] at kind
        cases kind
  · rw [List.append_nil]
    exact strip

/-- None of them is reached where it is placed (R114, R116). -/
theorem clear_rest (len : 100 ≤ j.copyLength ∧ j.copyLength ≤ 300000)
    (strip : ∀ k, j.check = some k → k.stripOffset + k.stripLength ≤ j.copyLength)
    (path : 100 ≤ ps.dHead ∧ ps.dHead + 100 ≤ ps.dCut ∧ ps.dCut ≤ 30000) {k : Mark}
    (inn : k ∈ leadMarks r j ps s ++ stripMarks r j ps s ++ trailMarks r j ps s) : reached s k.pos = false := by
  obtain ⟨head, cut, top⟩ := path
  rcases List.mem_append.1 inn with front | trail
  · rcases List.mem_append.1 front with lead | measure
    · rw [mem_leadMarks lead]
      exact reached_ahead (by omega) (by omega)
    · obtain ⟨x, check, rfl⟩ := mem_stripMarks measure
      have := strip x check
      exact reached_ahead (by omega) (by omega)
  · rw [mem_trailMarks trail]
    exact reached_ahead (by omega) (by omega)

/-- Its CUT marks are its lead and its trailing one. -/
theorem cutsOwned_clear : cutsOwned r (leadMarks r j ps s ++ stripMarks r j ps s ++ trailMarks r j ps s) =
    (leadMarks r j ps s).length + (trailMarks r j ps s).length := by
  have cuts {ms : List Mark} {d : Nat} (all : ∀ k ∈ ms, k = .ahead s r d .cut) : cutsOwned r ms = ms.length := by
    unfold cutsOwned
    rw [List.filter_eq_self.2 fun k inn => by rw [all k inn]; simp [Mark.ahead, Mark.fresh]]
  have strip : cutsOwned r (stripMarks r j ps s) = 0 := by
    unfold cutsOwned
    rw [List.filter_eq_nil_iff.2 fun k inn => ?_]
    · rfl
    · obtain ⟨x, -, rfl⟩ := mem_stripMarks inn
      simp [Mark.ahead, Mark.fresh]
  have append (a b : List Mark) : cutsOwned r (a ++ b) = cutsOwned r a + cutsOwned r b := by
    unfold cutsOwned
    rw [List.filter_append, List.length_append]
  rw [append, append, strip, cuts fun k => mem_leadMarks, cuts fun k => mem_trailMarks]
  rfl

theorem cutsOwned_perm {a b : List Mark} (same : a.Perm b) : cutsOwned r a = cutsOwned r b := (same.filter _).length_eq

end

/-! ### The grant -/

theorem judgeGrant_none {e : Ev} (none_ : e.st.colour.measurement = none) : judgeGrant e = e := by
  unfold judgeGrant
  rw [none_]

theorem addStrip_measurement (r : CopyRef) (j : Job) (u : ColourUnit) : (u.addStrip r j).measurement = u.measurement := by
  unfold ColourUnit.addStrip
  split <;> rfl

theorem addStrip_strips (r : CopyRef) (j : Job) {u : ColourUnit} (clear : u.strips = []) : (u.addStrip r j).strips =
    (j.check.map fun _ => [({ ref := r, mediaType := j.mediaType, clock := none } : StripEntry)]).getD [] := by
  unfold ColourUnit.addStrip
  cases j.check with
  | none => exact clear
  | some k => simp [clear]

/-- A copy chosen for a grant is PENDING (R92). -/
theorem pending_of_copyChoice {j : Job} {n : Nat} {c : CopyRecord} (number : j.copyChoice = some n)
    (copy : j.copy? n = some c) : c.state = .pending := by
  have pending : j.HasCopy CopyRecord.isPending n := by
    rcases copyChoice_eq_some.1 number with first | ⟨-, first⟩
    · exact (hasCopy_of_firstCopy? first).mono fun c => by simpa using fun is _ => is
    · exact hasCopy_of_firstCopy? first
  obtain ⟨c', copy', is⟩ := pending
  cases copy'.symm.trans copy
  simpa using is

/-- The job of a granted copy is CLOSING with its last PENDING copy, and as before otherwise (R9). -/
theorem granted_state {r : CopyRef} {j : Job} {c : CopyRecord} {f : CopyRecord → CopyRecord}
    (copy : j.copy? r.copy = some c) (attempt : c.attempt = r.attempt) (was : c.state = .pending)
    (is : (f c).state = .printing) :
    (Job.afterGrant { j with copies := modifyCopies r f j.copies }).state =
      if j.countIn .pending = 1 then .closing else j.state := by
  have count := countIn_modifyCopies f copy attempt .pending
  rw [if_pos was, if_neg (by rw [is]; simp), Nat.add_zero] at count
  unfold Job.afterGrant
  by_cases last : j.countIn .pending = 1
  · rw [if_pos (by omega), if_pos last]
  · rw [if_neg (by omega), if_neg last]

section
variable {s : State} {r : CopyRef} {j : Job} {roll : Fin 2} {i : Fin 32} {c : CopyRecord}

/-- The end of a grant's event where no mark is reached (R116). -/
theorem settle_granted {e : Ev} (clear : e.st.media.marks = []) (idle : e.st.colour.measurement = none)
    (len : 100 ≤ j.copyLength ∧ j.copyLength ≤ 300000)
    (strip : ∀ k, j.check = some k → k.stripOffset + k.stripLength ≤ j.copyLength)
    (path : 100 ≤ e.st.media.settings.dHead ∧ e.st.media.settings.dHead + 100 ≤ e.st.media.settings.dCut ∧
      e.st.media.settings.dCut ≤ 30000) :
    settleMarks (grant r j roll i e) = settle (granted r j roll i e) := by
  have marks : (granted r j roll i e).st.media.marks =
      grantMarks r j e.st.media.settings e.st.media.pos e.st.media.marks := rfl
  have pos : (granted r j roll i e).st.media.pos = e.st.media.pos := rfl
  have waits : (granted r j roll i e).st.colour.measurement = none := (addStrip_measurement r j _).trans idle
  rw [clear] at marks
  unfold settleMarks
  rw [grant_eq, judgeGrant_none waits, runHead_rest fun k inn => ?_]
  rw [marks] at inn
  rw [pos]
  exact clear_rest len strip path ((grantMarks_clear len path.2.2).mem_iff.1 inn)

end

/-- Settles O33: the marks of a clear path lie apart and ahead, so the event ends with its consequences alone. -/
theorem grantOnAClearPath : Obligations.GrantOnAClearPath := by
  intro s tag i h j n c roll served idle run confirmed order unloaded found here number copy choice clear alone bare
    waiters figures bound least most fits r unfired lead strip trail
  have same : s.sched.load = s.sched := if_neg (by simp [unloaded])
  have taken := taken_grants (tag := tag) idle run confirmed order (by rw [same]; exact found) here number copy choice
  obtain ⟨head, -, cut, top, -⟩ := figures.path
  have path := And.intro head (And.intro cut top)
  have len := And.intro least most
  rw [settle_granted (e := loading .engine s) clear alone len fits path] at taken
  have apart : (grantMarks r j s.media.settings s.media.pos []).Perm (lead ++ strip ++ trail) := grantMarks_clear len top
  have owned : lead.length + trail.length =
      cutsOwned r (grantMarks r j s.media.settings s.media.pos s.media.marks) := by
    rw [clear, cutsOwned_perm apart]
    exact cutsOwned_clear.symm
  obtain ⟨f, is, before⟩ := granted_attempt (r := r) (roll := roll) (i := i) (e := loading .engine s) here copy rfl owned
  obtain ⟨j', c', later, -, record⟩ := settle_attempt (e := granted r j roll i (loading .engine s)) rfl before
  obtain ⟨ink, job⟩ := settle_idle (e := granted r j roll i (loading .engine s)) rfl rfl rfl bound
  have kept := settle_kept (granted r j roll i (loading .engine s))
  have marks : (settle (granted r j roll i (loading .engine s))).st.media.marks =
      grantMarks r j s.media.settings s.media.pos s.media.marks := by
    rw [kept.media]
    rfl
  have strips : (settle (granted r j roll i (loading .engine s))).st.colour.strips =
      (j.check.map fun _ => [({ ref := r, mediaType := j.mediaType, clock := none } : StripEntry)]).getD [] := by
    rw [kept.colour]
    exact addStrip_strips r j bare
  have state : (((settle (granted r j roll i (loading .engine s))).st.job? r.handle).map Job.state) = _ :=
    job JobState Job.state (fun _ _ => rfl) r.handle
  rw [(attempt?_eq_some.1 later).1, (attempt?_eq_some.1 before).1] at state
  have ink' : (settle (granted r j roll i (loading .engine s))).st.ink = s.ink := ink
  have quiet : (settle (granted r j roll i (loading .engine s))).lost = false := settle_lost _
  clear ink kept job
  generalize settle (granted r j roll i (loading .engine s)) = t at *
  obtain ⟨ps, ran, -, -⟩ := exec_replies served taken quiet
  subst is
  have state' : j'.state = if j.countIn .pending = 1 then .closing else j.state :=
    (Option.some.inj state).trans (granted_state copy rfl (pending_of_copyChoice number copy) rfl)
  obtain ⟨k, here', eligible⟩ := walkPhases_eligible found
  cases here'.symm.trans here
  refine ⟨_, j', c', ran, ?_, later, ?_, ?_, strips, fun last => by rw [state', if_pos last], fun more => ?_, ink'⟩
  · show t.st.media.marks.Perm _
    rw [marks, clear]
    exact apart
  · exact congrArg (·.outstandingCuts) record
  · exact congrArg (·.measure) record
  · rw [state', if_neg (by omega), queued_of_eligible eligible]

end Sys2Proof.Machine
end

section
/-! The admission of a submission (1.3, 2.6, 8.3, O23). -/

namespace Sys2Proof.Machine

-- One proof after another: the stacks of many waiting threads do not fit the memory of one compile.
set_option Elab.async false

theorem job?_entry (s : State) (h : Fin 32) : s.job? h.val = s.store.jobs[h] := dif_pos h.isLt

theorem media_eq {m n : Media} (same : m.sameButHold n) (hold : (m.hold, m.pause) = (n.hold, n.pause)) : m = n := by
  obtain ⟨hold, pause⟩ := Prod.mk.inj hold
  unfold Media.sameButHold at same
  rw [same, hold, pause]

/-! ### The account of the admitted job -/

section
variable {e : Ev} {a : Fin 32}

/-- An evaluation writes the overrun flag of its account alone (R161). -/
theorem evalOverrun_account (k : Fin 32) : (k ≠ a → (evalOverrun a e).st.cost.accounts[k] = e.st.cost.accounts[k]) ∧
    ∃ b, (evalOverrun a e).st.cost.accounts[k] = { e.st.cost.accounts[k] with overrun := b } := by
  unfold evalOverrun
  dsimp only
  have written (b : Bool) : (k ≠ a → (e.modifyAccount a fun x => { x with overrun := b }).st.cost.accounts[k] =
      e.st.cost.accounts[k]) ∧ ∃ b', (e.modifyAccount a fun x => { x with overrun := b }).st.cost.accounts[k] =
        { e.st.cost.accounts[k] with overrun := b' } := by
    rw [modifyAccount_account]
    by_cases same : k = a
    · rw [if_pos same]
      exact ⟨fun other => absurd same other, b, rfl⟩
    · rw [if_neg same]
      exact ⟨fun _ => rfl, _, rfl⟩
  split_ifs
  · exact ⟨fun _ => rfl, _, rfl⟩
  · exact written _
  · exact written _

theorem evalOverrun_prices : (evalOverrun a e).st.cost.prices = e.st.cost.prices := by
  unfold evalOverrun
  dsimp only
  split_ifs
  · rfl
  · show (e.modifyAccount a _).st.cost.prices = _
    rw [modifyAccount_cost]
  · rw [modifyAccount_cost]

end

/-! ### The admission -/

section
variable {e : Ev} {h : Fin 32} {x : Submission} {j : Job}

theorem ask_newJob (s : State) (x : Submission) (c : Fin 12) : (newJob s x).ask c =
    x.copies * x.estimate[c] + (x.copies * x.estimate[c] * x.margin + 99) / 100 := by
  unfold Job.ask
  rw [countIn_newJob, if_pos rfl]
  rfl

/-- The ask is tried on the job as listed, which takes nothing or waits (R7, R38). -/
theorem admitJob_tried (h : Fin 32) (j : Job) (e : Ev) :
    (listed h j e).Within [.store, .books, .waitList, .channels, .reserved] (admitJob h j e) := by
  rw [admitJob_eq]
  exact .ite (.after (takeReservation_within _ _ _) (.refl _ _)) (.after (joinWaitList_within _ _) (.refl _ _))

/-- The other entries stand, and the job takes its copy records and its number (R1 to R3). -/
theorem admitJob_counters (h : Fin 32) (j : Job) (e : Ev) :
    (∀ i : Fin 32, i ≠ h → (admitJob h j e).st.store.jobs[i] = e.st.store.jobs[i]) ∧
      (admitJob h j e).st.store.freeCopies = e.st.store.freeCopies - j.copies.length ∧
      (admitJob h j e).st.store.nextSeq = e.st.store.nextSeq + 1 := by
  have entry (i : Fin 32) (other : i ≠ h) : (listed h j e).st.job? i.val = e.st.job? i.val :=
    (job?_listed h j e i.val).trans (if_neg fun same => other (Fin.ext same))
  rw [admitJob_eq]
  split
  · obtain ⟨free, seq, -⟩ := modifyJob_counters
      ((listed h j e).mapInk (InkUnit.mapReserved fun c n => n + j.ask c))
      (fun k => { k with reservation := tabulate 12 fun c => j.ask c, reservationHeld := true, state := .queued }) h.val
    exact ⟨fun i other => by
      rw [← job?_entry, ← job?_entry, job?_takeReservation_ne fun same => other (Fin.ext same), entry i other], free, seq⟩
  · obtain ⟨free, seq, -⟩ := modifyJob_counters (listed h j e) (fun j => { j with state := .waitInk }) h.val
    refine ⟨fun i other => ?_, free, seq⟩
    have moved : (joinWaitList h (listed h j e)).st.job? i.val = (listed h j e).st.job? i.val :=
      job?_modifyJob_ne (e := listed h j e) _ fun same => other (Fin.ext same)
    rw [← job?_entry, ← job?_entry, moved, entry i other]

/-- A job whose ask fits takes it (R37, R38). -/
theorem admitJob_fits (fits : ∀ c, j.ask c ≤ e.st.ink.free c) :
    (admitJob h j e).st.store.jobs[h] = some j.taken ∧
      (admitJob h j e).st.store.waitList = e.st.store.waitList ∧
      ∀ c : Fin 12, (admitJob h j e).st.ink.channels[c] =
        { e.st.ink.channels[c] with reserved := e.st.ink.channels[c].reserved + j.ask c } := by
  have ink : (listed h j e).st.ink = e.st.ink := rfl
  rw [admitJob_eq, if_pos (by rw [ink]; exact (fits_iff _ _).2 fits)]
  refine ⟨?_, takeReservation_waitList _, fun c => ?_⟩
  · rw [← job?_entry]
    exact job?_takeReservation (by rw [job?_listed, if_pos rfl])
  · show ((listed h j e).st.ink.mapReserved fun c n => n + j.ask c).channels[c] = _
    rw [ink]
    unfold InkUnit.mapReserved
    dsimp only
    rw [tabulate_get]

/-- Another waits in its place of the list (R38, R39). -/
theorem admitJob_waits (short : ∃ c, e.st.ink.free c < j.ask c) :
    (admitJob h j e).st.store.jobs[h] = some { j with state := .waitInk } ∧
      (∀ k, k ∈ (admitJob h j e).st.store.waitList ↔ k = h ∨ k ∈ e.st.store.waitList) ∧
      (admitJob h j e).st.ink = e.st.ink := by
  have ink : (listed h j e).st.ink = e.st.ink := rfl
  obtain ⟨c, lt⟩ := short
  rw [admitJob_eq, if_neg (by
    rw [ink]
    exact fun fits => Nat.not_le.2 lt ((fits_iff _ _).1 fits c))]
  refine ⟨?_, fun k => ?_, rfl⟩
  · rw [← job?_entry]
    have moved : (joinWaitList h (listed h j e)).st.job? h.val = ((listed h j e).st.job? h.val).map fun j => { j with state := .waitInk } :=
      job?_modifyJob_same h.val _ (listed h j e)
    rw [moved, job?_listed, if_pos rfl]
    rfl
  · show k ∈ insertAdmitted _ h ((listed h j e).modifyJob h.val fun j => { j with state := .waitInk }).st.store.waitList ↔ _
    rw [mem_insertAdmitted, modifyJob_waitList]
    rfl

/-- What the admission enters in the accounts, the price sets and the reference sets (R129, R150, R155). -/
theorem admitJob_ledger (h : Fin 32) (j : Job) (e : Ev) :
    (∀ k : Fin 32, (admitJob h j e).st.cost.accounts[k] =
      if k = j.account then { e.st.cost.accounts[k] with
        openJobs := e.st.cost.accounts[k].openJobs + 1
        committed := e.st.cost.accounts[k].committed + j.estimateCost } else e.st.cost.accounts[k]) ∧
      (admitJob h j e).st.cost.prices[j.priceSet].inUse = e.st.cost.prices[j.priceSet].inUse + 1 ∧
      ∀ k, j.check = some k →
        (admitJob h j e).st.colour.refs[k.refSet].inUse = e.st.colour.refs[k.refSet].inUse + 1 := by
  have tried := admitJob_tried h j e
  have cost : (admitJob h j e).st.cost = (listed h j e).st.cost := tried.same .cost (by decide)
  have colour : (admitJob h j e).st.colour = (listed h j e).st.colour := tried.same .colour (by decide)
  rw [cost, colour]
  refine ⟨fun k => modifyAccount_account (e.mapStore (JobStore.addJob h j)) j.account k _,
    (lockPrices_inUse j.priceSet (· + 1) _ j.priceSet).trans (if_pos rfl), fun k check => ?_⟩
  exact (lockRefs_inUse j.check (· + 1) _ k.refSet).trans (if_pos (by rw [check]; rfl))

/-- The end of an admission evaluates the account of the job alone (R161). -/
theorem settleAccounts_admitJob (fresh : e.st.cost = e.start.cost) :
    settleAccounts (admitJob h j e) = evalOverrun j.account (admitJob h j e) := by
  refine settleAccounts_one fun k other => ?_
  unfold Ev.accountStands
  rw [(admitJob_ledger h j e).1 k, if_neg other, (admitJob_within e h j).start, ← fresh]
  exact ⟨rfl, rfl, rfl⟩

end

/-! ### The request -/

/-- SUBMIT_JOB that passes every check (R4 to R7). -/
theorem taken_admission {s : State} {tag : Byte} {pl : List Byte} {x : Submission} {h : Fin 32}
    (read : readSubmission s pl = some x) (entry : s.freeEntry = some h) (room : x.copies ≤ s.store.freeCopies)
    (credit : s.passesCredit x = true) : ReqKind.taken .submitJob .job tag pl s =
      (admission h x (accepted .job pl s), Reply.ok (submitReport h.val
        (((admission h x (accepted .job pl s)).st.job? h.val).getD (newJob s x)))) := by
  rw [taken_submit read, entry]
  dsimp only
  rw [if_neg (Nat.not_lt.2 room), credit]
  exact if_neg (by decide)

/-- Settles O23: the entry, the ledgers and the ink of the admission, with the account's overrun evaluated after it. -/
theorem submitAdmits : Obligations.SubmitAdmits := by
  intro s tag pl x h served read free below room credit ask
  have entry := freeEntry_eq free below
  have taken := taken_admission (tag := tag) read entry room ((passesCredit_iff s x).2 credit)
  have asks (c : Fin 12) : (newJob s x).ask c = ask c := ask_newJob s x c
  have settled : admission h x (accepted .job pl s) =
      evalOverrun x.account (admitJob h (newJob s x) (accepted .job pl s)) := settleAccounts_admitJob rfl
  have evaluated : (admitJob h (newJob s x) (accepted .job pl s)).Within [.cost, .raised]
      (admission h x (accepted .job pl s)) := settleAccounts_within _
  have whole : (Ev.begin s).Within [.ports, .store, .roster, .books, .waitList, .channels, .reserved, .cost, .dues,
      .locked, .colour, .raised] (admission h x (accepted .job pl s)) :=
    .after evaluated <| .after (admitJob_within _ h _) <| (accepted_within .job pl s).mono (by decide)
  have before : (accepted .job pl s).st.store = s.store := rfl
  obtain ⟨others, copies, seq⟩ := admitJob_counters h (newJob s x) (accepted .job pl s)
  obtain ⟨accounts, prices, refs⟩ := admitJob_ledger h (newJob s x) (accepted .job pl s)
  have fitting := admitJob_fits (e := accepted .job pl s) (h := h) (j := newJob s x)
  have waiting := admitJob_waits (e := accepted .job pl s) (h := h) (j := newJob s x)
  have account (k : Fin 32) := evalOverrun_account (e := admitJob h (newJob s x) (accepted .job pl s)) (a := x.account) k
  have prices' := evalOverrun_prices (e := admitJob h (newJob s x) (accepted .job pl s)) (a := x.account)
  have store : (admission h x (accepted .job pl s)).st.store =
      (admitJob h (newJob s x) (accepted .job pl s)).st.store := evaluated.same .store (by decide)
  have channels : (admission h x (accepted .job pl s)).st.ink.channels =
      (admitJob h (newJob s x) (accepted .job pl s)).st.ink.channels := evaluated.same .channels (by decide)
  have colour : (admission h x (accepted .job pl s)).st.colour =
      (admitJob h (newJob s x) (accepted .job pl s)).st.colour := evaluated.same .colour (by decide)
  rw [← settled] at account prices'
  generalize admitJob h (newJob s x) (accepted .job pl s) = f at *
  have quiet : (admission h x (accepted .job pl s)).lost = false := whole.same .lost (by decide)
  generalize admission h x (accepted .job pl s) = t at *
  have held : (∀ c, ask c ≤ s.ink.free c) ∨ ∃ c, s.ink.free c < ask c := by
    by_cases all : ∀ c, ask c ≤ s.ink.free c
    · exact .inl all
    · exact .inr (by simpa using all)
  obtain ⟨j, here, like, code⟩ : ∃ j, t.st.store.jobs[h] = some j ∧ j.sameButInk (newJob s x) ∧
      j.state.code = if j.state = .queued then 1 else 0 := by
    rw [store]
    rcases held with fits | short
    · exact ⟨_, (fitting fun c => (asks c).trans_le (fits c)).1, rfl, rfl⟩
    · obtain ⟨c, lt⟩ := short
      exact ⟨_, (waiting ⟨c, lt.trans_eq (asks c).symm⟩).1, rfl, rfl⟩
  have report : (t.st.job? h.val).getD (newJob s x) = j := by
    rw [job?_entry, here]
    rfl
  rw [report] at taken
  obtain ⟨ps, ran, answer, -⟩ := exec_replies served taken quiet
  obtain ⟨flag, mine⟩ := (account x.account).2
  rw [(accounts x.account).trans (if_pos rfl)] at mine
  unfold Job.sameButInk at like
  have media : t.st.media = s.media := media_eq (whole.same .media (by decide)) (whole.same .hold (by decide))
  refine ⟨_, j, ran, here, like, fun i other => ?_, ?_, ?_, fun fits => ?_, fun short => ?_, ?_, ?_, ?_, ?_, fun i other => ?_,
    ?_, fun k check => ?_, whole.same .bays (by decide), whole.same .meter (by decide), whole.same .scan (by decide),
    whole.same .sched (by decide), media, whole.same .clock (by decide), Prod.ext whole.pins whole.pending⟩
  · show t.st.store.jobs[i] = _
    rw [store, others i other]
    rfl
  · show t.st.store.freeCopies + _ = _
    rw [store, copies, before, copies_newJob, Nat.sub_add_cancel room]
  · show t.st.store.nextSeq = _
    rw [store, seq, before]
  · obtain ⟨now, list, reserved⟩ := fitting fun c => (asks c).trans_le (fits c)
    cases Option.some.inj (here.symm.trans ((congrArg (fun st : JobStore => st.jobs[h]) store).trans now))
    refine ⟨rfl, rfl, fun c => (tabulate_get _ c).trans (asks c), ?_, fun c => ?_⟩
    · show t.st.store.waitList = _
      rw [store, list, before]
    · show t.st.ink.channels[c] = _
      rw [channels, reserved, asks]
      rfl
  · obtain ⟨c, lt⟩ := short
    obtain ⟨now, list, ink⟩ := waiting ⟨c, lt.trans_eq (asks c).symm⟩
    cases Option.some.inj (here.symm.trans ((congrArg (fun st : JobStore => st.jobs[h]) store).trans now))
    refine ⟨rfl, rfl, fun c => by simp [newJob], ?_, fun k => ?_⟩
    · exact ink_eq (whole.same .bays (by decide)) (channels.trans (congrArg InkUnit.channels ink))
    · show k ∈ t.st.store.waitList ↔ _
      rw [store, list, before]
  · rw [← code, show s.store.nextSeq = j.seq by rw [like]; rfl, show s.sched.classMap[x.cls] = j.lane by rw [like]; rfl,
      show s.jobEstimate x = j.estimateCost by rw [like]; rfl]
    exact answer
  · exact congrArg (·.committed) mine
  · exact congrArg (·.openJobs) mine
  · exact congrArg (·.charged) mine
  · have other' : i ≠ (newJob s x).account := other
    refine ((account i).1 other).trans ?_
    rw [accounts, if_neg other']
    rfl
  · show (t.st.cost.prices[x.priceSet]).inUse = _
    rw [prices']
    exact prices
  · show (t.st.colour.refs[k.refSet]).inUse = _
    rw [colour]
    exact refs k check

end Sys2Proof.Machine
end
